-- ==== Sys2Proof/Word.lean ====
section
/-! DEFINITION. The plain word types of the device and the little-endian order of R9. -/

namespace Sys2Proof

/-- One byte of any structure or memory (R9). -/
abbrev Byte := BitVec 8

/-- The bits of an IEEE binary32 value (R29, code 0x01). -/
abbrev F32 := BitVec 32

/-- A 64-bit word: device times, steps, seeds, bound words. -/
abbrev Word64 := BitVec 64

end Sys2Proof
end

