-- ==== Sys2Proof/Syntax.lean ====
section
/-! DEFINITION. The commands the device takes: one constructor of `Instr` for each row of the
opcode table, and the small types of their operands. -/

namespace Sys2Proof

/-- The path a dictionary request arrives on (R398): the field network, or a logical host port. -/
inductive DictPath where
  | field
  | inband (port : Nat) (marked : Bool := false)
  deriving DecidableEq, Repr

/-- What a PTP event message carries (R344). Times are nanoseconds of the PTP timescale. -/
inductive PtpMessage where
  /-- A Sync: the master's origin time, the device's receive stamp, the grandmaster identity. -/
  | sync (originNs receivedNs grandmaster : Nat)
  /-- A Delay_Resp: the device's transmit stamp of its Delay_Req and the master's receive stamp. -/
  | delayResp (sentNs masterNs : Nat)
  deriving DecidableEq, Repr

/-- One CXL device met at enumeration (R231, R232). -/
structure CxlDevice where
  port : Nat
  type3 : Bool
  flit256 : Bool
  capacity : Nat
  lanes : Nat
  gtps : Nat
  deriving DecidableEq, Repr

/-- The HBM events of R241. -/
inductive EccKind where
  | corrected
  | uncorrectable
  deriving DecidableEq, Repr

/-- The NAND faults of R241. -/
inductive NandFailure where
  | program
  | erase
  | target
  /-- A codeword that an instruction in flight of a paddock reads (R238). -/
  | unreadable (paddock flight : Nat)
  deriving DecidableEq, Repr

/-- The unit classes of the error log (R387). -/
inductive UnitClass where
  | plot | stripBank | edgeEngine | hbmBlock | chipLink | hostPort | collectiveEngine
  | drillUnit | controlCore | cxl | flash | directoryBank | device | job
  deriving DecidableEq, Repr

/-- A cause that puts the supply in the derated state (R454). -/
inductive DerateCause where
  | pin (asserted : Bool)
  | regulator (word : Nat)
  deriving DecidableEq, Repr

/-- What the FEC did to the codewords of a message: one was uncorrectable, symbols corrected (R281, R282). -/
structure Codewords where
  uncorrectable : Bool := false
  corrected : Nat := 0
  deriving DecidableEq, Repr

/-- What garbage collection finds (R239). -/
structure FlashLevels where
  /-- Free blocks and spare blocks, in tenths of a percent of raw capacity. -/
  free : Nat
  spare : Nat
  deriving DecidableEq, Repr

/-- What one PMBus poll of one rail returned (R452): nothing where the read failed. -/
structure PmbusReading where
  rail : Nat
  value : Option (Nat × Nat)
  status : Option Nat
  deriving DecidableEq, Repr

/-- The sensor groups of R456. -/
inductive ThermalSensor where
  | mainDie | linkDie | hbmStack
  deriving DecidableEq, Repr

/-- Why a received frame is dropped (R334, R352). -/
inductive DropCause where
  | fcs | icrc | qp1 | unknownQpn | partitionKey
  deriving DecidableEq, Repr

/-- A packet, or the packets of one message, as they reach a queue pair; `marked` where one carries the congestion mark
CE (R341). -/
structure Arrival where
  q : Nat
  marked : Bool := false
  deriving DecidableEq, Repr

/-- The commands of the device: one constructor per row of the opcode table.

Operands: `p` a paddock (0 to 7), `g` the serial number of a program in it, `n` the serial number
of an instruction in flight, `q` a queue-pair entry, `j` an allocation entry. -/
inductive Instr where
  /-- MOVE (R102). Copies or converts a source tensor into a destination tensor, including to and from the flash window. -/
  | move (p g : Nat)
  /-- FILL (R102). Writes every element of the destination with the conversion of the F32 value in P0. -/
  | fill (p g : Nat)
  /-- ELEMWISE (R102). Applies the elementwise function selected by the modifier to broadcast inputs. -/
  | elemwise (p g : Nat)
  /-- REDUCE (R102). Reduces the selected dimensions by sum, sum of squares, maximum, minimum or largest magnitude in the order of R48. -/
  | reduce (p g : Nat)
  /-- ROTARY (R155). Rotates feature pairs of queries or keys by position-dependent angles. -/
  | rotary (p g : Nat)
  /-- STATS (R81). Writes a statistics record for a named tensor as it is stored. -/
  | stats (p g : Nat)
  /-- MATMUL (R134). Forms a matrix product with optional bias and accumulation in the canonical reduction order. -/
  | matmul (p g : Nat)
  /-- MATMUL_GRAD (R137). Forms dX, dW or both for a forward matrix product, in paired or alternating mode. -/
  | matmulGrad (p g : Nat)
  /-- CONV (R175). Runs a grouped 2-D or 3-D convolution as a matrix-family operation on plots. -/
  | conv (p g : Nat)
  /-- CONV_GRAD (R179). Forms the d-input and d-filter gradients of a convolution. -/
  | convGrad (p g : Nat)
  /-- EDGE_CONV (R182). Runs a small-channel convolution on the edge engines, or on padded plots when an engine is unavailable. -/
  | edgeConv (p g : Nat)
  /-- POOL (R186). Computes maximum or average pooling over window positions inside the input. -/
  | pool (p g : Nat)
  /-- ATTN_FWD (R156). Computes fused attention outputs over ragged, optionally paged sequences with the segment fold. -/
  | attnFwd (p g : Nat)
  /-- ATTN_BWD (R159). Recomputes the attention forward pass and forms dQ, dK and dV in two phases. -/
  | attnBwd (p g : Nat)
  /-- KV_APPEND (R169). In its turn, appends new keys and values to cache pages, copying shared or rescaled pages. -/
  | kvAppend (p g : Nat)
  /-- KV_FORK (R170). In its turn, shares a parent sequence's prefix pages with a child sequence. -/
  | kvFork (p g : Nat)
  /-- KV_FREE (R171). In its turn, releases every page of one page-table row. -/
  | kvFree (p g : Nat)
  /-- NORM_FWD (R147). Applies layer norm or root-mean-square norm to each row. -/
  | normFwd (p g : Nat)
  /-- NORM_BWD (R148). Recomputes the forward row and forms the normalisation gradients. -/
  | normBwd (p g : Nat)
  /-- SOFTMAX_FWD (R150). Computes softmax of each row up to its length. -/
  | softmaxFwd (p g : Nat)
  /-- SOFTMAX_BWD (R150). Recomputes the forward softmax row and forms its gradient. -/
  | softmaxBwd (p g : Nat)
  /-- COMPACT (R202). Compacts a plain tensor into a Churn-format tensor in length, offset and block phases. -/
  | compact (p g : Nat)
  /-- CODEBOOK_LOAD (R198). COMPACT with modifier 1 atomically loads a codebook image into a slot, unless the slot is busy. -/
  | codebookLoad (p g : Nat)
  /-- EXPAND (R204). Decodes the Churn blocks that cover a requested element range into a plain output. -/
  | expand (p g : Nat)
  /-- COLLECT_ALL_REDUCE (R318). COLLECT mode 0 sums a tensor across the group in the rank-ordered tree. -/
  | collectAllReduce (p g : Nat)
  /-- COLLECT_REDUCE_SCATTER (R318). COLLECT mode 1 sums across the group and keeps this rank's share. -/
  | collectReduceScatter (p g : Nat)
  /-- COLLECT_ALL_GATHER (R318). COLLECT mode 2 places every rank's share into the full tensor in rank order. -/
  | collectAllGather (p g : Nat)
  /-- COLLECT_BROADCAST (R318). COLLECT mode 3 copies the root's tensor to every member. -/
  | collectBroadcast (p g : Nat)
  /-- COLLECT_SEND (R320). COLLECT mode 4 sends a tensor to one peer rank. -/
  | collectSend (p g : Nat)
  /-- COLLECT_RECEIVE (R320). COLLECT mode 5 receives a tensor from one peer rank. -/
  | collectReceive (p g : Nat)
  /-- DISPATCH (R325). Scans expert choices across the group and routes admitted token rows to expert hosts. -/
  | dispatch (p g : Nat)
  /-- COMBINE (R326). Returns expert outputs to their tokens and sums them with the gating weights. -/
  | combine (p g : Nat)
  /-- UPDATE (R76). Applies the optimizer update to split master weights and re-encodes the carry. -/
  | update (p g : Nat)
  /-- DECODE_BATCH (R254). Fills a batch of admitted, decoded and augmented samples and its sample table. -/
  | decodeBatch (p g : Nat)
  /-- TOKENIZE (R273). Converts texts into token identifiers by longest match against a loaded dictionary. -/
  | tokenize (p g : Nat)
  /-- DICTIONARY_IMAGE_LOAD (R272). TOKENIZE with modifier 1 loads a dictionary image into a slot, unless the slot is busy. -/
  | dictionaryImageLoad (p g : Nat)
  /-- BOXDECODE (R187). Decodes box deltas against anchors into clipped boxes. -/
  | boxdecode (p g : Nat)
  /-- SUPPRESS (R189). Keeps the highest-scoring boxes that do not overlap boxes already kept. -/
  | suppress (p g : Nat)
  /-- BARRIER (R107). Issues once every earlier instruction of the paddock has completed, and optionally applies the RWS shadows. -/
  | barrier (p g : Nat)
  /-- STEP_COMMIT (R368). Builds and sends the partner image, gathers the reports and waits for the seal. -/
  | stepCommit (p g : Nat)
  /-- WAIT (R98). Holds issue of its program until an event counter reaches its target. -/
  | wait (p g : Nat)
  /-- SIGNAL (R107). Adds an increment to an event counter at issue. -/
  | signal (p g : Nat)
  /-- SIGNAL_DEFERRED_ADD (R107). A mode 1 SIGNAL adds its increment once every earlier record of its program has completed. -/
  | signalDeferredAdd (p g : Nat)
  /-- PROGRAM_MESSAGE (R84). A SEND on a paddock queue pair delivers an inline or by-reference program message. -/
  | programMessage (q : Arrival) (payload : List Byte)
  /-- INSTRUCTION_COMPLETE (R130). An instruction completes once every strip has released its context, and returns its status and completion signal. -/
  | instructionComplete (p n : Nat)
  /-- PROGRAM_END (R87). When a program ends, the device sends its completion message. -/
  | programEnd (p g : Nat)
  /-- WAIT_TIMEOUT (R100). A WAIT's time-out expires and the WAIT returns 0x70. -/
  | waitTimeout (p g : Nat)
  /-- WORK_REQUEST (R126). A plot's request to the strip work counter claims, steals or parks atomically. -/
  | workRequest (strip plot : Nat)
  /-- PHASE_BARRIER (R122). Second-phase units are handed out once every first-phase unit has completed in every strip. -/
  | phaseBarrier (p n : Nat)
  /-- RDMA_WRITE (R339). An RDMA WRITE writes into a fixed or CXL allocation of the paddock, or is refused or dropped. -/
  | rdmaWrite (q : Arrival) (rkey addr : Nat) (data : List Byte)
  /-- RDMA_READ (R339). An RDMA READ returns bytes from a fixed or CXL allocation of the paddock. -/
  | rdmaRead (q : Arrival) (rkey addr len : Nat)
  /-- UNSUPPORTED_ROCE_REQUEST (R334). A request outside the subset receives a NAK for invalid request and its queue pair enters error. -/
  | unsupportedRoceRequest (q : Arrival)
  /-- ROCE_ACK_TIMEOUT (R340). A queue pair's ACK time-out expires and the request is retried or the queue pair enters error. -/
  | roceAckTimeout (q : Nat)
  /-- RNR_NAK (R340). A received RNR NAK makes the device retry a completion under the entry's RNR retry. -/
  | rnrNak (q : Arrival)
  /-- CNP_RECEIVED (R341). A received CNP halves the queue pair's send rate. -/
  | cnpReceived (q : Nat)
  /-- ECN_RATE_RISE (R341). After 55 µs without a CNP, the queue pair's rate rises by 5 % of line rate. -/
  | ecnRateRise (q : Nat)
  /-- PFC_PAUSE (R341). A PFC pause frame pauses the configured priorities of a logical port. -/
  | pfcPause (port : Nat) (pauses : List (Nat × Nat))
  /-- LOGICAL_PORT_DOWN (R352). A logical port goes down and its RC queue pairs retry, then enter error. -/
  | logicalPortDown (port : Nat)
  /-- FABRIC_CARRIAGE_RECEIVED (R342). A chip-link message carried between farms over RoCE is checked and routed within the farm. -/
  | fabricCarriageReceived (q : Arrival) (header payload : List Byte)
  /-- PTP_EVENT_MESSAGE (R344). A PTP event message is time-stamped and, at a time source, steers device time. -/
  | ptpEventMessage (port domain : Nat) (message : PtpMessage)
  /-- LINK_MESSAGE (R281). A chip-link message is checked, then forwarded by cut-through or delivered. -/
  | linkMessage (link : Nat) (codewords : Codewords) (badKind : Bool) (header payload : List Byte)
  /-- ABORT (R281). A received abort makes the device discard the partial message on its lane. -/
  | abort (link : Nat) (header : List Byte)
  /-- LINK_CONTROL (R285). A link-control message returns credits and cumulative acknowledgements. -/
  | linkControl (link : Nat) (header : List Byte)
  /-- NAK (R282). A NAK makes the sender replay go-back-N from the expected sequence. -/
  | nak (link : Nat) (header : List Byte)
  /-- REPLAY_PRBS_CHECK (R282). The receiver checks the 16 PRBS31 idle slots that follow a replay as the link's targeted test. -/
  | replayPrbsCheck (link errors : Nat)
  /-- LINK_ACK_TIMEOUT (R282). 10 µs without acknowledgement, or 8 replays of one sequence, take the link down. -/
  | linkAckTimeout (link : Nat)
  /-- LINK_IDENTITY (R286). A received link-identity message is checked against the cabling and admits the link to routing. -/
  | linkIdentity (link : Nat) (message : List Byte)
  /-- LINK_TRAINING_COMPLETE (R286). All four lanes are trained and deskewed and FEC locks. -/
  | linkTrainingComplete (link : Nat)
  /-- LANE_PRBS_TEST_END (R293). The lane PRBS test after a retrain ends, bringing the link up or retiring it with a spare. -/
  | lanePrbsTestEnd (link errors : Nat)
  /-- BYPASS_RELEASE_REQUEST (R295). A link-control release request asks neighbours to release a Headland pair. -/
  | bypassReleaseRequest (link : Nat) (header : List Byte)
  /-- BYPASS_RELEASE_GRANT (R295). A release grant from a neighbour lets the pair leave bypass once both neighbours have granted. -/
  | bypassReleaseGrant (link : Nat) (header : List Byte)
  /-- TIME_EXCHANGE_TIMER (R299). Every 1 ms a child sends a time exchange request on each up link. -/
  | timeExchangeTimer
  /-- TIME_EXCHANGE_REQUEST (R299). A parent answers a time exchange request with t1, t2 and t3. -/
  | timeExchangeRequest (link : Nat) (message : List Byte) (stampNs stampFrac : Nat)
  /-- TIME_EXCHANGE_REPLY (R299). A child computes the offset and slews device time toward its parent. -/
  | timeExchangeReply (link : Nat) (message : List Byte) (stampNs stampFrac : Nat)
  /-- HOLDOVER_TIMEOUT (R301). 10 ms without an exchange puts the device in holdover. -/
  | holdoverTimeout
  /-- FREE_RUNNING_TIMEOUT (R301). After 5 s of holdover the device becomes free-running. -/
  | freeRunningTimeout
  /-- TIME_SOURCE_TAKEOVER (R300). A candidate serves as time source after 10 ms with no lower locked candidate named. -/
  | timeSourceTakeover
  /-- GROUP_FORM (R307). The form command checks a group definition, sets the job epoch and step, and starts formation. -/
  | groupForm
  /-- GROUP_DISSOLVE (R312). The dissolve command marks a group for dissolution. -/
  | groupDissolve
  /-- DISSOLVE_EFFECT (R312). Once every issued operation on the group has completed, the slot becomes dissolved. -/
  | dissolveEffect (p slot : Nat)
  /-- FORMATION_INVITE (R310). A member compares its values with the invite and reports to its cluster head. -/
  | formationInvite
  /-- FORMATION_REPORT (R310). A cluster head merges reports and passes one report upward; rank 0 decides. -/
  | formationReport
  /-- FORMATION_VERDICT (R311). A received verdict forms or refuses the group and is passed down the tree. -/
  | formationVerdict
  /-- FORMATION_DISSOLVE_MESSAGE (R309). A formation message of kind dissolve is received for a group. -/
  | formationDissolveMessage
  /-- FORMATION_TIMEOUT (R311). Rank 0's formation time-out expires and it decides with the reports it holds. -/
  | formationTimeout (p slot : Nat)
  /-- VERDICT_WAIT_TIMEOUT (R311). A member with no verdict by twice the formation time-out sets verdict 0x70 itself. -/
  | verdictWaitTimeout (p slot : Nat)
  /-- COLLECTIVE_DATA_MESSAGE (R313). Collective data is checked for epoch, step and operation word, then folded or placed. -/
  | collectiveDataMessage
  /-- EXPERT_DISPATCH_MESSAGE (R325). Dispatch scan counts or token rows arrive and are placed at the expert host. -/
  | expertDispatchMessage
  /-- EXPERT_COMBINE_MESSAGE (R326). Combine scan counts or expert output rows arrive for pairing with admitted choices. -/
  | expertCombineMessage
  /-- FABRIC_OP_TIMEOUT (R321). A fabric operation's time-out P4 expires and it returns 0x70. -/
  | fabricOpTimeout (p n : Nat)
  /-- DIRECTORY_LOAD_COPY (R323). A directory load in copy mode reads entries into the shadow. -/
  | directoryLoadCopy
  /-- DIRECTORY_LOAD_CANONICAL (R323). A directory load in canonical mode places experts over ranks by the division. -/
  | directoryLoadCanonical
  /-- DIRECTORY_DUMP (R332). Writes the applied directory share to an address in a fixed allocation. -/
  | directoryDump
  /-- IMAGE_DATA (R381). Partner image bytes are written into the held slot and their digests checked. -/
  | imageData
  /-- IMAGE_ACK (R381). A partner acknowledges an image and the member reports up the formation tree. -/
  | imageAck
  /-- IMAGE_REFUSAL (R369). A partner refuses an image too large for its held slot. -/
  | imageRefusal
  /-- COMMIT_SEAL (R368). The seal marks the images sealed, raises the job step, applies shadows and completes the commit. -/
  | commitSeal (p step : Nat) (result : Nat) (lowestRank : Nat)
  /-- STEP_COMMIT_TIMEOUT (R369). A STEP_COMMIT's time-out P1 expires before the seal. -/
  | stepCommitTimeout (p n : Nat)
  /-- PULL_REQUEST (R381). A restoring member requests image bytes from its source. -/
  | pullRequest
  /-- PULL_DATA (R376). Pulled image bytes arrive and are digest-checked during restore. -/
  | pullData
  /-- RECOVERY_CALL (R372). A member that detects a fault calls the leader, or the alternate. -/
  | recoveryCall (p : Nat)
  /-- RECOVERY_STOP (R373). A member stops the job's paddock, discards shadows and reports its slots. -/
  | recoveryStop
  /-- RECOVERY_REPORT (R374). The leader collects reports and sets the restore point. -/
  | recoveryReport
  /-- PROBE_TIMEOUT (R373). The probe time-out expires and silent members are counted as failed. -/
  | probeTimeout (p : Nat)
  /-- RECOVERY_PLAN (R375). A member rewrites its groups for the new epoch and starts restore. -/
  | recoveryPlan
  /-- RESTORE_COMPLETE (R376). Restore ends: the job record and state are written back and a recovery notice is sent. -/
  | restoreComplete (p : Nat)
  /-- RECOVERY_RESTORED (R382). A restored message reports a member's completed restore. -/
  | recoveryRestored
  /-- STANDBY_PROBE (R370). A standby answers a probe from the leader. -/
  | standbyProbe
  /-- STANDBY_ANSWER (R370). The leader judges a standby usable from its answer. -/
  | standbyAnswer
  /-- RECOVERY_ABANDON (R380). The job is abandoned: its groups are dissolved and the notice carries the outcome. -/
  | recoveryAbandon (p : Nat)
  /-- OFFLOAD_START (R219). With free quota below the headroom, Silo off-loads candidate blocks to CXL. -/
  | offloadStart (p : Nat)
  /-- OFFLOAD_COMPLETE (R219). CXL acknowledges an off-loaded block and its charge is freed. -/
  | offloadComplete (p : Nat)
  /-- FETCH_START (R221). A record entering the lookahead starts the fetch of its off-loaded blocks. -/
  | fetchStart (p : Nat)
  /-- FETCH_COMPLETE (R222). A fetch completes with every block resident. -/
  | fetchComplete (p j : Nat)
  /-- DEADLINE_DECISION (R222). At a missed deadline Silo waits for the fetch or starts the recompute program. -/
  | deadlineDecision (p n : Nat)
  /-- RECOMPUTE_COMPLETE (R222). A recompute program completes before or after the fetch; the second source is discarded. -/
  | recomputeComplete (p j : Nat)
  /-- STAGING (R224). A part of a CXL-window operand is staged into HBM. -/
  | staging (p n : Nat)
  /-- ALLOCATION_ZEROED (R216). Zeroing of an allocation ends and waiting accesses proceed. -/
  | allocationZeroed (p j : Nat)
  /-- ALLOCATION_RELEASE_END (R215). After the last user completes, a releasing allocation is zeroed, freed and becomes unused. -/
  | allocationReleaseEnd (p j : Nat)
  /-- HELD_FORM_COMPACTION (R208). Silo compacts a held activation after its last writer completes. -/
  | heldFormCompaction (p j : Nat)
  /-- RETAINED_FILL (R228). Silo copies blocks of retained allocations into free plot-store and strip-store space. -/
  | retainedFill (p : Nat)
  /-- CXL_ENUMERATION (R232). At start-up, usable CXL devices are programmed as one interleave set. -/
  | cxlEnumeration (devices : List CxlDevice)
  /-- CXL_POISON (R234). A poisoned read withdraws the granule and leads to recompute or 0x11. -/
  | cxlPoison (p addr : Nat)
  /-- CXL_TIER_LOST (R234). A lost CXL link or device takes the whole tier away. -/
  | cxlTierLost
  /-- HBM_ECC_ERROR (R241). An HBM ECC event is corrected, or the block is retired with the outcome of R241. -/
  | hbmEccError (kind : EccKind) (p addr stack : Nat)
  /-- PATROL_SCRUB (R242). The patrol scrub passes over HBM once per configured period. -/
  | patrolScrub
  /-- FLASH_MOUNT (R240). The flash translation layer finishes mounting. -/
  | flashMount (targets cellType targetBytes : Nat) (clean : Bool)
  /-- WEAR_LEVELING (R239). The translation layer levels wear across NAND blocks. -/
  | wearLeveling (highest average : Nat)
  /-- DISTURBANCE_RELOCATION (R239). A block is relocated after its read-disturbance limit. -/
  | disturbanceRelocation (reads : Nat)
  /-- RETENTION_SCAN (R239). Every 168 powered hours every block is scanned for retention. -/
  | retentionScan (poweredHours : Nat)
  /-- GARBAGE_COLLECTION (R239). Garbage is collected while free blocks are below 2 %. -/
  | garbageCollection (levels : FlashLevels)
  /-- NAND_FAILURE (R241). A NAND program, erase or target failure retires blocks or rebuilds from parity. -/
  | nandFailure (kind : NandFailure) (unit : Nat)
  /-- SAMPLE_ADMISSION (R255). A sample's headers are checked and it is admitted or rejected. -/
  | sampleAdmission (p n : Nat)
  /-- SAMPLE_DECODED (R259). A video or image unit finishes decoding a sample within its budget. -/
  | sampleDecoded (p n unit : Nat)
  /-- DECODE_BUDGET_EXCEEDED (R259). A sample's work-unit count passes its budget and it is rejected with 0x41. -/
  | decodeBudgetExceeded (p n unit : Nat)
  /-- SAMPLE_AUGMENTED (R261). The augmentation stage crops, flips, converts and writes a sample. -/
  | sampleAugmented (p n unit : Nat)
  /-- BATCH_PREPARATION (R267). The Drill decodes ahead in a stream into the prepared area. -/
  | batchPreparation (p stream : Nat)
  /-- PARITY_ERROR (R358). A marked byte makes its unit abandon its work, run it again and enter a targeted test. -/
  | parityError (cls : UnitClass) (unit : Nat)
  /-- TARGETED_TEST_END (R360). A targeted self-test ends in pass or in retirement with a spare, or without one. -/
  | targetedTestEnd (cls : UnitClass) (unit : Nat) (pass : Bool)
  /-- DICTIONARY_REQUEST (R399). A request arrives on either path, is authenticated and queued or dropped. -/
  | dictionaryRequest (path : DictPath) (bytes : List Byte)
  /-- READ (R395). Returns the values of consecutive subindices. -/
  | read
  /-- OBJECT_WRITE (R400). Writes an object with no row of its own; an RWS write is held in the shadow. -/
  | objectWrite
  /-- READ_SHADOW (R395). Returns an RWS object's shadow, or its applied value. -/
  | readShadow
  /-- DISCARD_SHADOW (R403). Removes the shadow of one RWS object unless it has joined an apply in progress. -/
  | discardShadow
  /-- READ_AND_CLEAR (R401). Returns a W1C value and sets it to 0 in one step. -/
  | readAndClear
  /-- DESCRIBE (R395). Returns type, access, privilege and flags for each subindex. -/
  | describe
  /-- PADDOCK_CREATE (R346). Creates a paddock from its definition, with defaults and committed areas. -/
  | paddockCreate
  /-- PADDOCK_DELETE (R347). Stops a paddock, errors its queue pairs, dissolves groups and releases allocations. -/
  | paddockDelete
  /-- ALLOCATION_CREATE (R214). A write of an unused entry with a non-zero length creates an allocation. -/
  | allocationCreate
  /-- ALLOCATION_RELEASE (R215). A write of length 0 to a live entry puts it into the releasing state. -/
  | allocationRelease
  /-- ALLOCATION_UPDATE (R214). A write to a live entry changes its recompute fields or retain flag. -/
  | allocationUpdate
  /-- QP_READY (R337). A write makes a queue-pair entry ready. -/
  | qpReady
  /-- QP_RESET (R337). A write of state reset flushes a queue pair's outstanding work. -/
  | qpReset
  /-- PORT_MODE_CHANGE (R333). A change of host-port mode retrains the port. -/
  | portModeChange
  /-- LINK_ENABLE (R303). A write of the link enable object disables or enables a chip link. -/
  | linkEnable
  /-- COUNTER_FREEZE (R417). Freezes or releases every programmable counter of the paddock's plots in one cycle. -/
  | counterFreeze
  /-- ATTESTATION_NONCE (R442). A nonce write starts the signing of an attestation report. -/
  | attestationNonce
  /-- ATTESTATION_REPORT_SIGNED (R442). The always-on island completes a signed report. -/
  | attestationReportSigned
  /-- CLEAR_LOG (R386). Empties the error log. -/
  | clearLog
  /-- CLEAR_DEGRADED (R362). Clears the degraded state in MAINTENANCE after a BIST pass. -/
  | clearDegraded
  /-- FLASH_FORMAT (R244). Erases all flash and rebuilds the map. -/
  | flashFormat
  /-- PREPARE_SHUTDOWN (R240). Flushes the flash map and journal. -/
  | prepareShutdown
  /-- TRIM (R244). Makes a flash range read as zeros. -/
  | trim
  /-- LOCK (R428). Life-cycle command 0x01 moves OWNED to OWNED_LOCKED and abandons any update. -/
  | lock
  /-- UNLOCK (R428). Life-cycle command 0x02 moves OWNED_LOCKED to OWNED. -/
  | unlock
  /-- ENTER_MAINTENANCE (R428). Life-cycle command 0x03 moves OWNED to MAINTENANCE. -/
  | enterMaintenance
  /-- LEAVE_MAINTENANCE (R428). Life-cycle command 0x04 moves MAINTENANCE to OWNED. -/
  | leaveMaintenance
  /-- RELEASE (R431). Life-cycle command 0x05 erases flash, clears keys and resets toward PROVISIONED. -/
  | release
  /-- RELEASE_COMPLETE (R431). A release finishes and the state reads PROVISIONED. -/
  | releaseComplete
  /-- DECOMMISSION (R432). Life-cycle command 0x06 erases flash, destroys the identity key and holds the main die in reset. -/
  | decommission
  /-- GENERATE_IDENTITY (R424). Life-cycle command 0x10 generates the device key pair. -/
  | generateIdentity
  /-- PROVISION (R428). Life-cycle command 0x11 moves BLANK to PROVISIONED and erases the manufacturing key. -/
  | provision
  /-- CLAIM (R430). A public claim unwraps the owner access key and moves the device to OWNED. -/
  | claim
  /-- OWNER_KEY_CHANGE (R430). Replaces the owner's access key. -/
  | ownerKeyChange
  /-- TENANT_KEY (R430). Sets the access key of a paddock's tenant. -/
  | tenantKey
  /-- UPDATE_BEGIN (R439). Accepts a delta header and starts erasing the inactive slot. -/
  | updateBegin
  /-- UPDATE_ERASE_COMPLETE (R437). Erasing of the inactive slot ends and the update enters receiving. -/
  | updateEraseComplete
  /-- UPDATE_CHUNK (R439). Decodes a chunk of the delta stream and programs its output. -/
  | updateChunk
  /-- UPDATE_FINISH (R439). Checks the written slot against the target digest and stages the update. -/
  | updateFinish
  /-- UPDATE_ACTIVATE (R439). Sets the next boot slot to the staged slot. -/
  | updateActivate
  /-- UPDATE_ABORT (R437). Abandons the update in progress. -/
  | updateAbort
  /-- RESTART_MAIN_DIE (R440). Resets the main die when no paddock exists. -/
  | restartMainDie
  /-- RAISE_ROLLBACK_FLOOR (R436). Raises the fuse rollback floor to the running image's index. -/
  | raiseRollbackFloor
  /-- RESCUE_CHUNK (R441). Writes image bytes into slot A while firmware is absent. -/
  | rescueChunk
  /-- RESCUE_BOOT (R441). Sets slot A as the next boot slot and starts the main die. -/
  | rescueBoot
  /-- BIST_START (R457). Starts a BIST run over the selected classes. -/
  | bistStart
  /-- BIST_ABORT (R461). Stops a BIST run and discards its results. -/
  | bistAbort
  /-- BIST_PHASE_END (R458). A BIST phase or wave ends and the next begins. -/
  | bistPhaseEnd (failed : List (UnitClass × Nat))
  /-- BIST_RUN_END (R460). A BIST run ends, retiring failed units and returning passing units to service. -/
  | bistRunEnd
  /-- AO_POWER_GOOD (R447). AO_PWRGD brings the always-on island out of reset. -/
  | aoPowerGood
  /-- MAIN_POWER_GOOD (R20). MAIN_PWRGD starts the main-die start-up sequence. -/
  | mainPowerGood
  /-- FIRMWARE_BOOT (R435). Boot ROM checks the firmware slots and runs one, or reports firmware absent. -/
  | firmwareBoot
  /-- HBM_TRAINED (R20). HBM stacks finish training and zeroing. -/
  | hbmTrained (stackMask : Nat)
  /-- HOST_PORT_LINKED (R20). A host port finishes linking with its partner. -/
  | hostPortLinked (port : Nat)
  /-- DEVICE_READY (R20). Plots and strips are released and the device is ready for paddocks. -/
  | deviceReady
  /-- MAIN_POWER_LOSS (R448). MAIN_PWRGD falls or a main rail leaves tolerance and the main die is reset. -/
  | mainPowerLoss
  /-- MAIN_RESET (R449). MAIN_RST_N resets the main die with the effects of R21. -/
  | mainReset (widthUs : Nat)
  /-- AO_RAIL_LOSS (R448). The always-on rail falls and every link goes down. -/
  | aoRailLoss
  /-- REFCLK_SYS_LOSS (R451). Loss of REFCLK_SYS or of main PLL lock resets the main die. -/
  | refclkSysLoss
  /-- REFCLK_SYS_RESTORED (R451). After 10 ms of REFCLK_SYS present, the main die starts under R20. -/
  | refclkSysRestored
  /-- REFCLK_CXL_LOSS (R451). Loss of a CXL reference clock takes that port's links down. -/
  | refclkCxlLoss (port : Nat)
  /-- AO_CLK_LOSS (R451). Loss of AO_CLK moves the island to its internal oscillator and stops the Headland. -/
  | aoClkLoss
  /-- DERATE_ASSERT (R454). DERATE_N or a regulator fault puts the supply in the derated state. -/
  | derateAssert (cause : DerateCause)
  /-- DERATE_END_TIMER (R454). 10 s after the last derating cause ends, the supply leaves derated. -/
  | derateEndTimer
  /-- PMBUS_ALERT (R452). PMBUS_ALERT_N falling makes the device read STATUS_WORD. -/
  | pmbusAlert (words : List Nat)
  /-- PMBUS_POLL (R452). Each poll period the device reads rail voltage, current and status. -/
  | pmbusPoll (readings : List PmbusReading)
  /-- POWER_ESTIMATE_TICK (R453). Every 1 µs the power estimate may lower the plot clock one step. -/
  | powerEstimateTick (watts : Nat)
  /-- CLOCK_STEP_UP (R453). After 100 µs below 95 % of the limit, the plot clock rises one step. -/
  | clockStepUp
  /-- DROOP_DETECT (R453). An on-die droop detector withholds array issue for 1 to 4 cycles. -/
  | droopDetect (rail cycles : Nat)
  /-- THERMAL_THROTTLE (R456). Every 10 µs at or above a throttle temperature the plot clock steps down. -/
  | thermalThrottle (sensor : ThermalSensor) (milliC : Int)
  /-- THERMAL_TRIP (R456). A trip temperature resets the main die and asserts THERMTRIP_N. -/
  | thermalTrip (sensor : ThermalSensor) (milliC : Int)
  /-- THERMAL_TRIPS_CLEAR (R456). Clearing the thermal trip count releases THERMTRIP_N. -/
  | thermalTripsClear
  /-- TAP_INSTRUCTION (R462). An instruction shifted into the IEEE 1149.1 test access port is accepted, or loads BYPASS outside BLANK and MAINTENANCE. -/
  | tapInstruction (code : Nat)
  /-- MAIN_RST_N_RELEASE (R449). The rising edge of MAIN_RST_N counts as power-good and starts the main-die start-up of R20. -/
  | mainRstNRelease
  /-- AO_CLK_RESTORED (R451). AO_CLK returns, the island leaves its internal oscillator, and the management port and Headland run again. -/
  | aoClkRestored
  /-- HEADLAND_PAIR_TRAINED (R294). While the main die is down, the Headland finishes training the lanes of both links of a pair with its neighbours and begins retiming them. -/
  | headlandPairTrained (pair : Nat)
  /-- FEC_LOCK_LOSS (R293). A chip-link receiver loses its lanes or FEC lock because the peer stops sending, and the link goes down and retrains. -/
  | fecLockLoss (link : Nat)
  /-- LINK_ACK_DUE (R282). When no reverse header has carried an acknowledgement within 100 ns, the link sends it in a link-control message. -/
  | linkAckDue (link : Nat)
  /-- ACK_ARRIVAL (R340). A RoCE ACK or NAK arrives for a completion message or a fabric-carriage SEND that the device sent as requester. -/
  | ackArrival (q : Arrival) (ok : Bool)
  /-- FRAME_DROPPED (R352). A received frame that fails FCS or ICRC, or names QP1, an unknown QPN or another partition key, is dropped and counted. -/
  | frameDropped (port : Nat) (cause : DropCause)
  /-- PADDOCK_ACTIVE (R348). Zeroing of a new paddock's message area and fallback pool ends and the paddock becomes active. -/
  | paddockActive (p : Nat)
  /-- PADDOCK_ABSENT (R348). After the last issued instruction of a deleted paddock completes and its quota is zeroed, the paddock state becomes absent. -/
  | paddockAbsent (p : Nat)
  /-- DELAY_REQUEST_INTERVAL (R344). At each delay request interval (object 0x5C10) the slave-only ordinary clock sends a PTP Delay_Req. -/
  | delayRequestInterval
  /-- OVERFLOW_SAMPLE (R418). A programmable counter counting parked or test cycles overflows, writes a sample record if sampling is set, and reloads. -/
  | overflowSample (strip plot counter : Nat)
  deriving DecidableEq, Repr

end Sys2Proof
end

