-- ==== Sys2Proof/Decode.lean ====
section
/-! DEFINITION. The commands that words spell. The opcode table gives bits to no row: every row is an
operation or an event of the block, named and not encoded, so no word spells one. The encodings the
spec does give (instruction records, messages, dictionary requests) are the operands of commands. -/

namespace Sys2Proof

/-- No row of the table has bits, so no word spells a command. -/
def decodeTableWord (_nbits _w : Nat) : Option Instr := none

end Sys2Proof
end

