-- ==== Sys2Proof/Machine/Num.lean ====
section
/-! DEFINITION. Number formats, rounding and F32 arithmetic (02_number_formats.md R28 to R46):
exact dyadic values, the conversions of R36 to R40, the operations of R46 and the random bits of R41. -/

namespace Sys2Proof

/-- The format codes of R28. -/
inductive Fmt where
  | f32 | f16 | bf16 | f8a | f8g | f4b | g16 | i8 | u8 | i32 | u16 | u32 | carry8
  deriving DecidableEq, Repr

/-- The code of a format (R28). -/
def Fmt.code : Fmt → Nat
  | .f32 => 1 | .f16 => 2 | .bf16 => 3 | .f8a => 4 | .f8g => 5 | .f4b => 6 | .g16 => 7
  | .i8 => 8 | .u8 => 9 | .i32 => 10 | .u16 => 11 | .u32 => 12 | .carry8 => 13

/-- The format a code names; any other value is malformed (R28). -/
def Fmt.ofCode : Nat → Option Fmt
  | 1 => some .f32 | 2 => some .f16 | 3 => some .bf16 | 4 => some .f8a | 5 => some .f8g
  | 6 => some .f4b | 7 => some .g16 | 8 => some .i8 | 9 => some .u8 | 10 => some .i32
  | 11 => some .u16 | 12 => some .u32 | 13 => some .carry8 | _ => none

/-- Element bits (R28). -/
def Fmt.bits : Fmt → Nat
  | .f32 => 32 | .f16 => 16 | .bf16 => 16 | .f8a => 8 | .f8g => 8 | .f4b => 4 | .g16 => 16
  | .i8 => 8 | .u8 => 8 | .i32 => 32 | .u16 => 16 | .u32 => 32 | .carry8 => 8

/-- Scale-group length of the formats with scale bytes (R33). -/
def Fmt.group : Fmt → Nat
  | .f4b => 32 | .g16 => 256 | .carry8 => 256 | _ => 1

def Fmt.isInt : Fmt → Bool
  | .i8 | .u8 | .i32 | .u16 | .u32 => true
  | _ => false

/-- F8A, F8G and F4B carry a tensor scale byte. -/
def Fmt.isNarrow : Fmt → Bool
  | .f8a | .f8g | .f4b => true
  | _ => false

/-- F8A and F8G, the formats with swaths. -/
def Fmt.isF8 : Fmt → Bool
  | .f8a | .f8g => true
  | _ => false

/-- F4B, G16 and CARRY8 have a scale region (R34). -/
def Fmt.isBlock : Fmt → Bool
  | .f4b | .g16 | .carry8 => true
  | _ => false

/-- The floating-point formats: everything but the integers and CARRY8. -/
def Fmt.isFloat : Fmt → Bool
  | .f32 | .f16 | .bf16 | .f8a | .f8g | .f4b | .g16 => true
  | _ => false

/-- An exact value: a NaN, an infinity, or `(-1)^neg * m * 2^e` with its sign of zero. -/
inductive Val where
  | nan
  | inf (neg : Bool)
  | fin (neg : Bool) (m : Nat) (e : Int)
  deriving DecidableEq, Repr

namespace Val

def zero : Val := .fin false 0 0

def isNan : Val → Bool
  | .nan => true | _ => false

/-- NaN or infinity. -/
def nonFinite : Val → Bool
  | .fin _ _ _ => false | _ => true

def isZero : Val → Bool
  | .fin _ m _ => m == 0 | _ => false

def ofInt (i : Int) : Val := .fin (decide (i < 0)) i.natAbs 0

/-- Multiplication by `2^k`, exact. -/
def scale (v : Val) (k : Int) : Val :=
  match v with
  | .fin s m e => .fin s m (e + k)
  | v => v

def neg : Val → Val
  | .nan => .nan
  | .inf s => .inf (!s)
  | .fin s m e => .fin (!s) m e

def abs : Val → Val
  | .nan => .nan
  | .inf _ => .inf false
  | .fin _ m e => .fin false m e

/-- `⌊log2 |v|⌋` of a finite non-zero value. -/
def expo : Val → Option Int
  | .fin _ m e => if m = 0 then none else some ((Nat.log2 m : Int) + e)
  | _ => none

end Val

/-- `m * 2^k` for an integer exponent that is not negative, `⌊m / 2^-k⌋` otherwise. -/
def shiftNat (m : Nat) (k : Int) : Nat :=
  if 0 ≤ k then m <<< k.toNat else m >>> (-k).toNat

/-- The signed integer `i * 2^k` for `k ≥ 0`. -/
def shiftInt (i : Int) (k : Int) : Int := i * (2 ^ k.toNat : Nat)

/-- Compare `m1 * 2^e1` with `m2 * 2^e2`. -/
def cmpMag (m1 : Nat) (e1 : Int) (m2 : Nat) (e2 : Int) : Ordering :=
  let e := min e1 e2
  compare (m1 <<< (e1 - e).toNat) (m2 <<< (e2 - e).toNat)

/-- The signed integer value of a finite value over `2^e`, for `e` at most its exponent. -/
def signedAt (s : Bool) (m : Nat) (k : Int) : Int :=
  let a : Int := (m <<< k.toNat : Nat)
  if s then -a else a

/-- Exact addition under round-to-nearest sign rules of zero (R32). -/
def Val.add (x y : Val) : Val :=
  match x, y with
  | .nan, _ => .nan
  | _, .nan => .nan
  | .inf s, .inf t => if s = t then .inf s else .nan
  | .inf s, _ => .inf s
  | _, .inf t => .inf t
  | .fin s m e, .fin t n f =>
    if m = 0 ∧ n = 0 then .fin (s && t) 0 0
    else
      let k := min e f
      let i := signedAt s m (e - k) + signedAt t n (f - k)
      .fin (decide (i < 0)) i.natAbs k

/-- Exact multiplication; infinity times zero is a NaN. -/
def Val.mul (x y : Val) : Val :=
  match x, y with
  | .nan, _ => .nan
  | _, .nan => .nan
  | .inf s, .inf t => .inf (s != t)
  | .inf s, .fin t n _ => if n = 0 then .nan else .inf (s != t)
  | .fin s m _, .inf t => if m = 0 then .nan else .inf (s != t)
  | .fin s m e, .fin t n f => .fin (s != t) (m * n) (e + f)

/-- The order of two values that are not NaN; `none` for a NaN. +0 and -0 are equal here. -/
def Val.cmp (x y : Val) : Option Ordering :=
  match x, y with
  | .nan, _ => none
  | _, .nan => none
  | .inf s, .inf t => some (if s = t then .eq else if s then .lt else .gt)
  | .inf s, .fin _ _ _ => some (if s then .lt else .gt)
  | .fin _ _ _, .inf t => some (if t then .gt else .lt)
  | .fin s m e, .fin t n f =>
    let k := min e f
    some (compare (signedAt s m (e - k)) (signedAt t n (f - k)))

/-- A floating-point element layout (R29). -/
structure Layout where
  eBits : Nat
  fBits : Nat
  bias : Int
  /-- exponent all ones encodes infinities and NaN -/
  ieee : Bool
  /-- the all-ones code below the sign is NaN (F8A) -/
  topNan : Bool
  canonicalNan : Nat
  maxCode : Nat
  deriving DecidableEq, Repr

/-- The layouts of R29. Integer and block formats other than F4B take BF16's layout where they
hold BF16 elements (G16, R33), and it is never used for the integers. -/
def Fmt.layout : Fmt → Layout
  | .f32 => ⟨8, 23, 127, true, false, 0x7FC00000, 0x7F7FFFFF⟩
  | .f16 => ⟨5, 10, 15, true, false, 0x7E00, 0x7BFF⟩
  | .f8a => ⟨4, 3, 7, false, true, 0x7F, 0x7E⟩
  | .f8g => ⟨5, 2, 15, true, false, 0x7E, 0x7B⟩
  | .f4b => ⟨2, 1, 1, false, false, 0, 7⟩
  | _ => ⟨8, 7, 127, true, false, 0x7FC0, 0x7F7F⟩

namespace Layout

/-- Bits of one element below its sign bit. -/
def magBits (l : Layout) : Nat := l.eBits + l.fBits

/-- The exponent of the last place of the subnormal grid. -/
def quantum (l : Layout) : Int := 1 - l.bias - l.fBits

/-- The value of an element code (R29). -/
def decode (l : Layout) (c : Nat) : Val :=
  let s := (c >>> l.magBits) % 2 == 1
  let mag := c % 2 ^ l.magBits
  let ex := mag >>> l.fBits
  let fr := mag % 2 ^ l.fBits
  if l.ieee && ex == 2 ^ l.eBits - 1 then (if fr = 0 then .inf s else .nan)
  else if l.topNan && mag == 2 ^ l.magBits - 1 then .nan
  else if ex = 0 then .fin s fr l.quantum
  else .fin s (2 ^ l.fBits + fr) (ex - l.bias - l.fBits)

/-- Mantissa and exponent of the largest finite magnitude. -/
def maxFinite (l : Layout) : Nat × Int :=
  match l.decode l.maxCode with
  | .fin _ m e => (m, e)
  | _ => (0, 0)


end Layout

/-- `m * 2^e` rounded to nearest, ties to even, as a multiple of `2^q`. -/
def roundEven (m : Nat) (e q : Int) : Nat :=
  if q ≤ e then m <<< (e - q).toNat
  else
    let k := (q - e).toNat
    let lo := m >>> k
    let r := m % 2 ^ k
    if 2 * r < 2 ^ k then lo
    else if 2 ^ k < 2 * r then lo + 1
    else lo + lo % 2

namespace Layout

/-- The exponent of the last place of the value `m * 2^e`, with unbounded exponent range upwards
and the subnormal grid below (R36, R37). -/
def place (l : Layout) (m : Nat) (e : Int) : Int :=
  max ((Nat.log2 m : Int) + e - l.fBits) l.quantum

/-- The magnitude code of `k * 2^q`, where `k` is at most `2^(fBits+1)` and `q` a place of the grid. -/
def pack (l : Layout) (k : Nat) (q : Int) : Nat :=
  if k < 2 ^ l.fBits then k
  else if k < 2 ^ (l.fBits + 1) then
    ((q + l.fBits + l.bias).toNat <<< l.fBits) + (k - 2 ^ l.fBits)
  else ((q + 1 + l.fBits + l.bias).toNat <<< l.fBits)

def signed (l : Layout) (s : Bool) (c : Nat) : Nat := if s then c + 2 ^ l.magBits else c

end Layout

/-- The conversion events of R36. -/
inductive Event where
  | nonFinite | saturation | underflow | zero | normal
  deriving DecidableEq, Repr

/-- How a conversion rounds (R39): nearest-even, or stochastic with 16 random bits (R40). -/
inductive Rounding where
  | nearest
  | stochastic (r : Nat)
  deriving DecidableEq, Repr

/-- The multiplier of `2^q` that stochastic rounding gives for `m * 2^e` (R40): `d` of the fraction
above the lower neighbour, in units of `2^-16`. -/
def roundStochastic (m : Nat) (e q : Int) (r : Nat) : Nat :=
  if q ≤ e then m <<< (e - q).toNat
  else
    let k := (q - e).toNat
    let lo := m >>> k
    let d := ((m % 2 ^ k) * 2 ^ 16) >>> k
    if 2 ^ 16 ≤ d + r then lo + 1 else lo

namespace Layout

/-- Conversion of an exact value into a floating-point element, with its event (R36, R37, R40). -/
def convert (l : Layout) (v : Val) (rnd : Rounding) : Nat × Event :=
  match v with
  | .nan => (l.canonicalNan, .nonFinite)
  | .inf s =>
    (if l.ieee then l.signed s ((2 ^ l.eBits - 1) <<< l.fBits) else l.canonicalNan, .nonFinite)
  | .fin s m e =>
    if m = 0 then (l.signed s 0, .zero)
    else
      let q := l.place m e
      let (mx, me) := l.maxFinite
      let sat : Nat × Event := (l.signed s l.maxCode, .saturation)
      match rnd with
      | .nearest =>
        let k := roundEven m e q
        if cmpMag k q mx me = .gt then sat
        else if k = 0 then (l.signed s 0, .underflow)
        else (l.signed s (l.pack k q), .normal)
      | .stochastic r =>
        if cmpMag m e mx me ≠ .lt then sat
        else
          let k := roundStochastic m e q r
          if k = 0 then (l.signed s 0, .underflow)
          else (l.signed s (l.pack k q), .normal)

end Layout

/-- The range of an integer format. -/
def Fmt.intRange : Fmt → Int × Int
  | .i8 => (-128, 127)
  | .u8 => (0, 255)
  | .i32 => (-2147483648, 2147483647)
  | .u16 => (0, 65535)
  | .u32 => (0, 4294967295)
  | _ => (-127, 127)

/-- The two's-complement or unsigned code of an integer. -/
def Fmt.intCode (f : Fmt) (i : Int) : Nat := (i % (2 ^ f.bits : Nat)).toNat

/-- The integer of a code. -/
def Fmt.intOf (f : Fmt) (c : Nat) : Int :=
  match f with
  | .i8 | .i32 | .carry8 =>
    if c < 2 ^ (f.bits - 1) then (c : Int) else (c : Int) - (2 ^ f.bits : Nat)
  | _ => (c : Int)

/-- Round a value to an integer, nearest-even. -/
def roundInt (s : Bool) (m : Nat) (e : Int) : Int :=
  let k : Int := (roundEven m e 0 : Nat)
  if s then -k else k

/-- Conversion into an integer format with its event (R35, R36). -/
def Fmt.convertInt (f : Fmt) (v : Val) : Nat × Event :=
  let (lo, hi) := f.intRange
  match v with
  | .nan => (0, .nonFinite)
  | .inf s => (f.intCode (if s then lo else hi), .nonFinite)
  | .fin s m e =>
    if m = 0 then (0, .zero)
    else
      let i := roundInt s m e
      if hi < i then (f.intCode hi, .saturation)
      else if i < lo then (f.intCode lo, .saturation)
      else if i = 0 then (0, .underflow)
      else (f.intCode i, .normal)

/-- The value of an unscaled element code: the element value of R29, or the integer (R35). CARRY8's
0x80 reads as 0 (R33). -/
def Fmt.elemVal (f : Fmt) (c : Nat) : Val :=
  match f with
  | .carry8 => if c = 0x80 then Val.zero else Val.ofInt (f.intOf c)
  | f => if f.isInt then Val.ofInt (f.intOf c) else f.layout.decode c

/-! ### F32 arithmetic (R46) -/

namespace F32

def nan : F32 := 0x7FC00000#32
def posInf : F32 := 0x7F800000#32
def negInf : F32 := 0xFF800000#32
def one : F32 := 0x3F800000#32

def val (x : F32) : Val := Fmt.f32.layout.decode x.toNat

/-- One nearest-even rounding of an exact value to F32, with IEEE overflow to infinity (R46). -/
def ofVal (v : Val) : F32 :=
  match v with
  | .nan => nan
  | .inf s => if s then negInf else posInf
  | .fin s m e =>
    let l := Fmt.f32.layout
    if m = 0 then BitVec.ofNat 32 (l.signed s 0)
    else
      let q := l.place m e
      let k := roundEven m e q
      let (mx, me) := l.maxFinite
      if cmpMag k q mx me = .gt then (if s then negInf else posInf)
      else BitVec.ofNat 32 (l.signed s (l.pack k q))

def ofInt (i : Int) : F32 := ofVal (Val.ofInt i)

def ofNat (n : Nat) : F32 := ofInt n

def add (x y : F32) : F32 := ofVal (x.val.add y.val)

def neg (x : F32) : F32 := if x.val.isNan then nan else x ^^^ 0x80000000#32

def sub (x y : F32) : F32 := ofVal (x.val.add y.val.neg)

def mul (x y : F32) : F32 := ofVal (x.val.mul y.val)

def fma (x y z : F32) : F32 := ofVal ((x.val.mul y.val).add z.val)

/-- A magnitude with enough bits for one rounding, its last bit set where anything was cut. -/
def sticky (q : Nat) (exact : Bool) : Nat := 2 * q + (if exact then 0 else 1)

/-- The exact quotient, or its first 64 bits and a sticky bit. -/
def divVal (x y : Val) : Val :=
  match x, y with
  | .nan, _ => .nan
  | _, .nan => .nan
  | .inf _, .inf _ => .nan
  | .inf s, .fin t _ _ => .inf (s != t)
  | .fin s _ _, .inf t => .fin (s != t) 0 0
  | .fin s m e, .fin t n f =>
    if n = 0 then (if m = 0 then .nan else .inf (s != t))
    else if m = 0 then .fin (s != t) 0 0
    else
      let k := 64 + Nat.log2 n - min (Nat.log2 n) (Nat.log2 m)
      let a := m <<< k
      .fin (s != t) (sticky (a / n) (a % n == 0)) (e - f - k - 1)

def div (x y : F32) : F32 := ofVal (divVal x.val y.val)

/-- Integer square root by bits, from bit `k` down: `r` is the root so far. -/
def isqrtBits (n : Nat) : Nat → Nat → Nat
  | 0, r => r
  | k + 1, r =>
    let c := r + 2 ^ k
    isqrtBits n k (if c * c ≤ n then c else r)

/-- `⌊√n⌋`. -/
def isqrt (n : Nat) : Nat := isqrtBits n (Nat.log2 n / 2 + 1) 0

def sqrtVal (v : Val) : Val :=
  match v with
  | .nan => .nan
  | .inf s => if s then .nan else .inf false
  | .fin s m e =>
    if m = 0 then .fin s 0 0
    else if s then .nan
    else
      let k : Nat := if (e % 2 = 0) then 64 else 65
      let a := m <<< k
      let r := isqrt a
      .fin false (sticky r (r * r == a)) ((e - k) / 2 - 1)

def sqrt (x : F32) : F32 := ofVal (sqrtVal x.val)

/-- The greater value; a NaN operand gives the canonical NaN, and +0 is above -0 (R31, R32). -/
def max (x y : F32) : F32 :=
  match x.val.cmp y.val with
  | none => nan
  | some .lt => y
  | some .gt => x
  | some .eq => if x.val.isZero then x &&& y else x

/-- The smaller value; a NaN operand gives the canonical NaN, and -0 is below +0 (R31, R32). -/
def min (x y : F32) : F32 :=
  match x.val.cmp y.val with
  | none => nan
  | some .lt => x
  | some .gt => y
  | some .eq => if x.val.isZero then x ||| y else x

/-- Ordered comparison; false with a NaN. -/
def lt (x y : F32) : Bool := x.val.cmp y.val == some .lt
def gt (x y : F32) : Bool := x.val.cmp y.val == some .gt

/-- Finite and not NaN. -/
def finite (x : F32) : Bool := !x.val.nonFinite

end F32

/-! ### Random bits (R41) -/

/-- The function `mix` of R41, on 64 bits. -/
def mix (z : Word64) : Word64 :=
  let z := (z ^^^ (z >>> 30)) * 0xBF58476D1CE4E5B9#64
  let z := (z ^^^ (z >>> 27)) * 0x94D049BB133111EB#64
  z ^^^ (z >>> 31)

/-- The 16 random bits of one element (R41). -/
def srBits (seed : Word64) (tensorId index : Nat) : Nat :=
  let key := mix (seed ^^^ (BitVec.ofNat 64 tensorId * 0x9E3779B97F4A7C15#64))
  let word := mix (key + BitVec.ofNat 64 (index >>> 2))
  ((word >>> (16 * (index % 4))).toNat) % 65536

/-- The effective seed of R41. -/
def effectiveSeed (seed : Word64) (stepMix : Bool) (step : Nat) : Word64 :=
  if stepMix then seed ^^^ BitVec.ofNat 64 step else seed

/-! ### The canonical orders (R47, R48) -/

/-- The largest power of two below `n`, for `n ≥ 2`. -/
def halfBelow (n : Nat) : Nat := 2 ^ Nat.log2 (n - 1)

/-- The fixed pairwise tree of R47 over a list of `n` values. The fuel is the depth. -/
def treeFuel : Nat → List F32 → F32
  | 0, l => l.headD 0
  | d + 1, l =>
    match l with
    | [] => 0
    | [x] => x
    | l =>
      let h := halfBelow l.length
      F32.add (treeFuel d (l.take h)) (treeFuel d (l.drop h))

/-- `tree` of R47. -/
def tree (l : List F32) : F32 := treeFuel (Nat.log2 l.length + 1) l

/-- Cut a list into pieces of `n` (the last may be shorter). -/
def piecesFuel {α : Type} (n : Nat) : Nat → List α → List (List α)
  | 0, _ => []
  | k + 1, l => if l.isEmpty then [] else l.take n :: piecesFuel n k (l.drop n)

def pieces {α : Type} (n : Nat) (l : List α) : List (List α) :=
  piecesFuel n (l.length / n + 1) l

/-- Lane `j` of a segment: its first term and every 256th after it. -/
def laneSum (first : F32 → F32) (step : F32 → F32 → F32) (rows : List (List F32)) (j : Nat) : F32 :=
  match rows with
  | [] => 0
  | r :: rs =>
    rs.foldl (fun acc row => match row[j]? with | some x => step acc x | none => acc)
      (first (r.getD j 0))

/-- The order of R48, for a first term and a step per lane. -/
def vsumBy (first : F32 → F32) (step : F32 → F32 → F32) (l : List F32) : F32 :=
  tree ((pieces 4096 l).map fun seg =>
    let rows := pieces 256 seg
    tree ((List.range (min 256 seg.length)).map (laneSum first step rows)))

/-- `vsum` of R48. -/
def vsum (l : List F32) : F32 := vsumBy id F32.add l

/-- The sum of squares of R48: each lane starts with the rounding of `x × x` and goes on with fma. -/
def vsumsq (l : List F32) : F32 :=
  vsumBy (fun x => F32.mul x x) (fun acc x => F32.fma x x acc) l

/-- The segment tree with chunk folds of R47, given the chunk sums of each segment in order. -/
def foldSegments (segs : List (List F32)) : F32 :=
  tree (segs.map fun s => match s with | [] => 0 | c :: cs => cs.foldl F32.add c)

/-! ### Chunk sums (R44) -/

/-- `e` truncated toward zero: the product's signed multiple of `2^q`. -/
def truncAt (q : Int) (v : Val) : Int :=
  match v with
  | .fin s m e => let k : Int := (shiftNat m (e - q) : Nat); if s then -k else k
  | _ => 0

/-- The exact product sum of one chunk (R44): steps 1 to 4, the operands already scaled. `window`
is the product window of R43, or `none` where it is exact. -/
def chunkVal (window : Option Nat) (ps : List Val) : Val :=
  if ps.any Val.isNan then .nan
  else
    let infs := ps.filter Val.nonFinite
    if !infs.isEmpty then
      (if infs.all (fun v => v == .inf false) then .inf false
       else if infs.all (fun v => v == .inf true) then .inf true else .nan)
    else
      let es := ps.filterMap Val.expo
      match es with
      | [] => Val.zero
      | e0 :: rest =>
        let lowest := ps.foldl (fun a v => match v with
          | .fin _ m e => if m = 0 then a else min a e | _ => a) e0
        let q := match window with
          | some w => max lowest (rest.foldl max e0 - w)
          | none => lowest
        let total := ps.foldl (fun a v => a + truncAt q v) (0 : Int)
        .fin (decide (total < 0)) total.natAbs q

/-- `chunk_sum` of R44: the exact sum rounded once to F32; an exact sum of zero is +0. -/
def chunkSum (window : Option Nat) (ps : List Val) : F32 :=
  match chunkVal window ps with
  | .fin s m e => if m = 0 then 0 else F32.ofVal (.fin s m e)
  | v => F32.ofVal v

/-- The sum of R47 over the products of one output element: segments of 4,096 values of k, chunks
of `c` inside each. A `none` contributes no product (masked, padded or ragged positions). -/
def dot (window : Option Nat) (c : Nat) (ps : List (Option Val)) : F32 :=
  foldSegments ((pieces 4096 ps).map fun seg =>
    (pieces c seg).map fun ch => chunkSum window (ch.filterMap id))

end Sys2Proof
end

