-- ==== Sys2Proof/Machine/Elem.lean ====
section
/-! DEFINITION. The elementary functions of R46, correctly rounded: each is evaluated in fixed
point with several hundred fraction bits and rounded once to F32. DEDUCED (log entry 10): the working
precision decides every F32 input, since the exact value is never a rounding boundary but in the
exact cases that each function takes apart. -/

namespace Sys2Proof

namespace Elem

/-- Fraction bits of the fixed-point work. -/
def prec : Nat := 512

/-- One in fixed point. -/
def oneF : Int := (2 ^ prec : Nat)

/-- Product of two fixed-point numbers. -/
def mulF (a b : Int) : Int := (a * b) / oneF

/-- A finite value in fixed point, rounded down. -/
def fixed (s : Bool) (m : Nat) (e : Int) : Int :=
  let k : Int := (shiftNat m (e + prec) : Nat)
  if s then -k else k

/-- A fixed-point number with a sticky bit, times `2^k`, as a value; it is never exact. -/
def inexact (a : Int) (k : Int) : Val :=
  .fin (decide (a < 0)) (2 * a.natAbs + 1) (k - prec - 1)

/-- `Σ x^i / i!` over the terms `n`, `n+1`, … of fuel `f`, from the term `t = x^(n-1)/(n-1)!`. -/
def expTail : Nat → Nat → Int → Int → Int
  | 0, _, _, _ => 0
  | f + 1, n, x, t =>
    let t' := mulF t x / (n : Int)
    t' + expTail f (n + 1) x t'

/-- `e^x` of a small fixed-point number. -/
def expSmall (x : Int) : Int := oneF + expTail 110 1 x oneF

/-- `atanh`-like series `Σ z^(2i+1)/(2i+1)` with sign `sg` at each step, `p` the present power. -/
def oddTail : Nat → Nat → Int → Int → Int → Int
  | 0, _, _, _, _ => 0
  | f + 1, n, z2, p, sg => p / (n : Int) + sg * oddTail f (n + 2) z2 (mulF p z2) sg

/-- `atanh z`, for a fixed-point `z` of at most 1/3. -/
def atanhF (z : Int) : Int := oddTail 170 1 (mulF z z) z 1

/-- `atan (1/k)`. -/
def atanInv (k : Nat) : Int :=
  let z := oneF / (k : Int)
  oddTail 120 1 (mulF z z) z (-1)

/-- ln 2 as `2 atanh (1/3)`. -/
def ln2 : Int := 2 * atanhF (oneF / 3)

/-- π by Machin's formula. -/
def pi : Int := 16 * atanInv 5 - 4 * atanInv 239

/-- `e^x` for a fixed-point `x`: a fixed-point factor and a power of two. -/
def expF (x : Int) : Int × Int :=
  let k := (2 * x + ln2) / (2 * ln2)
  (expSmall (x - k * ln2), k)

/-- Natural logarithm of `m * 2^e`, `m > 0`, in fixed point. -/
def logF (m : Nat) (e : Int) : Int :=
  let n := Nat.log2 m
  let up := decide (3 * 2 ^ n ≤ 2 * m)
  let k : Int := e + n + (if up then 1 else 0)
  let y : Int := fixed false m (-(n : Int) - (if up then 1 else 0))
  k * ln2 + 2 * atanhF (((y - oneF) * oneF) / (y + oneF))

/-- The function value on finite arguments, exact special cases first. -/
def expVal (s : Bool) (m : Nat) (e : Int) : Val :=
  if m = 0 then Val.ofInt 1
  else if cmpMag m e 256 0 = .gt then (if s then .fin false 1 (-400) else .fin false 1 400)
  else let (f, k) := expF (fixed s m e); inexact f k

/-- Whether `m * 2^e` is an integer. -/
def integral (m : Nat) (e : Int) : Bool := decide (0 ≤ e) || m % 2 ^ (-e).toNat == 0

def exp2Val (s : Bool) (m : Nat) (e : Int) : Val :=
  if cmpMag m e 256 0 = .gt then (if s then .fin false 1 (-400) else .fin false 1 400)
  else if integral m e then
    let k : Int := (shiftNat m e : Nat)
    .fin false 1 (if s then -k else k)
  else let (f, k) := expF (mulF (fixed s m e) ln2); inexact f k

def logVal (m : Nat) (e : Int) : Val :=
  if cmpMag m e 1 0 = .eq then Val.zero else inexact (logF m e) 0

/-- `m` is a power of two. -/
def pow2 (m : Nat) : Bool := m == 2 ^ Nat.log2 m

def log2Val (m : Nat) (e : Int) : Val :=
  if pow2 m then Val.ofInt (e + Nat.log2 m)
  else inexact ((logF m e * oneF) / ln2) 0

def rsqrtVal (m : Nat) (e : Int) : Val :=
  let (m, e) : Nat × Int := if e % 2 = 0 then (m, e) else (2 * m, e - 1)
  let k := 100 + Nat.log2 m
  let r := F32.isqrt (2 ^ (2 * k) / m)
  .fin false (F32.sticky r (r * r * m == 2 ^ (2 * k))) (-(e / 2) - k - 1)

/-- `1 / (1 + t)` times `n`, in fixed point. -/
def ratio (n d : Int) : Int := (n * oneF) / d

/-- A fixed-point exponential as one fixed-point number (its power of two applied). -/
def flat (p : Int × Int) : Int := if 0 ≤ p.2 then shiftInt p.1 p.2 else p.1 / (2 ^ (-p.2).toNat : Nat)

def tanhVal (s : Bool) (m : Nat) (e : Int) : Val :=
  if m = 0 then .fin s 0 0
  else if cmpMag m e 64 0 = .gt then inexact (if s then 1 - oneF else oneF - 1) 0
  else
    let t := flat (expF (2 * fixed false m e))
    let r := ratio (t - oneF) (t + oneF)
    inexact (if s then -r else r) 0

def sigmoidVal (s : Bool) (m : Nat) (e : Int) : Val :=
  if m = 0 then .fin false 1 (-1)
  else if cmpMag m e 200 0 = .gt then (if s then .fin false 1 (-400) else inexact (oneF - 1) 0)
  else
    let t := flat (expF (fixed true m e))
    if s then inexact (ratio t (oneF + t)) 0 else inexact (ratio oneF (oneF + t)) 0

/-- `Σ 2^i x^(2i+1) / (2i+1)!!` from the term `t` of index `n`. -/
def erfTail : Nat → Nat → Int → Int → Int
  | 0, _, _, _ => 0
  | f + 1, n, x2, t => t + erfTail f (n + 2) x2 ((2 * mulF t x2) / (n : Int))

def erfVal (s : Bool) (m : Nat) (e : Int) : Val :=
  if m = 0 then .fin s 0 0
  else if cmpMag m e 8 0 = .gt then inexact (if s then 1 - oneF else oneF - 1) 0
  else
    let x := fixed false m e
    let x2 := mulF x x
    let sum := erfTail 600 3 x2 x
    let invSqrtPi := (oneF * oneF) / (F32.isqrt (pi.natAbs * 2 ^ prec) : Int)
    let r := mulF (2 * invSqrtPi) (mulF (flat (expF (-x2))) sum)
    inexact (if s then -r else r) 0

/-- `Σ (-1)^i x^(2i+n) / (2i+n)!`, from the term `t` with index `n`. -/
def trigTail : Nat → Nat → Int → Int → Int
  | 0, _, _, _ => 0
  | f + 1, n, x2, t => t - trigTail f (n + 2) x2 (mulF t x2 / (((n + 1) * (n + 2) : Nat) : Int))

/-- `x - k·π/2` and `k mod 4`, for the nearest `k`. -/
def reduce (x : Int) : Int × Int :=
  let k := (4 * x + pi) / (2 * pi)
  (x - (k * pi) / 2, k % 4)

def sinReduced (r k : Int) : Int :=
  let r2 := mulF r r
  let sn := trigTail 60 1 r2 r
  let cs := trigTail 60 0 r2 oneF
  if k = 0 then sn else if k = 1 then cs else if k = 2 then -sn else -cs

def sinVal (s : Bool) (m : Nat) (e : Int) : Val :=
  if m = 0 then .fin s 0 0
  else let (r, k) := reduce (fixed s m e); inexact (sinReduced r k) 0

def cosVal (s : Bool) (m : Nat) (e : Int) : Val :=
  if m = 0 then Val.ofInt 1
  else let (r, k) := reduce (fixed s m e); inexact (sinReduced r ((k + 1) % 4)) 0

end Elem

namespace F32

/-- exp: −∞ gives +0 and +∞ gives +∞ (R46). -/
def exp (x : F32) : F32 :=
  match x.val with
  | .nan => nan
  | .inf s => if s then 0 else posInf
  | .fin s m e => ofVal (Elem.expVal s m e)

def exp2 (x : F32) : F32 :=
  match x.val with
  | .nan => nan
  | .inf s => if s then 0 else posInf
  | .fin s m e => ofVal (Elem.exp2Val s m e)

/-- A function of positive values: ±0 gives −∞, a negative value NaN and +∞ gives +∞ (R46). -/
def logBy (f : Nat → Int → Val) (x : F32) : F32 :=
  match x.val with
  | .nan => nan
  | .inf s => if s then nan else posInf
  | .fin s m e => if m = 0 then negInf else if s then nan else ofVal (f m e)

def log (x : F32) : F32 := logBy Elem.logVal x

def log2 (x : F32) : F32 := logBy Elem.log2Val x

/-- Reciprocal square root: ±0 gives the infinity of its sign, +∞ gives +0 (R46). -/
def rsqrt (x : F32) : F32 :=
  match x.val with
  | .nan => nan
  | .inf s => if s then nan else 0
  | .fin s m e =>
    if m = 0 then (if s then negInf else posInf) else if s then nan else ofVal (Elem.rsqrtVal m e)

def tanh (x : F32) : F32 :=
  match x.val with
  | .nan => nan
  | .inf s => if s then neg one else one
  | .fin s m e => ofVal (Elem.tanhVal s m e)

def erf (x : F32) : F32 :=
  match x.val with
  | .nan => nan
  | .inf s => if s then neg one else one
  | .fin s m e => ofVal (Elem.erfVal s m e)

def sigmoid (x : F32) : F32 :=
  match x.val with
  | .nan => nan
  | .inf s => if s then 0 else one
  | .fin s m e => ofVal (Elem.sigmoidVal s m e)

def sin (x : F32) : F32 :=
  match x.val with
  | .fin s m e => ofVal (Elem.sinVal s m e)
  | _ => nan

def cos (x : F32) : F32 :=
  match x.val with
  | .fin s m e => ofVal (Elem.cosVal s m e)
  | _ => nan

end F32

end Sys2Proof
end

