-- ==== Sys2Proof/Machine/Crypto.lean ====
section
/-! DEFINITION. The published primitives the spec names: CRC-32C (R279), SHA-512 and HMAC-SHA-512
(R308, R392), AES-256 key wrap (R429), and ECDSA and ECDH on P-521 (R424, R429, R435, R442). -/

namespace Sys2Proof

/-- `n` little-endian bytes of a natural number (R9). -/
def leBytes (n v : Nat) : List Byte :=
  (List.range n).map fun i => BitVec.ofNat 8 (v >>> (8 * i))

/-- The natural number of little-endian bytes (R9). -/
def leNat (l : List Byte) : Nat := l.foldr (fun b a => a * 256 + b.toNat) 0

/-- Bytes of a published standard, most significant first (R426). -/
def beNat (l : List Byte) : Nat := l.foldl (fun a b => a * 256 + b.toNat) 0

def beBytes (n v : Nat) : List Byte := (leBytes n v).reverse

/-- `n` bytes from offset `o`, zeros beyond the end. -/
def sliceBytes (l : List Byte) (o n : Nat) : List Byte :=
  let s := (l.drop o).take n
  s ++ List.replicate (n - s.length) 0

/-- The little-endian field of `n` bytes at offset `o`. -/
def leField (l : List Byte) (o n : Nat) : Nat := leNat ((l.drop o).take n)

/-- The bytes from offset `o` for `n` bytes are all zero. -/
def zeroField (l : List Byte) (o n : Nat) : Bool := leField l o n == 0

/-- Bits [hi:lo] of a number. -/
def bitField (v hi lo : Nat) : Nat := (v >>> lo) % 2 ^ (hi + 1 - lo)

def bitAt (v i : Nat) : Bool := v.testBit i

namespace Crypto

/-- One bit step of the reflected CRC-32C (polynomial 0x1EDC_6F41). -/
def crcBit (c : Nat) : Nat := if c % 2 = 1 then (c >>> 1) ^^^ 0x82F63B78 else c >>> 1

def crcByte (c : Nat) (b : Byte) : Nat :=
  (List.range 8).foldl (fun c _ => crcBit c) (c ^^^ b.toNat)

/-- CRC-32C of R279. -/
def crc32c (l : List Byte) : Nat := (l.foldl crcByte 0xFFFFFFFF) ^^^ 0xFFFFFFFF

def shaK0 : List Nat := [
  0x428A2F98D728AE22, 0x7137449123EF65CD, 0xB5C0FBCFEC4D3B2F, 0xE9B5DBA58189DBBC,
  0x3956C25BF348B538, 0x59F111F1B605D019, 0x923F82A4AF194F9B, 0xAB1C5ED5DA6D8118,
  0xD807AA98A3030242, 0x12835B0145706FBE, 0x243185BE4EE4B28C, 0x550C7DC3D5FFB4E2,
  0x72BE5D74F27B896F, 0x80DEB1FE3B1696B1, 0x9BDC06A725C71235, 0xC19BF174CF692694,
  0xE49B69C19EF14AD2, 0xEFBE4786384F25E3, 0x0FC19DC68B8CD5B5, 0x240CA1CC77AC9C65]

def shaK1 : List Nat := [
  0x2DE92C6F592B0275, 0x4A7484AA6EA6E483, 0x5CB0A9DCBD41FBD4, 0x76F988DA831153B5,
  0x983E5152EE66DFAB, 0xA831C66D2DB43210, 0xB00327C898FB213F, 0xBF597FC7BEEF0EE4,
  0xC6E00BF33DA88FC2, 0xD5A79147930AA725, 0x06CA6351E003826F, 0x142929670A0E6E70,
  0x27B70A8546D22FFC, 0x2E1B21385C26C926, 0x4D2C6DFC5AC42AED, 0x53380D139D95B3DF,
  0x650A73548BAF63DE, 0x766A0ABB3C77B2A8, 0x81C2C92E47EDAEE6, 0x92722C851482353B]

def shaK2 : List Nat := [
  0xA2BFE8A14CF10364, 0xA81A664BBC423001, 0xC24B8B70D0F89791, 0xC76C51A30654BE30,
  0xD192E819D6EF5218, 0xD69906245565A910, 0xF40E35855771202A, 0x106AA07032BBD1B8,
  0x19A4C116B8D2D0C8, 0x1E376C085141AB53, 0x2748774CDF8EEB99, 0x34B0BCB5E19B48A8,
  0x391C0CB3C5C95A63, 0x4ED8AA4AE3418ACB, 0x5B9CCA4F7763E373, 0x682E6FF3D6B2B8A3,
  0x748F82EE5DEFB2FC, 0x78A5636F43172F60, 0x84C87814A1F0AB72, 0x8CC702081A6439EC]

def shaK3 : List Nat := [
  0x90BEFFFA23631E28, 0xA4506CEBDE82BDE9, 0xBEF9A3F7B2C67915, 0xC67178F2E372532B,
  0xCA273ECEEA26619C, 0xD186B8C721C0C207, 0xEADA7DD6CDE0EB1E, 0xF57D4F7FEE6ED178,
  0x06F067AA72176FBA, 0x0A637DC5A2C898A6, 0x113F9804BEF90DAE, 0x1B710B35131C471B,
  0x28DB77F523047D84, 0x32CAAB7B40C72493, 0x3C9EBE0A15C9BEBC, 0x431D67C49C100D4C,
  0x4CC5D4BECB3E42B6, 0x597F299CFC657E2A, 0x5FCB6FAB3AD6FAEC, 0x6C44198C4A475817]

/-- The 80 round constants of SHA-512 (FIPS 180-4). -/
def shaK : List Nat := shaK0 ++ shaK1 ++ shaK2 ++ shaK3

def shaH0 : List Nat := [
  0x6A09E667F3BCC908, 0xBB67AE8584CAA73B, 0x3C6EF372FE94F82B, 0xA54FF53A5F1D36F1,
  0x510E527FADE682D1, 0x9B05688C2B3E6C1F, 0x1F83D9ABFB41BD6B, 0x5BE0CD19137E2179]

/-- The initial hash value of SHA-512 (FIPS 180-4). -/
def shaH : List Nat := shaH0

/-- The eight working words of SHA-512. -/
structure ShaState where
  a : Word64
  b : Word64
  c : Word64
  d : Word64
  e : Word64
  f : Word64
  g : Word64
  h : Word64
  deriving DecidableEq, Repr

def ror (x : Word64) (n : Nat) : Word64 := (x >>> n) ||| (x <<< (64 - n))

def shaRound (s : ShaState) (kw : Word64 × Word64) : ShaState :=
  let s1 := ror s.e 14 ^^^ ror s.e 18 ^^^ ror s.e 41
  let ch := (s.e &&& s.f) ^^^ (~~~s.e &&& s.g)
  let t1 := s.h + s1 + ch + kw.1 + kw.2
  let s0 := ror s.a 28 ^^^ ror s.a 34 ^^^ ror s.a 39
  let mj := (s.a &&& s.b) ^^^ (s.a &&& s.c) ^^^ (s.b &&& s.c)
  ⟨t1 + (s0 + mj), s.a, s.b, s.c, s.d + t1, s.e, s.f, s.g⟩

/-- The message schedule: `n` further words after the last sixteen, newest first. -/
def shaSchedule : Nat → List Word64 → List Word64
  | 0, l => l
  | n + 1, l =>
    let w2 := l.getD 1 0
    let w7 := l.getD 6 0
    let w15 := l.getD 14 0
    let w16 := l.getD 15 0
    let s1 := ror w2 19 ^^^ ror w2 61 ^^^ (w2 >>> 6)
    let s0 := ror w15 1 ^^^ ror w15 8 ^^^ (w15 >>> 7)
    shaSchedule n ((s1 + w7 + s0 + w16) :: l)

def shaWords (block : List Byte) : List Word64 :=
  (List.range 16).map fun i => BitVec.ofNat 64 (beNat ((block.drop (8 * i)).take 8))

def shaBlock (s : ShaState) (block : List Byte) : ShaState :=
  let ws := (shaSchedule 64 (shaWords block).reverse).reverse
  let t := ((shaK.map (BitVec.ofNat 64)).zip ws).foldl shaRound s
  ⟨s.a + t.a, s.b + t.b, s.c + t.c, s.d + t.d, s.e + t.e, s.f + t.f, s.g + t.g, s.h + t.h⟩

def shaInit : ShaState :=
  match shaH with
  | [a, b, c, d, e, f, g, h] =>
    ⟨BitVec.ofNat 64 a, BitVec.ofNat 64 b, BitVec.ofNat 64 c, BitVec.ofNat 64 d,
     BitVec.ofNat 64 e, BitVec.ofNat 64 f, BitVec.ofNat 64 g, BitVec.ofNat 64 h⟩
  | _ => ⟨0, 0, 0, 0, 0, 0, 0, 0⟩

/-- The padding of SHA-512. -/
def shaPad (n : Nat) : List Byte :=
  0x80#8 :: (List.replicate ((239 - n % 128) % 128) 0 ++ beBytes 16 (8 * n))

def shaBlocks : Nat → ShaState → List Byte → ShaState
  | 0, s, _ => s
  | k + 1, s, l => shaBlocks k (shaBlock s (l.take 128)) (l.drop 128)

/-- SHA-512 (FIPS 180-4): 64 bytes. -/
def sha512 (l : List Byte) : List Byte :=
  let m := l ++ shaPad l.length
  let s := shaBlocks (m.length / 128) shaInit m
  [s.a, s.b, s.c, s.d, s.e, s.f, s.g, s.h].flatMap fun w => beBytes 8 w.toNat

/-- HMAC-SHA-512 (FIPS 198-1). -/
def hmac (key msg : List Byte) : List Byte :=
  let k := if key.length ≤ 128 then key else sha512 key
  let k := k ++ List.replicate (128 - k.length) 0
  sha512 (k.map (· ^^^ 0x5C#8) ++ sha512 (k.map (· ^^^ 0x36#8) ++ msg))

/-! ### AES-256 and its key wrap -/

/-- Multiplication of a byte by x in GF(2^8) with the polynomial of AES. -/
def xtime (b : Nat) : Nat := Nat.xor (Nat.mul 2 b) (Nat.mul (Nat.div b 128) 0x11B)

/-- The S-box, a row per high digit (FIPS 197). -/
def sboxRows : List (List Nat) := [
  [0x63, 0x7C, 0x77, 0x7B, 0xF2, 0x6B, 0x6F, 0xC5, 0x30, 0x01, 0x67, 0x2B, 0xFE, 0xD7, 0xAB, 0x76],
  [0xCA, 0x82, 0xC9, 0x7D, 0xFA, 0x59, 0x47, 0xF0, 0xAD, 0xD4, 0xA2, 0xAF, 0x9C, 0xA4, 0x72, 0xC0],
  [0xB7, 0xFD, 0x93, 0x26, 0x36, 0x3F, 0xF7, 0xCC, 0x34, 0xA5, 0xE5, 0xF1, 0x71, 0xD8, 0x31, 0x15],
  [0x04, 0xC7, 0x23, 0xC3, 0x18, 0x96, 0x05, 0x9A, 0x07, 0x12, 0x80, 0xE2, 0xEB, 0x27, 0xB2, 0x75],
  [0x09, 0x83, 0x2C, 0x1A, 0x1B, 0x6E, 0x5A, 0xA0, 0x52, 0x3B, 0xD6, 0xB3, 0x29, 0xE3, 0x2F, 0x84],
  [0x53, 0xD1, 0x00, 0xED, 0x20, 0xFC, 0xB1, 0x5B, 0x6A, 0xCB, 0xBE, 0x39, 0x4A, 0x4C, 0x58, 0xCF],
  [0xD0, 0xEF, 0xAA, 0xFB, 0x43, 0x4D, 0x33, 0x85, 0x45, 0xF9, 0x02, 0x7F, 0x50, 0x3C, 0x9F, 0xA8],
  [0x51, 0xA3, 0x40, 0x8F, 0x92, 0x9D, 0x38, 0xF5, 0xBC, 0xB6, 0xDA, 0x21, 0x10, 0xFF, 0xF3, 0xD2],
  [0xCD, 0x0C, 0x13, 0xEC, 0x5F, 0x97, 0x44, 0x17, 0xC4, 0xA7, 0x7E, 0x3D, 0x64, 0x5D, 0x19, 0x73],
  [0x60, 0x81, 0x4F, 0xDC, 0x22, 0x2A, 0x90, 0x88, 0x46, 0xEE, 0xB8, 0x14, 0xDE, 0x5E, 0x0B, 0xDB],
  [0xE0, 0x32, 0x3A, 0x0A, 0x49, 0x06, 0x24, 0x5C, 0xC2, 0xD3, 0xAC, 0x62, 0x91, 0x95, 0xE4, 0x79],
  [0xE7, 0xC8, 0x37, 0x6D, 0x8D, 0xD5, 0x4E, 0xA9, 0x6C, 0x56, 0xF4, 0xEA, 0x65, 0x7A, 0xAE, 0x08],
  [0xBA, 0x78, 0x25, 0x2E, 0x1C, 0xA6, 0xB4, 0xC6, 0xE8, 0xDD, 0x74, 0x1F, 0x4B, 0xBD, 0x8B, 0x8A],
  [0x70, 0x3E, 0xB5, 0x66, 0x48, 0x03, 0xF6, 0x0E, 0x61, 0x35, 0x57, 0xB9, 0x86, 0xC1, 0x1D, 0x9E],
  [0xE1, 0xF8, 0x98, 0x11, 0x69, 0xD9, 0x8E, 0x94, 0x9B, 0x1E, 0x87, 0xE9, 0xCE, 0x55, 0x28, 0xDF],
  [0x8C, 0xA1, 0x89, 0x0D, 0xBF, 0xE6, 0x42, 0x68, 0x41, 0x99, 0x2D, 0x0F, 0xB0, 0x54, 0xBB, 0x16]]

/-- The inverse S-box (FIPS 197). -/
def invSboxRows : List (List Nat) := [
  [0x52, 0x09, 0x6A, 0xD5, 0x30, 0x36, 0xA5, 0x38, 0xBF, 0x40, 0xA3, 0x9E, 0x81, 0xF3, 0xD7, 0xFB],
  [0x7C, 0xE3, 0x39, 0x82, 0x9B, 0x2F, 0xFF, 0x87, 0x34, 0x8E, 0x43, 0x44, 0xC4, 0xDE, 0xE9, 0xCB],
  [0x54, 0x7B, 0x94, 0x32, 0xA6, 0xC2, 0x23, 0x3D, 0xEE, 0x4C, 0x95, 0x0B, 0x42, 0xFA, 0xC3, 0x4E],
  [0x08, 0x2E, 0xA1, 0x66, 0x28, 0xD9, 0x24, 0xB2, 0x76, 0x5B, 0xA2, 0x49, 0x6D, 0x8B, 0xD1, 0x25],
  [0x72, 0xF8, 0xF6, 0x64, 0x86, 0x68, 0x98, 0x16, 0xD4, 0xA4, 0x5C, 0xCC, 0x5D, 0x65, 0xB6, 0x92],
  [0x6C, 0x70, 0x48, 0x50, 0xFD, 0xED, 0xB9, 0xDA, 0x5E, 0x15, 0x46, 0x57, 0xA7, 0x8D, 0x9D, 0x84],
  [0x90, 0xD8, 0xAB, 0x00, 0x8C, 0xBC, 0xD3, 0x0A, 0xF7, 0xE4, 0x58, 0x05, 0xB8, 0xB3, 0x45, 0x06],
  [0xD0, 0x2C, 0x1E, 0x8F, 0xCA, 0x3F, 0x0F, 0x02, 0xC1, 0xAF, 0xBD, 0x03, 0x01, 0x13, 0x8A, 0x6B],
  [0x3A, 0x91, 0x11, 0x41, 0x4F, 0x67, 0xDC, 0xEA, 0x97, 0xF2, 0xCF, 0xCE, 0xF0, 0xB4, 0xE6, 0x73],
  [0x96, 0xAC, 0x74, 0x22, 0xE7, 0xAD, 0x35, 0x85, 0xE2, 0xF9, 0x37, 0xE8, 0x1C, 0x75, 0xDF, 0x6E],
  [0x47, 0xF1, 0x1A, 0x71, 0x1D, 0x29, 0xC5, 0x89, 0x6F, 0xB7, 0x62, 0x0E, 0xAA, 0x18, 0xBE, 0x1B],
  [0xFC, 0x56, 0x3E, 0x4B, 0xC6, 0xD2, 0x79, 0x20, 0x9A, 0xDB, 0xC0, 0xFE, 0x78, 0xCD, 0x5A, 0xF4],
  [0x1F, 0xDD, 0xA8, 0x33, 0x88, 0x07, 0xC7, 0x31, 0xB1, 0x12, 0x10, 0x59, 0x27, 0x80, 0xEC, 0x5F],
  [0x60, 0x51, 0x7F, 0xA9, 0x19, 0xB5, 0x4A, 0x0D, 0x2D, 0xE5, 0x7A, 0x9F, 0x93, 0xC9, 0x9C, 0xEF],
  [0xA0, 0xE0, 0x3B, 0x4D, 0xAE, 0x2A, 0xF5, 0xB0, 0xC8, 0xEB, 0xBB, 0x3C, 0x83, 0x53, 0x99, 0x61],
  [0x17, 0x2B, 0x04, 0x7E, 0xBA, 0x77, 0xD6, 0x26, 0xE1, 0x69, 0x14, 0x63, 0x55, 0x21, 0x0C, 0x7D]]

def sbox (b : Nat) : Nat := (sboxRows.getD (b / 16) []).getD (b % 16) 0

def invSbox (b : Nat) : Nat := (invSboxRows.getD (b / 16) []).getD (b % 16) 0

def xorL (a b : List Nat) : List Nat := List.zipWith (· ^^^ ·) a b

/-- The next word of the AES-256 key schedule, from the words so far (newest first). -/
def keyWord (n : Nat) (ws : List (List Nat)) : List Nat :=
  let t := ws.headD []
  let t := if n % 8 = 0 then
      xorL ((t.drop 1 ++ t.take 1).map sbox) [2 ^ (n / 8 - 1), 0, 0, 0]
    else if n % 8 = 4 then t.map sbox else t
  xorL (ws.getD 7 []) t

def keySchedule : Nat → Nat → List (List Nat) → List (List Nat)
  | 0, _, ws => ws
  | k + 1, n, ws => keySchedule k (n + 1) (keyWord n ws :: ws)

/-- The 15 round keys of 16 bytes. -/
def roundKeys (key : List Nat) : List (List Nat) :=
  let ws := (keySchedule 52 8 ((List.range 8).map fun i => (key.drop (4 * i)).take 4).reverse).reverse
  (List.range 15).map fun r => ((ws.drop (4 * r)).take 4).flatten

/-- The source position of byte `i` under the inverse row shift. -/
def invShift (i : Nat) : Nat := (i + 16 - 4 * (i % 4)) % 16

/-- 14a + 11b + 13c + 9d in GF(2^8). -/
def mix4 (a b c d : Nat) : Nat :=
  let e := Nat.xor (Nat.xor a b) (Nat.xor c d)
  let f := Nat.xor (Nat.xor a c) (xtime e)
  let g := Nat.xor (Nat.xor a b) (xtime f)
  Nat.xor (Nat.xor (Nat.xor b c) d) (xtime g)

def invMixCol (c : List Nat) : List Nat :=
  match c with
  | [a, b, c, d] => [mix4 a b c d, mix4 b c d a, mix4 c d a b, mix4 d a b c]
  | l => l

def invMix (s : List Nat) : List Nat :=
  (List.range 4).flatMap fun c => invMixCol ((s.drop (4 * c)).take 4)

/-- One AES-256 block decryption. -/
def aesDecrypt (key block : List Nat) : List Nat :=
  match (roundKeys key).reverse with
  | [] => block
  | k14 :: rest =>
    let step := fun (s : List Nat) (k : List Nat) (last : Bool) =>
      let s := (List.range 16).map fun i => invSbox (s.getD (invShift i) 0)
      let s := xorL s k
      if last then s else invMix s
    rest.zipIdx.foldl (fun s (k, i) => step s k (i == 13)) (xorL block k14)

/-- One step of key unwrap (SP 800-38F): counter `t`, the register A, the words R oldest first. -/
def unwrapStep (key : List Nat) (n : Nat) (st : List Nat × List (List Nat)) (t : Nat) :
    List Nat × List (List Nat) :=
  let i := (t - 1) % n
  let a := xorL st.1 ((beBytes 8 t).map BitVec.toNat)
  let b := aesDecrypt key (a ++ st.2.getD i [])
  (b.take 8, st.2.set i (b.drop 8))

/-- AES-256 key unwrap of 72 bytes into 64 (R429); nothing where the check value is wrong. -/
def unwrap (kek wrapped : List Byte) : Option (List Byte) :=
  let key := kek.map BitVec.toNat
  let w := wrapped.map BitVec.toNat
  let n := w.length / 8 - 1
  let rs := (List.range n).map fun i => (w.drop (8 * (i + 1))).take 8
  let (a, rs) := ((List.range (6 * n)).map fun k => 6 * n - k).foldl (unwrapStep key n) (w.take 8, rs)
  if a == List.replicate 8 0xA6 then some (rs.flatten.map (BitVec.ofNat 8)) else none

/-! ### P-521 -/

/-- The prime of P-521. -/
def p521 : Nat := 2 ^ 521 - 1

/-- The order of the base point of P-521 (FIPS 186-5, SP 800-186). -/
def order521 : Nat :=
  0x1FFFFFFFFFFFFFFFFFFFFFFFFFFFFFFFFFFFFFFFFFFFFFFFFFFFFFFFFFFFFFFFFFA51868783BF2F966B7FCC0148F709A5D03BB5C9B8899C47AEBB6FB71E91386409

def b521 : Nat :=
  0x0051953EB9618E1C9A1F929A21A0B68540EEA2DA725B99B315F3B8B489918EF109E156193951EC7E937B1652C0BD3BB1BF073573DF883D2C34F1EF451FD46B503F00

def gx521 : Nat :=
  0x00C6858E06B70404E9CD9E3ECB662395B4429C648139053FB521F828AF606B4D3DBAA14B5E77EFE75928FE1DC127A2FFA8DE3348B3C1856A429BF97E7E31C2E5BD66

def gy521 : Nat :=
  0x011839296A789A3BC0045C8A5FB42C7D1BD998F54449579B446817AFBD17273E662C97EE72995EF42640C550B9013FAD0761353C7086A272C24088BE94769FD16650

/-- `a^k mod n` by the bits of `k`, lowest first. -/
def powModFuel (n : Nat) : Nat → Nat → Nat → Nat
  | 0, _, _ => 1
  | f + 1, a, k => ((if k % 2 = 1 then a else 1) * powModFuel n f (a * a % n) (k / 2)) % n

/-- The inverse modulo a prime of at most 521 bits. -/
def invMod (n a : Nat) : Nat := powModFuel n 521 (a % n) (n - 2)

/-- A projective point `(X : Y : Z)`; `Z = 0` is the point at infinity. -/
abbrev Point := Nat × Nat × Nat

def subMod (a b : Nat) : Nat := (a + p521 - b) % p521

/-- Doubling in Jacobian coordinates, with a = -3. -/
def dbl (p : Point) : Point :=
  let (x, y, z) := p
  let d := z * z % p521
  let g := y * y % p521
  let b := x * g % p521
  let a := 3 * (subMod x d) * ((x + d) % p521) % p521
  let x3 := subMod (a * a % p521) (8 * b % p521)
  let yz := (y + z) % p521
  let z3 := subMod (subMod (yz * yz % p521) g) d
  let y3 := subMod (a * subMod (4 * b % p521) x3 % p521) (8 * g * g % p521)
  (x3, y3, z3)

/-- Addition in Jacobian coordinates. -/
def addP (p q : Point) : Point :=
  let (x1, y1, z1) := p
  let (x2, y2, z2) := q
  if z1 = 0 then q
  else if z2 = 0 then p
  else
    let z1z := z1 * z1 % p521
    let z2z := z2 * z2 % p521
    let u1 := x1 * z2z % p521
    let u2 := x2 * z1z % p521
    let s1 := y1 * z2 * z2z % p521
    let s2 := y2 * z1 * z1z % p521
    if u1 = u2 then (if s1 = s2 then dbl p else (1, 1, 0))
    else
      let h := subMod u2 u1
      let r := subMod s2 s1
      let h2 := h * h % p521
      let h3 := h * h2 % p521
      let v := u1 * h2 % p521
      let x3 := subMod (subMod (r * r % p521) h3) (2 * v % p521)
      let y3 := subMod (r * subMod v x3 % p521) (s1 * h3 % p521)
      (x3, y3, h * z1 * z2 % p521)

def mulPFuel : Nat → Nat → Point → Point
  | 0, _, _ => (1, 1, 0)
  | f + 1, k, p =>
    let r := mulPFuel f (k / 2) (dbl p)
    if k % 2 = 1 then addP p r else r

/-- Scalar multiplication. -/
def mulP (k : Nat) (p : Point) : Point := mulPFuel 522 k p

/-- Affine coordinates, nothing for the point at infinity. -/
def affine (p : Point) : Option (Nat × Nat) :=
  let (x, y, z) := p
  if z = 0 then none
  else
    let i := invMod p521 z
    let i2 := i * i % p521
    some (x * i2 % p521, y * i2 * i % p521)

def base521 : Point := (gx521, gy521, 1)

/-- The point lies on the curve. -/
def onCurve (x y : Nat) : Bool :=
  decide (x < p521) && decide (y < p521) &&
    (y * y % p521 == (x * x * x + (p521 - 3) * x + b521) % p521)

/-- The SEC 1 uncompressed encoding of 133 bytes (R424). -/
def encodePoint (x y : Nat) : List Byte := 0x04#8 :: (beBytes 66 x ++ beBytes 66 y)

/-- A point read from its SEC 1 uncompressed encoding. -/
def decodePoint (l : List Byte) : Option (Nat × Nat) :=
  match l with
  | 0x04#8 :: t =>
    let x := beNat (t.take 66)
    let y := beNat ((t.drop 66).take 66)
    if t.length = 132 ∧ onCurve x y = true then some (x, y) else none
  | _ => none

/-- The public key of a private key. -/
def publicKey (d : Nat) : List Byte :=
  match affine (mulP d base521) with
  | some (x, y) => encodePoint x y
  | none => List.replicate 133 0

/-- ECDSA over a 64-byte digest with the per-message number `k`: r then s, 66 bytes each (R426). -/
def sign (d k : Nat) (digest : List Byte) : List Byte :=
  match affine (mulP k base521) with
  | none => List.replicate 132 0
  | some (x, _) =>
    let r := x % order521
    let s := invMod order521 k * ((beNat digest + r * d) % order521) % order521
    beBytes 66 r ++ beBytes 66 s

/-- ECDSA verification of `r ‖ s` over a 64-byte digest. -/
def verify (pub : Nat × Nat) (digest sig : List Byte) : Bool :=
  let r := beNat (sig.take 66)
  let s := beNat ((sig.drop 66).take 66)
  if r = 0 ∨ order521 ≤ r ∨ s = 0 ∨ order521 ≤ s then false
  else
    let w := invMod order521 s
    let u1 := beNat digest * w % order521
    let u2 := r * w % order521
    match affine (addP (mulP u1 base521) (mulP u2 (pub.1, pub.2, 1))) with
    | some (x, _) => x % order521 == r
    | none => false

/-- The x coordinate of `d · P`, the shared secret of one-pass ECDH (R429). -/
def ecdh (d : Nat) (pub : Nat × Nat) : Option (List Byte) :=
  (affine (mulP d (pub.1, pub.2, 1))).map fun xy => beBytes 66 xy.1

/-- The one-step KDF of SP 800-56C with SHA-512, its first 32 bytes (R429). -/
def kdf (z info : List Byte) : List Byte := (sha512 (beBytes 4 1 ++ z ++ info)).take 32

end Crypto

end Sys2Proof
end

