-- ==== Sys2Proof/Config.lean ====
section
/-! DEFINITION. What one part, its board and its fuses fix, and the values the spec leaves open. A
constant without a body is a value the spec does not give: nothing here chooses it. -/

namespace Sys2Proof.Config

/-- A free natural number, fresh for each count of `State.free` (log entry 2). -/
opaque freeNat : Nat → Nat

/-- A free byte at an address: what stands where the spec writes nothing it states. -/
opaque freeByte : Nat → Byte

/-- Fields T (0) and e_max (1) of the statistics record of a weight gradient with an empty window (R141), by
tensor identifier. -/
opaque emptyRecord : Nat → Nat → Nat

/-- Skimmer units at the head of an instruction's work lists (R122), by what its plan depends on (R109). -/
opaque skimUnits : List Nat → Nat

/-- Whether a mapping unit of logical flash lies on a target, as it stands when the target is lost (R237, R241). -/
opaque onTarget : Nat → Nat → Bool

/-- The hash of source, destination and flow identifier that picks one of several equal paths (R24,
R290). -/
opaque pathHash : Nat → Nat → Nat → Nat

/-- Cycles that the load engine waits for memory on a job of a unit, by the unit's draw (R111, R123). -/
opaque loadWait : Nat → Nat → Nat

/-- Starved cycles of a plot, by a draw and the event that counts their cause (R415). -/
opaque stall : Nat → Nat → Nat

/-- The IEEE 802.1Qbb priority of traffic with a DSCP (R341; the spec gives no map). -/
opaque priorityOf : Nat → Nat

/-- The device's P-521 private key, made at provisioning (R424; log entry 6). -/
opaque identityKey : Nat

/-- The device's public key, 133 bytes (R424). -/
opaque identityPublic : List Byte

/-- The certificate that the manufacturer wrote, at most 1,024 bytes (R426). -/
opaque certificate : List Byte

/-! What the board's straps and the fuses give (R443, R464; log entry 6). -/

/-- ADDR_STRAP[17:0]. -/
opaque addressStraps : Nat

/-- PLCA_ID[2:0]. -/
opaque plcaStraps : Nat

/-- The stepping in bits [3:0] and the JEP106 code above it (object 0x1003). -/
opaque idcodeFields : Nat

/-- The serial number, at most 32 bytes. -/
opaque serialNumber : List Byte

opaque bootRomVersion : Nat

/-- The public key of Otsia's signing key index n, whose digest boot ROM holds (R435). -/
opaque signingKey : Nat → Option (Nat × Nat)

/-- Whether a certificate verifies under an Otsia root that boot ROM holds, and is for this public key
(R428). -/
opaque certificateVerifies : List Byte → List Byte → Bool

/-! What the coded data of the two formats mean. The spec takes AV1 and JPEG as given (R249, R256, R257); headers are
read in `Machine/Av1.lean` and `Machine/Jpeg.lean`, and what the rest of a stream says is left open. -/

/-- Where the tile data of an AV1 stream hold a first syntax error: the shown frame it lies in, and the work units
counted when it is met (R259, R264). -/
opaque av1Error : List Byte → Option (Nat × Nat)

/-- The code value of frame, plane, x, y. -/
opaque av1Code : List Byte → Nat → Nat → Nat → Nat → Nat

/-- The film_grain_params of a frame, padded to a byte; empty where it has none. -/
opaque av1Grain : List Byte → Nat → List Byte

/-- The work units counted when the entropy-coded data of a JPEG image meet a first syntax error. -/
opaque jpegError : List Byte → Option Nat

/-- Bytes of the prepared area that the statistics counts of one batch take (R267). -/
opaque preparedCounts : Nat

/-- The code value of plane, x, y. -/
opaque jpegCode : List Byte → Nat → Nat → Nat → Nat

end Sys2Proof.Config
end

