-- ==== Sys2Proof/Machine/Objects.lean ====
section
/-! DEFINITION. The object dictionary's table: every object the spec lists, with its type, length,
access class, privilege and default (R53, R82, R83, R108, R209, R242 to R244, R274, R275, R303 to
R305, R332, R354 to R356, R385, R386, R407, R423, R443 to R445, R465, R466). -/

namespace Sys2Proof.Machine

/-- One row of an object table. Indices `lo` to `hi`, subindices `subLo` to `subHi`; the type code of
R389, the (largest) length in bytes, the access code of R390, the privilege code of R391, the
default (0 where it is computed), whether it exists per paddock, whether it is group-relevant. -/
structure ObjRow where
  lo : Nat
  hi : Nat
  subLo : Nat
  subHi : Nat
  type : Nat
  len : Nat
  access : Nat
  priv : Nat
  dflt : Nat
  perPaddock : Bool
  group : Bool
  deriving DecidableEq, Repr

def objRows0 : List ObjRow := [
  ⟨0x1000, 0x1000, 0x00, 0x00, 10, 64, 0, 2, 0x0, false, false⟩,
  ⟨0x1001, 0x1001, 0x00, 0x00, 10, 133, 0, 2, 0x0, false, false⟩,
  ⟨0x1002, 0x1002, 0x00, 0x00, 9, 16, 0, 2, 0x0, false, false⟩,
  ⟨0x1003, 0x1003, 0x00, 0x00, 5, 4, 0, 2, 0x0, false, false⟩,
  ⟨0x1004, 0x1004, 0x00, 0x00, 9, 32, 0, 2, 0x0, false, false⟩,
  ⟨0x1005, 0x1005, 0x00, 0x00, 5, 4, 0, 2, 0x0, false, false⟩,
  ⟨0x1007, 0x1007, 0x00, 0x00, 5, 4, 0, 2, 0x0, false, false⟩,
  ⟨0x1010, 0x1010, 0x00, 0x03, 10, 256, 0, 2, 0x0, false, false⟩,
  ⟨0x1011, 0x1011, 0x00, 0x00, 4, 2, 0, 2, 0x0, false, false⟩,
  ⟨0x1020, 0x1020, 0x00, 0x08, 10, 64, 2, 1, 0x0, false, false⟩,
  ⟨0x1021, 0x1021, 0x00, 0x08, 11, 512, 0, 1, 0x0, false, false⟩,
  ⟨0x1080, 0x1080, 0x00, 0x00, 10, 6, 0, 2, 0x0, false, false⟩,
  ⟨0x1081, 0x1081, 0x00, 0x00, 3, 1, 0, 2, 0x0, false, false⟩,
  ⟨0x1082, 0x1082, 0x00, 0x00, 3, 1, 1, 0, 0x8, false, false⟩,
  ⟨0x1083, 0x1083, 0x00, 0x00, 5, 4, 1, 0, 0x0, false, false⟩,
  ⟨0x1084, 0x1084, 0x00, 0x00, 4, 2, 0, 2, 0xA7D1, false, false⟩,
  ⟨0x1085, 0x1085, 0x00, 0x00, 5, 4, 0, 2, 0x10D1C, false, false⟩,
  ⟨0x1086, 0x1086, 0x00, 0x00, 5, 4, 3, 0, 0x0, false, false⟩,
  ⟨0x1087, 0x1087, 0x00, 0x00, 5, 4, 3, 0, 0x0, false, false⟩,
  ⟨0x1088, 0x1088, 0x00, 0x00, 5, 4, 3, 0, 0x0, false, false⟩,
  ⟨0x1089, 0x1089, 0x00, 0x00, 6, 8, 0, 0, 0x0, false, false⟩,
  ⟨0x108A, 0x108A, 0x00, 0x00, 5, 4, 3, 1, 0x0, true, false⟩,
  ⟨0x108B, 0x108B, 0x00, 0x00, 5, 4, 0, 1, 0x0, true, false⟩,
  ⟨0x108C, 0x108C, 0x00, 0x00, 4, 2, 0, 1, 0x0, true, false⟩,
  ⟨0x108D, 0x108D, 0x00, 0x00, 6, 8, 0, 2, 0x0, false, false⟩,
  ⟨0x1100, 0x1100, 0x00, 0x00, 3, 1, 0, 2, 0x0, false, false⟩,
  ⟨0x1101, 0x1101, 0x00, 0x00, 11, 8, 2, 0, 0x0, false, false⟩,
  ⟨0x1102, 0x1102, 0x00, 0x00, 3, 1, 0, 2, 0x0, false, false⟩,
  ⟨0x1103, 0x1103, 0x00, 0x00, 10, 64, 0, 0, 0x0, false, false⟩,
  ⟨0x1105, 0x1105, 0x00, 0x00, 1, 1, 0, 2, 0x0, false, false⟩,
  ⟨0x1110, 0x1110, 0x00, 0x00, 11, 216, 2, 2, 0x0, false, false⟩,
  ⟨0x1111, 0x1111, 0x00, 0x00, 11, 72, 2, 0, 0x0, false, false⟩,
  ⟨0x1120, 0x1120, 0x00, 0x07, 11, 72, 2, 0, 0x0, false, false⟩,
  ⟨0x1130, 0x1130, 0x00, 0x00, 5, 4, 3, 0, 0x0, false, false⟩,
  ⟨0x1150, 0x1150, 0x00, 0x00, 11, 1032, 2, 0, 0x0, false, false⟩,
  ⟨0x1151, 0x1151, 0x00, 0x00, 1, 1, 2, 0, 0x0, false, false⟩,
  ⟨0x1200, 0x1200, 0x00, 0x00, 3, 1, 0, 2, 0x0, false, false⟩,
  ⟨0x1201, 0x1201, 0x00, 0x01, 5, 4, 0, 2, 0x0, false, false⟩,
  ⟨0x1202, 0x1202, 0x00, 0x01, 3, 1, 0, 2, 0x0, false, false⟩,
  ⟨0x1203, 0x1203, 0x00, 0x00, 3, 1, 0, 2, 0x0, false, false⟩]

def objRows1 : List ObjRow := [
  ⟨0x1204, 0x1204, 0x00, 0x00, 5, 4, 0, 2, 0x0, false, false⟩,
  ⟨0x1205, 0x1205, 0x00, 0x00, 5, 4, 0, 2, 0x0, false, false⟩,
  ⟨0x1206, 0x1206, 0x00, 0x00, 3, 1, 0, 2, 0x0, false, false⟩,
  ⟨0x1207, 0x1207, 0x00, 0x00, 3, 1, 0, 2, 0x40, false, false⟩,
  ⟨0x1208, 0x1208, 0x00, 0x00, 3, 1, 0, 2, 0x0, false, false⟩,
  ⟨0x1210, 0x1210, 0x00, 0x00, 11, 256, 2, 0, 0x0, false, false⟩,
  ⟨0x1211, 0x1211, 0x00, 0x00, 11, 1032, 2, 0, 0x0, false, false⟩,
  ⟨0x1212, 0x1212, 0x00, 0x00, 1, 1, 2, 0, 0x0, false, false⟩,
  ⟨0x1213, 0x1213, 0x00, 0x00, 1, 1, 2, 0, 0x0, false, false⟩,
  ⟨0x1214, 0x1214, 0x00, 0x00, 3, 1, 0, 0, 0x0, false, false⟩,
  ⟨0x1215, 0x1215, 0x00, 0x00, 1, 1, 2, 0, 0x0, false, false⟩,
  ⟨0x1216, 0x1216, 0x00, 0x00, 1, 1, 2, 0, 0x0, false, false⟩,
  ⟨0x1217, 0x1217, 0x00, 0x00, 1, 1, 2, 0, 0x0, false, false⟩,
  ⟨0x1218, 0x1218, 0x00, 0x00, 5, 4, 3, 0, 0x0, false, false⟩,
  ⟨0x1219, 0x1219, 0x00, 0x00, 6, 8, 0, 0, 0x0, false, false⟩,
  ⟨0x2000, 0x2000, 0x00, 0x00, 5, 4, 0, 2, 0x0, false, false⟩,
  ⟨0x2001, 0x2001, 0x00, 0x00, 3, 1, 0, 2, 0x0, false, false⟩,
  ⟨0x2002, 0x2002, 0x00, 0x00, 3, 1, 0, 2, 0x0, false, false⟩,
  ⟨0x2003, 0x2003, 0x00, 0x00, 6, 8, 0, 0, 0x0, false, false⟩,
  ⟨0x2004, 0x2004, 0x00, 0x00, 3, 1, 1, 0, 0x0, false, false⟩,
  ⟨0x2010, 0x2010, 0x00, 0x00, 1, 1, 0, 2, 0x0, false, false⟩,
  ⟨0x2011, 0x2011, 0x00, 0x00, 4, 2, 1, 0, 0xCE4, false, false⟩,
  ⟨0x2012, 0x2012, 0x00, 0x00, 4, 2, 1, 0, 0x898, false, false⟩,
  ⟨0x2013, 0x2013, 0x00, 0x00, 4, 2, 0, 2, 0x0, false, false⟩,
  ⟨0x2014, 0x2014, 0x00, 0x00, 4, 2, 3, 0, 0x0, false, false⟩,
  ⟨0x2020, 0x2020, 0x00, 0x0F, 4, 2, 0, 0, 0x0, false, false⟩,
  ⟨0x2021, 0x2021, 0x00, 0x0F, 5, 4, 0, 0, 0x0, false, false⟩,
  ⟨0x2022, 0x2022, 0x00, 0x0F, 4, 2, 1, 0, 0xFF, false, false⟩,
  ⟨0x2023, 0x2023, 0x00, 0x0F, 4, 2, 0, 0, 0x0, false, false⟩,
  ⟨0x2030, 0x2030, 0x00, 0x3F, 7, 4, 0, 2, 0x0, false, false⟩,
  ⟨0x2031, 0x2031, 0x00, 0x0F, 7, 4, 0, 2, 0x0, false, false⟩,
  ⟨0x2032, 0x2032, 0x00, 0x0B, 7, 4, 0, 2, 0x0, false, false⟩,
  ⟨0x2033, 0x2033, 0x00, 0x00, 7, 4, 0, 2, 0x0, false, false⟩,
  ⟨0x2036, 0x2036, 0x00, 0x00, 5, 4, 3, 0, 0x0, false, false⟩,
  ⟨0x2040, 0x2040, 0x00, 0x00, 4, 2, 1, 0, 0x2, false, false⟩,
  ⟨0x2041, 0x2041, 0x00, 0x00, 5, 4, 3, 0, 0x0, false, false⟩,
  ⟨0x2400, 0x2400, 0x00, 0x00, 3, 1, 2, 0, 0x0, false, false⟩,
  ⟨0x2401, 0x2401, 0x00, 0x00, 5, 4, 1, 0, 0x7FF, false, false⟩,
  ⟨0x2402, 0x2402, 0x00, 0x00, 6, 8, 1, 0, 0x0, false, false⟩,
  ⟨0x2403, 0x2403, 0x00, 0x00, 3, 1, 1, 0, 0x0, false, false⟩]

def objRows2 : List ObjRow := [
  ⟨0x2404, 0x2404, 0x00, 0x00, 3, 1, 0, 2, 0x0, false, false⟩,
  ⟨0x2405, 0x2405, 0x00, 0x00, 3, 1, 0, 2, 0x0, false, false⟩,
  ⟨0x2406, 0x2406, 0x00, 0x00, 5, 4, 0, 0, 0x0, false, false⟩,
  ⟨0x2407, 0x2407, 0x00, 0x00, 5, 4, 0, 0, 0x0, false, false⟩,
  ⟨0x2408, 0x2408, 0x00, 0x00, 5, 4, 0, 0, 0x0, false, false⟩,
  ⟨0x2409, 0x2409, 0x00, 0x00, 5, 4, 0, 0, 0x0, false, false⟩,
  ⟨0x240A, 0x240A, 0x00, 0x00, 4, 2, 0, 0, 0x0, false, false⟩,
  ⟨0x240B, 0x240B, 0x00, 0x00, 5, 4, 0, 0, 0x0, false, false⟩,
  ⟨0x3000, 0x3000, 0x00, 0x07, 11, 32, 1, 0, 0x0, false, false⟩,
  ⟨0x3001, 0x3001, 0x00, 0x07, 3, 1, 2, 0, 0x0, false, false⟩,
  ⟨0x3002, 0x3002, 0x00, 0x07, 3, 1, 0, 0, 0x0, false, false⟩,
  ⟨0x3003, 0x3003, 0x00, 0x07, 6, 8, 0, 0, 0x0, false, false⟩,
  ⟨0x3004, 0x3004, 0x00, 0x07, 6, 8, 0, 0, 0x0, false, false⟩,
  ⟨0x3005, 0x3005, 0x00, 0x00, 5, 4, 0, 0, 0xFFFFFF, false, false⟩,
  ⟨0x3006, 0x3006, 0x00, 0x00, 3, 1, 0, 2, 0x8, false, false⟩,
  ⟨0x3020, 0x3020, 0x00, 0x00, 3, 1, 0, 1, 0x0, false, false⟩,
  ⟨0x3021, 0x3021, 0x00, 0x00, 5, 4, 0, 1, 0x0, false, false⟩,
  ⟨0x3022, 0x3022, 0x00, 0x00, 6, 8, 0, 1, 0x0, false, false⟩,
  ⟨0x3023, 0x3023, 0x00, 0x00, 4, 2, 0, 1, 0x0, false, false⟩,
  ⟨0x3800, 0x3800, 0x00, 0x03, 3, 1, 1, 0, 0x0, false, false⟩,
  ⟨0x3801, 0x3801, 0x00, 0x07, 3, 1, 0, 2, 0x0, false, false⟩,
  ⟨0x3802, 0x3802, 0x00, 0x07, 10, 6, 0, 2, 0x0, false, false⟩,
  ⟨0x3803, 0x3803, 0x00, 0x07, 5, 4, 1, 0, 0x0, false, false⟩,
  ⟨0x3804, 0x3804, 0x00, 0x07, 10, 16, 1, 0, 0x0, false, false⟩,
  ⟨0x3805, 0x3805, 0x00, 0x07, 3, 1, 1, 0, 0x0, false, false⟩,
  ⟨0x3807, 0x3807, 0x00, 0x00, 1, 1, 1, 0, 0x1, false, false⟩,
  ⟨0x3808, 0x3808, 0x00, 0x00, 3, 1, 1, 0, 0x30, false, false⟩,
  ⟨0x3809, 0x3809, 0x00, 0x00, 4, 2, 1, 0, 0xA, false, false⟩,
  ⟨0x380A, 0x380A, 0x00, 0x00, 4, 2, 0, 2, 0xFBE, false, false⟩,
  ⟨0x380B, 0x380B, 0x00, 0x07, 6, 8, 0, 0, 0x0, false, false⟩,
  ⟨0x380C, 0x380C, 0x00, 0x07, 6, 8, 0, 0, 0x0, false, false⟩,
  ⟨0x380D, 0x380D, 0x00, 0x07, 5, 4, 3, 0, 0x0, false, false⟩,
  ⟨0x380E, 0x380E, 0x00, 0x07, 5, 4, 3, 0, 0x0, false, false⟩,
  ⟨0x380F, 0x380F, 0x00, 0x07, 5, 4, 3, 0, 0x0, false, false⟩,
  ⟨0x3810, 0x3810, 0x00, 0x00, 4, 2, 0, 2, 0x1000, false, false⟩,
  ⟨0x3900, 0x390F, 0x00, 0xFF, 11, 64, 1, 1, 0x0, false, false⟩,
  ⟨0x4000, 0x4000, 0x00, 0x00, 5, 4, 0, 2, 0x10C388D, false, false⟩,
  ⟨0x4001, 0x4001, 0x00, 0x00, 5, 4, 0, 2, 0x8000, false, false⟩,
  ⟨0x4002, 0x4002, 0x00, 0x00, 5, 4, 0, 2, 0x10000, false, false⟩,
  ⟨0x4003, 0x4003, 0x00, 0x00, 5, 4, 1, 0, 0x0, false, false⟩]

def objRows3 : List ObjRow := [
  ⟨0x4004, 0x4004, 0x00, 0x00, 5, 4, 0, 2, 0x0, false, false⟩,
  ⟨0x4005, 0x4005, 0x00, 0x00, 5, 4, 0, 0, 0x0, false, false⟩,
  ⟨0x4006, 0x4006, 0x00, 0x00, 6, 8, 0, 0, 0x0, false, false⟩,
  ⟨0x4007, 0x4007, 0x00, 0x00, 5, 4, 3, 0, 0x0, false, false⟩,
  ⟨0x4008, 0x4008, 0x00, 0x00, 4, 2, 1, 0, 0x18, false, false⟩,
  ⟨0x4010, 0x4010, 0x00, 0x07, 5, 4, 1, 0, 0x0, false, false⟩,
  ⟨0x4011, 0x4011, 0x00, 0x07, 5, 4, 1, 0, 0x8000, false, false⟩,
  ⟨0x4020, 0x4020, 0x00, 0x00, 5, 4, 0, 1, 0x0, true, false⟩,
  ⟨0x4021, 0x4021, 0x00, 0x00, 5, 4, 0, 1, 0x0, true, false⟩,
  ⟨0x4022, 0x4022, 0x00, 0x00, 5, 4, 0, 1, 0x0, true, false⟩,
  ⟨0x4023, 0x4023, 0x00, 0x00, 5, 4, 0, 1, 0x0, true, false⟩,
  ⟨0x4024, 0x4024, 0x00, 0x00, 5, 4, 4, 1, 0x8000, true, false⟩,
  ⟨0x4025, 0x4025, 0x00, 0x00, 4, 2, 4, 1, 0x40, true, false⟩,
  ⟨0x4026, 0x4026, 0x00, 0x00, 6, 8, 0, 1, 0x0, true, false⟩,
  ⟨0x4027, 0x4027, 0x00, 0x00, 6, 8, 0, 1, 0x0, true, false⟩,
  ⟨0x4028, 0x4028, 0x00, 0x00, 6, 8, 0, 1, 0x0, true, false⟩,
  ⟨0x4029, 0x4029, 0x00, 0x00, 6, 8, 0, 1, 0x0, true, false⟩,
  ⟨0x402A, 0x402A, 0x00, 0x00, 6, 8, 0, 1, 0x0, true, false⟩,
  ⟨0x402B, 0x402B, 0x00, 0x00, 6, 8, 0, 1, 0x0, true, false⟩,
  ⟨0x402C, 0x402C, 0x00, 0x00, 5, 4, 3, 1, 0x0, true, false⟩,
  ⟨0x402D, 0x402D, 0x00, 0x00, 6, 8, 0, 1, 0x0, true, false⟩,
  ⟨0x4030, 0x4030, 0x00, 0x00, 4, 2, 0, 1, 0x0, true, false⟩,
  ⟨0x4031, 0x4031, 0x00, 0x00, 1, 1, 4, 1, 0x0, true, false⟩,
  ⟨0x4032, 0x4032, 0x00, 0x00, 6, 8, 0, 2, 0x47400000, false, false⟩,
  ⟨0x4033, 0x4033, 0x00, 0x00, 6, 8, 0, 1, 0x0, true, false⟩,
  ⟨0x4100, 0x410F, 0x00, 0xFF, 11, 64, 1, 1, 0x0, true, false⟩,
  ⟨0x4400, 0x4400, 0x00, 0x00, 3, 1, 0, 2, 0x0, false, false⟩,
  ⟨0x4401, 0x4401, 0x00, 0x00, 3, 1, 1, 0, 0x0, false, false⟩,
  ⟨0x4402, 0x4402, 0x00, 0x00, 3, 1, 1, 0, 0x0, false, false⟩,
  ⟨0x4403, 0x4403, 0x00, 0x00, 5, 4, 0, 2, 0x0, false, false⟩,
  ⟨0x4404, 0x4404, 0x00, 0x00, 6, 8, 0, 2, 0x0, false, false⟩,
  ⟨0x4405, 0x4405, 0x00, 0x00, 6, 8, 0, 2, 0x0, false, false⟩,
  ⟨0x4406, 0x4406, 0x00, 0x00, 5, 4, 0, 2, 0x1000, false, false⟩,
  ⟨0x4410, 0x4410, 0x00, 0x07, 6, 8, 1, 0, 0x0, false, false⟩,
  ⟨0x4420, 0x4420, 0x00, 0x00, 6, 8, 0, 1, 0x0, true, false⟩,
  ⟨0x4421, 0x4421, 0x00, 0x00, 6, 8, 0, 1, 0x0, true, false⟩,
  ⟨0x4430, 0x4430, 0x00, 0x0F, 6, 8, 0, 0, 0x0, false, false⟩,
  ⟨0x4440, 0x4440, 0x00, 0x00, 5, 4, 3, 0, 0x0, false, false⟩,
  ⟨0x4441, 0x4441, 0x00, 0x00, 5, 4, 3, 0, 0x0, false, false⟩,
  ⟨0x4800, 0x4800, 0x00, 0x00, 6, 8, 0, 2, 0x0, false, false⟩]

def objRows4 : List ObjRow := [
  ⟨0x4801, 0x4801, 0x00, 0x00, 6, 8, 0, 2, 0x0, false, false⟩,
  ⟨0x4802, 0x4802, 0x00, 0x00, 10, 16, 0, 2, 0x0, false, false⟩,
  ⟨0x4803, 0x4803, 0x00, 0x00, 3, 1, 0, 2, 0x0, false, false⟩,
  ⟨0x4804, 0x4804, 0x00, 0x00, 1, 1, 1, 0, 0x1, false, false⟩,
  ⟨0x4805, 0x4805, 0x00, 0x00, 3, 1, 2, 0, 0x0, false, false⟩,
  ⟨0x4806, 0x4806, 0x00, 0x00, 1, 1, 2, 0, 0x0, false, false⟩,
  ⟨0x4807, 0x4807, 0x00, 0x00, 3, 1, 0, 2, 0x0, false, false⟩,
  ⟨0x4808, 0x4808, 0x00, 0x00, 5, 4, 0, 2, 0x100000, false, false⟩,
  ⟨0x4809, 0x4809, 0x00, 0x00, 5, 4, 0, 0, 0x0, false, false⟩,
  ⟨0x480A, 0x480A, 0x00, 0x00, 5, 4, 0, 0, 0x0, false, false⟩,
  ⟨0x480B, 0x480B, 0x00, 0x00, 5, 4, 0, 0, 0x0, false, false⟩,
  ⟨0x480C, 0x480C, 0x00, 0x00, 6, 8, 0, 0, 0x0, false, false⟩,
  ⟨0x480D, 0x480D, 0x00, 0x00, 6, 8, 0, 0, 0x0, false, false⟩,
  ⟨0x480E, 0x480E, 0x00, 0x00, 5, 4, 3, 0, 0x0, false, false⟩,
  ⟨0x480F, 0x480F, 0x00, 0x00, 6, 8, 0, 0, 0x0, false, false⟩,
  ⟨0x4810, 0x4810, 0x00, 0x00, 6, 8, 0, 0, 0x0, false, false⟩,
  ⟨0x4820, 0x4820, 0x00, 0x07, 6, 8, 1, 0, 0x0, false, false⟩,
  ⟨0x4821, 0x4821, 0x00, 0x07, 6, 8, 1, 0, 0x0, false, false⟩,
  ⟨0x4822, 0x4822, 0x00, 0x07, 3, 1, 1, 0, 0x0, false, false⟩,
  ⟨0x4823, 0x4823, 0x00, 0x00, 11, 16, 2, 0, 0x0, false, false⟩,
  ⟨0x4830, 0x4830, 0x00, 0x00, 6, 8, 0, 1, 0x0, true, false⟩,
  ⟨0x4831, 0x4831, 0x00, 0x00, 3, 1, 0, 1, 0x0, true, false⟩,
  ⟨0x5000, 0x5000, 0x00, 0x2F, 3, 1, 0, 2, 0x1, false, false⟩,
  ⟨0x5001, 0x5001, 0x00, 0x2F, 5, 4, 0, 2, 0x0, false, false⟩,
  ⟨0x5002, 0x5002, 0x00, 0x2F, 1, 1, 1, 0, 0x1, false, false⟩,
  ⟨0x5003, 0x5003, 0x00, 0x2F, 6, 8, 0, 0, 0x0, false, false⟩,
  ⟨0x5004, 0x5004, 0x00, 0x2F, 5, 4, 3, 0, 0x0, false, false⟩,
  ⟨0x5005, 0x5005, 0x00, 0x2F, 5, 4, 3, 0, 0x0, false, false⟩,
  ⟨0x5006, 0x5006, 0x00, 0x2F, 5, 4, 3, 0, 0x0, false, false⟩,
  ⟨0x5007, 0x5007, 0x00, 0x2F, 6, 8, 0, 0, 0x0, false, false⟩,
  ⟨0x5008, 0x5008, 0x00, 0x2F, 6, 8, 0, 0, 0x0, false, false⟩,
  ⟨0x5009, 0x5009, 0x00, 0x00, 3, 1, 0, 2, 0x0, false, false⟩,
  ⟨0x500A, 0x500A, 0x00, 0x00, 3, 1, 0, 2, 0x8, false, false⟩,
  ⟨0x500B, 0x500B, 0x00, 0x00, 4, 2, 0, 2, 0xA, false, false⟩,
  ⟨0x500C, 0x500C, 0x00, 0x00, 5, 4, 0, 2, 0x0, false, false⟩,
  ⟨0x500D, 0x500D, 0x00, 0x00, 3, 1, 1, 0, 0x0, false, false⟩,
  ⟨0x500E, 0x500E, 0x00, 0x00, 5, 4, 0, 2, 0x10000, false, false⟩,
  ⟨0x5400, 0x5400, 0x00, 0x00, 5, 4, 1, 0, 0x0, false, false⟩,
  ⟨0x5401, 0x5401, 0x00, 0x00, 5, 4, 3, 0, 0x0, false, false⟩,
  ⟨0x5402, 0x5402, 0x00, 0x00, 1, 1, 1, 0, 0x1, false, false⟩]

def objRows5 : List ObjRow := [
  ⟨0x5403, 0x5403, 0x00, 0x00, 5, 4, 0, 2, 0x0, false, false⟩,
  ⟨0x5404, 0x5404, 0x00, 0x00, 5, 4, 3, 0, 0x0, false, false⟩,
  ⟨0x5405, 0x5405, 0x00, 0x00, 5, 4, 3, 0, 0x0, false, false⟩,
  ⟨0x5406, 0x5406, 0x00, 0x00, 5, 4, 3, 0, 0x0, false, false⟩,
  ⟨0x5407, 0x5407, 0x00, 0x00, 5, 4, 0, 2, 0x0, false, false⟩,
  ⟨0x5410, 0x5410, 0x00, 0x0F, 6, 8, 0, 2, 0x0, false, false⟩,
  ⟨0x5411, 0x5411, 0x00, 0xFF, 6, 8, 0, 2, 0x0, false, false⟩,
  ⟨0x5800, 0x5800, 0x00, 0x00, 3, 1, 0, 2, 0x10, false, false⟩,
  ⟨0x5801, 0x5801, 0x00, 0x00, 3, 1, 0, 2, 0x4, false, false⟩,
  ⟨0x5802, 0x5802, 0x00, 0x00, 5, 4, 0, 2, 0x20000, false, false⟩,
  ⟨0x5803, 0x5803, 0x00, 0x07, 6, 8, 1, 0, 0x0, false, false⟩,
  ⟨0x5810, 0x5810, 0x00, 0x0F, 11, 64, 1, 1, 0x0, true, true⟩,
  ⟨0x5811, 0x5811, 0x00, 0x0F, 3, 1, 0, 1, 0x0, true, false⟩,
  ⟨0x5812, 0x5812, 0x00, 0x0F, 3, 1, 0, 1, 0x0, true, false⟩,
  ⟨0x5813, 0x5813, 0x00, 0x0F, 3, 1, 2, 1, 0x0, true, false⟩,
  ⟨0x5814, 0x5814, 0x00, 0x0F, 10, 64, 0, 1, 0x0, true, false⟩,
  ⟨0x5815, 0x5815, 0x00, 0x0F, 5, 4, 0, 1, 0xFFFFFFFF, true, false⟩,
  ⟨0x5816, 0x5816, 0x00, 0x0F, 5, 4, 0, 1, 0x0, true, false⟩,
  ⟨0x5820, 0x5820, 0x00, 0x00, 5, 4, 0, 1, 0x0, true, false⟩,
  ⟨0x5821, 0x5821, 0x00, 0x00, 6, 8, 0, 1, 0x0, true, false⟩,
  ⟨0x5822, 0x5822, 0x00, 0x00, 5, 4, 0, 1, 0x0, true, false⟩,
  ⟨0x5830, 0x5830, 0x00, 0x00, 11, 32, 4, 1, 0x0, true, true⟩,
  ⟨0x5831, 0x5831, 0x00, 0x00, 10, 64, 0, 1, 0x0, true, false⟩,
  ⟨0x5832, 0x5832, 0x00, 0x00, 6, 8, 2, 1, 0x0, true, false⟩,
  ⟨0x5840, 0x5840, 0x00, 0x00, 5, 4, 3, 1, 0x0, true, false⟩,
  ⟨0x5841, 0x5841, 0x00, 0x00, 5, 4, 3, 1, 0x0, true, false⟩,
  ⟨0x5842, 0x5842, 0x00, 0x00, 5, 4, 3, 1, 0x0, true, false⟩,
  ⟨0x5843, 0x5843, 0x00, 0x00, 5, 4, 3, 1, 0x0, true, false⟩,
  ⟨0x5844, 0x5844, 0x00, 0x00, 6, 8, 0, 1, 0x0, true, false⟩,
  ⟨0x5845, 0x5845, 0x00, 0x00, 6, 8, 0, 1, 0x0, true, false⟩,
  ⟨0x5846, 0x5846, 0x00, 0x00, 5, 4, 3, 1, 0x0, true, false⟩,
  ⟨0x5847, 0x5847, 0x00, 0x00, 6, 8, 0, 1, 0x0, true, false⟩,
  ⟨0x5C00, 0x5C00, 0x00, 0x00, 1, 1, 1, 0, 0x0, false, false⟩,
  ⟨0x5C01, 0x5C01, 0x00, 0x00, 3, 1, 0, 2, 0x0, false, false⟩,
  ⟨0x5C02, 0x5C02, 0x00, 0x00, 3, 1, 0, 2, 0xFF, false, false⟩,
  ⟨0x5C03, 0x5C03, 0x00, 0x00, 3, 1, 0, 2, 0xFF, false, false⟩,
  ⟨0x5C04, 0x5C04, 0x00, 0x00, 7, 4, 0, 0, 0x0, false, false⟩,
  ⟨0x5C05, 0x5C05, 0x00, 0x00, 5, 4, 0, 0, 0x0, false, false⟩,
  ⟨0x5C06, 0x5C06, 0x00, 0x00, 4, 2, 0, 2, 0x3E8, false, false⟩,
  ⟨0x5C07, 0x5C07, 0x00, 0x00, 5, 4, 0, 2, 0xFFFFFFFF, false, false⟩]

def objRows6 : List ObjRow := [
  ⟨0x5C08, 0x5C08, 0x00, 0x00, 1, 1, 1, 0, 0x0, false, false⟩,
  ⟨0x5C09, 0x5C09, 0x00, 0x00, 3, 1, 1, 0, 0x0, false, false⟩,
  ⟨0x5C0A, 0x5C0A, 0x00, 0x00, 3, 1, 1, 0, 0x0, false, false⟩,
  ⟨0x5C0B, 0x5C0B, 0x00, 0x00, 3, 1, 1, 0, 0x1, false, false⟩,
  ⟨0x5C0C, 0x5C0C, 0x00, 0x00, 3, 1, 0, 2, 0x0, false, false⟩,
  ⟨0x5C0D, 0x5C0D, 0x00, 0x00, 7, 4, 0, 0, 0x0, false, false⟩,
  ⟨0x5C0E, 0x5C0E, 0x00, 0x00, 10, 8, 0, 2, 0x0, false, false⟩,
  ⟨0x5C0F, 0x5C0F, 0x00, 0x00, 6, 8, 0, 2, 0x0, false, false⟩,
  ⟨0x5C10, 0x5C10, 0x00, 0x00, 2, 1, 1, 0, 0x0, false, false⟩,
  ⟨0x5C11, 0x5C11, 0x00, 0x00, 5, 4, 0, 2, 0xFFFFFFFF, false, false⟩,
  ⟨0x6000, 0x6000, 0x00, 0x00, 4, 2, 0, 2, 0x1, false, false⟩,
  ⟨0x6001, 0x6001, 0x00, 0x00, 6, 8, 4, 1, 0x0, true, true⟩,
  ⟨0x6002, 0x6002, 0x00, 0x00, 1, 1, 4, 1, 0x1, true, true⟩,
  ⟨0x6003, 0x6003, 0x00, 0x00, 5, 4, 0, 2, 0x3FFE, false, false⟩,
  ⟨0x6004, 0x6004, 0x00, 0x00, 3, 1, 0, 2, 0x32, false, false⟩,
  ⟨0x6005, 0x6005, 0x00, 0x00, 5, 4, 0, 2, 0x204020, false, false⟩,
  ⟨0x6040, 0x6040, 0x00, 0x00, 5, 4, 4, 1, 0x2000, true, false⟩,
  ⟨0x6041, 0x6041, 0x00, 0x00, 5, 4, 0, 1, 0x0, true, false⟩,
  ⟨0x6042, 0x6042, 0x00, 0x00, 5, 4, 3, 1, 0x0, true, false⟩,
  ⟨0x6043, 0x6043, 0x00, 0x00, 6, 8, 0, 1, 0x0, true, false⟩,
  ⟨0x6044, 0x6044, 0x00, 0x00, 6, 8, 0, 1, 0x0, true, false⟩,
  ⟨0x6045, 0x6045, 0x00, 0x00, 3, 1, 0, 2, 0x8, false, false⟩,
  ⟨0x6046, 0x6046, 0x00, 0x00, 3, 1, 0, 2, 0x2, false, false⟩,
  ⟨0x6047, 0x6047, 0x00, 0x00, 4, 2, 0, 2, 0x4040, false, false⟩,
  ⟨0x6400, 0x6400, 0x00, 0x00, 3, 1, 4, 1, 0x1, true, false⟩,
  ⟨0x6401, 0x6401, 0x00, 0x00, 6, 8, 4, 1, 0x0, true, false⟩,
  ⟨0x6402, 0x6402, 0x00, 0x00, 5, 4, 4, 1, 0x0, true, false⟩,
  ⟨0x6403, 0x6403, 0x00, 0x00, 5, 4, 0, 1, 0x0, true, false⟩,
  ⟨0x6404, 0x6404, 0x00, 0x00, 5, 4, 1, 1, 0x0, true, false⟩,
  ⟨0x6405, 0x6405, 0x00, 0x00, 5, 4, 3, 1, 0x0, true, false⟩,
  ⟨0x6406, 0x6406, 0x00, 0x00, 6, 8, 0, 1, 0x0, true, false⟩,
  ⟨0x6407, 0x6407, 0x00, 0x00, 6, 8, 0, 1, 0x0, true, false⟩,
  ⟨0x6800, 0x6800, 0x00, 0x00, 1, 1, 4, 1, 0x1, true, false⟩,
  ⟨0x6801, 0x6801, 0x00, 0x00, 3, 1, 4, 1, 0xFF, true, false⟩,
  ⟨0x6802, 0x6802, 0x00, 0x03, 4, 2, 0, 1, 0x0, true, false⟩,
  ⟨0x6803, 0x6803, 0x00, 0x03, 5, 4, 0, 1, 0x0, true, false⟩,
  ⟨0x6804, 0x6804, 0x00, 0x00, 6, 8, 0, 1, 0x0, true, false⟩,
  ⟨0x6805, 0x6805, 0x00, 0x00, 6, 8, 0, 1, 0x0, true, false⟩,
  ⟨0x6806, 0x6806, 0x00, 0x00, 6, 8, 0, 1, 0x0, true, false⟩,
  ⟨0x6807, 0x6807, 0x00, 0x00, 6, 8, 0, 1, 0x0, true, false⟩]

def objRows7 : List ObjRow := [
  ⟨0x6808, 0x6808, 0x00, 0x00, 6, 8, 0, 1, 0x0, true, false⟩,
  ⟨0x6809, 0x6809, 0x00, 0x00, 5, 4, 3, 1, 0x0, true, false⟩,
  ⟨0x680A, 0x680A, 0x00, 0x00, 5, 4, 3, 1, 0x0, true, false⟩,
  ⟨0x680B, 0x680B, 0x00, 0x00, 4, 2, 0, 2, 0x1000, true, false⟩,
  ⟨0x680C, 0x680C, 0x00, 0x00, 3, 1, 0, 2, 0xB, true, false⟩,
  ⟨0x680D, 0x680D, 0x00, 0x00, 3, 1, 0, 2, 0x4, true, false⟩,
  ⟨0x7000, 0x7000, 0x00, 0x00, 3, 1, 0, 2, 0x10, false, false⟩,
  ⟨0x7001, 0x7001, 0x00, 0x00, 3, 1, 0, 2, 0x8, false, false⟩,
  ⟨0x7002, 0x7002, 0x00, 0x00, 3, 1, 0, 2, 0x10, false, false⟩,
  ⟨0x7003, 0x7003, 0x00, 0x00, 3, 1, 0, 2, 0x8, false, false⟩,
  ⟨0x7004, 0x7004, 0x00, 0x00, 4, 2, 4, 1, 0x80, true, true⟩,
  ⟨0x7005, 0x7005, 0x00, 0x00, 5, 4, 4, 1, 0x10000, true, true⟩,
  ⟨0x7006, 0x7006, 0x00, 0x00, 4, 2, 4, 1, 0x4, true, true⟩,
  ⟨0x7007, 0x7007, 0x00, 0x00, 6, 8, 4, 1, 0x0, true, false⟩,
  ⟨0x7008, 0x7008, 0x00, 0x00, 6, 8, 4, 1, 0x0, true, true⟩,
  ⟨0x7009, 0x7009, 0x00, 0x00, 3, 1, 4, 1, 0x2, true, false⟩,
  ⟨0x700A, 0x700A, 0x00, 0x00, 6, 8, 4, 1, 0x0, true, false⟩,
  ⟨0x700B, 0x700B, 0x00, 0x00, 6, 8, 4, 1, 0x0, true, false⟩,
  ⟨0x700C, 0x700C, 0x00, 0x00, 3, 1, 0, 1, 0x0, true, false⟩,
  ⟨0x700D, 0x700D, 0x00, 0x00, 3, 1, 4, 1, 0x1, true, false⟩,
  ⟨0x700E, 0x700E, 0x00, 0x00, 5, 4, 3, 1, 0x0, true, false⟩,
  ⟨0x700F, 0x700F, 0x00, 0x00, 6, 8, 0, 1, 0x0, true, false⟩,
  ⟨0x7010, 0x7010, 0x00, 0x00, 6, 8, 0, 1, 0x0, true, false⟩,
  ⟨0x7011, 0x7011, 0x00, 0x00, 6, 8, 0, 1, 0x0, true, false⟩,
  ⟨0x7012, 0x7012, 0x00, 0x00, 6, 8, 0, 1, 0x0, true, false⟩,
  ⟨0x7013, 0x7013, 0x00, 0x00, 6, 8, 0, 1, 0x0, true, false⟩,
  ⟨0x7014, 0x7014, 0x00, 0x00, 5, 4, 0, 1, 0x0, true, false⟩,
  ⟨0x7015, 0x7015, 0x00, 0x00, 6, 8, 0, 2, 0x22100040004000, false, false⟩,
  ⟨0x7400, 0x7400, 0x00, 0x00, 3, 1, 0, 2, 0x2, true, false⟩,
  ⟨0x7401, 0x7401, 0x00, 0x01, 4, 2, 0, 1, 0x0, true, false⟩,
  ⟨0x7402, 0x7402, 0x00, 0x01, 5, 4, 0, 1, 0x0, true, false⟩,
  ⟨0x7403, 0x7403, 0x00, 0x01, 5, 4, 0, 1, 0x0, true, false⟩,
  ⟨0x7404, 0x7404, 0x00, 0x01, 6, 8, 0, 1, 0x0, true, false⟩,
  ⟨0x7405, 0x7405, 0x00, 0x00, 5, 4, 4, 1, 0x0, true, true⟩,
  ⟨0x7406, 0x7406, 0x00, 0x00, 5, 4, 3, 1, 0x0, true, false⟩,
  ⟨0x7407, 0x7407, 0x00, 0x00, 6, 8, 0, 1, 0x0, true, false⟩,
  ⟨0x7408, 0x7408, 0x00, 0x00, 5, 4, 3, 1, 0x0, true, false⟩,
  ⟨0x7409, 0x7409, 0x00, 0x00, 3, 1, 0, 2, 0x80, true, false⟩,
  ⟨0x740A, 0x740A, 0x00, 0x00, 5, 4, 0, 2, 0x100000, true, false⟩,
  ⟨0x740B, 0x740B, 0x00, 0x00, 5, 4, 0, 2, 0x800000, true, false⟩]

def objRows8 : List ObjRow := [
  ⟨0x8000, 0x8017, 0x00, 0x0F, 6, 8, 0, 1, 0x0, false, false⟩,
  ⟨0x8020, 0x8037, 0x00, 0x7F, 6, 8, 1, 1, 0x0, false, false⟩,
  ⟨0x8040, 0x8057, 0x00, 0x7F, 5, 4, 1, 1, 0x0, false, false⟩,
  ⟨0x8060, 0x8077, 0x00, 0x0F, 3, 1, 3, 1, 0x0, false, false⟩,
  ⟨0x8100, 0x8100, 0x00, 0x00, 6, 8, 4, 1, 0x0, true, false⟩,
  ⟨0x8101, 0x8101, 0x00, 0x00, 5, 4, 4, 1, 0x0, true, false⟩,
  ⟨0x8102, 0x8102, 0x00, 0x00, 5, 4, 0, 1, 0x0, true, false⟩,
  ⟨0x8103, 0x8103, 0x00, 0x00, 5, 4, 1, 1, 0x0, true, false⟩,
  ⟨0x8104, 0x8104, 0x00, 0x00, 5, 4, 3, 1, 0x0, true, false⟩,
  ⟨0x8105, 0x8105, 0x00, 0x00, 1, 1, 1, 1, 0x0, true, false⟩,
  ⟨0x8106, 0x8106, 0x00, 0x00, 6, 8, 0, 1, 0x0, true, false⟩,
  ⟨0x8110, 0x8110, 0x00, 0x00, 3, 1, 0, 2, 0x8, false, false⟩,
  ⟨0x8111, 0x8111, 0x00, 0x00, 3, 1, 0, 2, 0x30, false, false⟩,
  ⟨0x8112, 0x8112, 0x00, 0x00, 3, 1, 0, 2, 0x8, false, false⟩,
  ⟨0x9000, 0x9000, 0x00, 0x00, 1, 1, 1, 1, 0x1, true, false⟩,
  ⟨0x9001, 0x9001, 0x00, 0x00, 3, 1, 0, 1, 0x0, true, false⟩,
  ⟨0x9002, 0x9002, 0x00, 0x00, 4, 2, 1, 1, 0xFFFF, true, false⟩,
  ⟨0x9003, 0x9003, 0x00, 0x07, 5, 4, 1, 0, 0x0, false, false⟩,
  ⟨0x9004, 0x9004, 0x00, 0x00, 6, 8, 0, 1, 0x0, true, false⟩,
  ⟨0x9005, 0x9005, 0x00, 0x00, 6, 8, 0, 1, 0x0, true, false⟩,
  ⟨0x9006, 0x9006, 0x00, 0x00, 4, 2, 1, 1, 0x64, true, false⟩,
  ⟨0x9007, 0x9007, 0x00, 0x00, 3, 1, 1, 1, 0x3, true, false⟩,
  ⟨0x9008, 0x9008, 0x00, 0x00, 11, 16, 1, 1, 0x0, true, false⟩,
  ⟨0x9009, 0x9009, 0x00, 0x00, 11, 8, 1, 1, 0x0, true, false⟩,
  ⟨0x900A, 0x900A, 0x00, 0x00, 5, 4, 0, 1, 0x0, true, false⟩,
  ⟨0x900B, 0x900B, 0x00, 0x00, 5, 4, 3, 1, 0x0, true, false⟩,
  ⟨0x900C, 0x900C, 0x00, 0x00, 5, 4, 0, 1, 0x0, true, false⟩,
  ⟨0x900D, 0x900D, 0x00, 0x00, 5, 4, 3, 1, 0x0, true, false⟩,
  ⟨0x900E, 0x900E, 0x00, 0x00, 5, 4, 0, 1, 0x0, true, false⟩,
  ⟨0x9010, 0x9010, 0x00, 0x00, 4, 2, 1, 0, 0x8, false, false⟩,
  ⟨0x9011, 0x9011, 0x00, 0x00, 5, 4, 0, 2, 0x0, false, false⟩,
  ⟨0x9012, 0x9012, 0x00, 0x00, 1, 1, 0, 2, 0x0, false, false⟩,
  ⟨0x9013, 0x9013, 0x00, 0x00, 1, 1, 2, 0, 0x0, false, false⟩,
  ⟨0x9400, 0x9400, 0x00, 0x00, 5, 4, 0, 0, 0x0, false, false⟩,
  ⟨0x9401, 0x9401, 0x00, 0x00, 5, 4, 0, 0, 0x0, false, false⟩,
  ⟨0x9402, 0x9402, 0x00, 0x00, 1, 1, 2, 0, 0x0, false, false⟩,
  ⟨0x9410, 0x9413, 0x00, 0xFF, 11, 32, 0, 0, 0x0, false, false⟩,
  ⟨0xA000, 0xA000, 0x00, 0x00, 3, 1, 0, 2, 0x10, true, false⟩,
  ⟨0xA001, 0xA001, 0x00, 0x00, 4, 2, 0, 2, 0x100, true, false⟩,
  ⟨0xA002, 0xA002, 0x00, 0x3F, 5, 4, 0, 1, 0x0, true, false⟩]

def objRows9 : List ObjRow := [
  ⟨0xA003, 0xA003, 0x00, 0x0F, 6, 8, 1, 1, 0x0, true, false⟩,
  ⟨0xA004, 0xA004, 0x00, 0x00, 6, 8, 0, 1, 0x0, true, false⟩,
  ⟨0xA005, 0xA005, 0x00, 0x00, 5, 4, 0, 1, 0x0, true, false⟩,
  ⟨0xA006, 0xA006, 0x00, 0x00, 5, 4, 3, 1, 0x0, true, false⟩,
  ⟨0xA007, 0xA007, 0x00, 0x00, 6, 8, 0, 1, 0x0, true, false⟩,
  ⟨0xA008, 0xA008, 0x00, 0x00, 6, 8, 0, 1, 0x0, true, false⟩,
  ⟨0xA009, 0xA009, 0x00, 0x00, 5, 4, 3, 1, 0x0, true, false⟩,
  ⟨0xA00A, 0xA00A, 0x00, 0x00, 3, 1, 0, 1, 0x0, true, false⟩,
  ⟨0xA00B, 0xA00B, 0x00, 0x00, 5, 4, 0, 2, 0x1000000, true, false⟩,
  ⟨0xA00C, 0xA00C, 0x00, 0x00, 5, 4, 3, 1, 0x0, true, false⟩]

/-- Every object of the dictionary, in ascending index. -/
def objTable : List ObjRow :=
  objRows0 ++ objRows1 ++ objRows2 ++ objRows3 ++ objRows4 ++ objRows5 ++ objRows6 ++ objRows7 ++ objRows8 ++ objRows9

/-- The row of an object, where the object exists (R388). -/
def objRow (index sub : Nat) : Option ObjRow :=
  objTable.find? fun r =>
    Nat.ble r.lo index && Nat.ble index r.hi && Nat.ble r.subLo sub && Nat.ble sub r.subHi

/-- The default of an object; the physical address and the PLCA identifier come from the board's straps (R304, R398,
R405). -/
def objDefault (index sub : Nat) : Nat :=
  match objRow index sub with
  | some r =>
    if index == 0x5803 && sub == 0 then 0x0002000000000000
    else if index == 0x5400 then Config.addressStraps % 2 ^ 18
    else if index == 0x1081 then Config.plcaStraps % 8
    else r.dflt
  | none => 0

end Sys2Proof.Machine
end

