-- ==== Sys2Proof/Machine/State.lean ====
section
/-! DEFINITION. The state of the device: everything the spec gives the block, as plain data, the
queue of commands that wait, and the machine right after reset. -/

namespace Sys2Proof.Machine

/-! ### Stores -/

/-- Bytes at addresses, strictly rising, no entry equal to what an unlisted address reads as. -/
abbrev Mem := List Host.Cell

/-- Object values by key `256 × index + subindex` (R388), strictly rising. A value is the number its
little-endian bytes spell (R9). An object without an entry reads as its default. -/
abbrev Objs := List (Nat × Nat)

/-! ### Programs and instructions in flight (chapter 04) -/

/-- An instruction record (R88). -/
structure Rec where
  opcode : Nat
  flags : Nat
  modifier : Nat
  counter : Nat
  /-- Its reserved bytes are zero. -/
  reserved : Bool
  slots : List Nat
  params : List Nat
  deriving DecidableEq, Repr

/-- A tensor: a descriptor with its extents resolved (R90, R92). -/
structure Tensor where
  addr : Nat
  fmt : Fmt
  rank : Nat
  ext : List Nat
  str : List Nat
  mode : Nat
  compr : Nat
  flags : Nat
  hint : Nat
  ident : Nat
  deriving DecidableEq, Repr

/-- Where a program's body lies (R85). -/
inductive Body where
  | inline (bytes : List Byte)
  | byRef (addr : Nat)
  deriving DecidableEq, Repr

/-- Why issue of a program ended early (R87): the status, the record index, its opcode, the slot. -/
structure Stop where
  status : Nat
  index : Nat
  opcode : Nat
  slot : Nat
  deriving DecidableEq, Repr

/-- A mode 1 SIGNAL that waits for every earlier record of its program (R107). -/
structure Deferred where
  index : Nat
  counter : Nat
  increment : Nat
  /-- Its completion counter, where flag [0] is set. -/
  signal : Option Nat
  deriving DecidableEq, Repr

/-- Worked cycles of a unit on a logical plot of a strip, with its event class. -/
structure Owed where
  strip : Nat
  plot : Nat
  cls : Nat
  cycles : Nat
  deriving DecidableEq, Repr

/-- A program, waiting in its receive queue or active (R84 to R87, R94, R223). -/
structure Program where
  /-- Of a recompute program: what its written units owe to the counters until its race is decided (R222, R413). -/
  owed : List Owed := []
  serial : Nat
  qp : Nat
  ident : Nat
  flags : Nat
  nI : Nat
  nD : Nat
  body : Body
  tableAddr : Nat
  tableEntries : Nat
  mask : Nat
  pieces : Nat
  /-- The allocation entry whose recompute program this is (R223). -/
  recompute : Option Nat
  active : Bool
  next : Nat
  /-- Records that have entered the lookahead (R221). -/
  entered : Nat
  issued : Nat
  completed : Nat
  /-- Every status an instruction of the program returned (R87, R101); 0x151 is 0x51 with no spare left. -/
  seen : List Nat
  stop : Option Stop
  /-- The WAIT that holds issue: the time it started to wait, in ns. -/
  waitSince : Option Nat
  deferred : List Deferred
  /-- The first flight serial number that the BARRIER or STEP_COMMIT which holds issue does not wait
  for (R107). -/
  barrier : Option Nat
  deriving DecidableEq, Repr

/-- The part of a fabric, commit or Drill operation that ends apart from its plan. -/
inductive Hold where
  | none
  | fabric
  | commit
  | drill
  deriving DecidableEq, Repr

/-- A byte range an instruction in flight uses. -/
structure Span where
  addr : Nat
  len : Nat
  read : Bool
  write : Bool
  hint : Nat
  deriving DecidableEq, Repr

/-- A part of a CXL-window operand, at most 512 MiB, to be staged or written back (R224). -/
structure StagePart where
  addr : Nat
  len : Nat
  write : Bool
  hint : Nat
  deriving DecidableEq, Repr

/-- A part that lies in the staging area, and the flight that uses it; nobody uses a clean copy (R224). -/
structure Staged where
  addr : Nat
  len : Nat
  hint : Nat
  user : Option Nat
  deriving DecidableEq, Repr

/-- An instruction that has issued and not completed (R94, R130). -/
structure Flight where
  serial : Nat
  prog : Nat
  index : Nat
  opcode : Nat
  /-- The control-word bit of its event class (R121, R416); 0 where it has none. -/
  cls : Nat
  /-- The completion counter, where flag [0] is set (R98). -/
  signal : Option Nat
  statuses : List Nat
  slot : Nat
  spans : List Span
  /-- Statistics records to write at completion (R80). -/
  records : List (List Byte)
  codebooks : List Nat
  dict : Option Nat
  /-- The slot that it loads: a codebook slot, or 4 and a dictionary slot (R198, R272). -/
  loads : Option Nat
  hold : Hold
  /-- HBM blocks of its transient areas (R225), and whether they still wait for room (R219). -/
  area : Nat
  due : Bool
  /-- The device time since which it has waited for blocks (R219). -/
  dueSince : Option Nat
  /-- The off-loadable allocations with blocks in CXL that its inputs wait for (R221, R222). -/
  waits : List Nat
  /-- Parts of its CXL operands not yet staged or written back (R224). -/
  stage : List StagePart
  /-- Whether BARRIER or STEP_COMMIT applies the shadows at completion (R107). -/
  apply : Bool
  /-- The 64-byte units that it has written, by address, as they were before (R99). -/
  before : List (Nat × List Byte)
  deriving DecidableEq, Repr

/-! ### The Furrow's work counters (chapter 05) -/

/-- What one element, or one unit, costs on the engines of a plot (R111, R206, R471). -/
structure Cost where
  /-- Bits loaded. -/
  loads : Nat := 0
  /-- Bits of the loads that lie in the CXL window. -/
  cxl : Nat := 0
  /-- Lane operations of the vector unit. -/
  ops : Nat := 0
  /-- Bits stored. -/
  stores : Nat := 0
  /-- Cycles of the matrix array, and twice its cycles per value of k: 4, 2 or 1; 0 where it has no part. -/
  array : Nat := 0
  rate : Nat := 0
  /-- Cycles of the expander and of the compactor. -/
  expand : Nat := 0
  compact : Nat := 0
  /-- Blocks expanded from coded, raw and zero form, and blocks compacted. -/
  blocks : List Nat := []
  /-- What it stores lies in the CXL window. -/
  out : Bool := false
  /-- One key segment of a unit (R161). -/
  part : Bool := false
  /-- The T0 tiles that it completes. -/
  tiles : Nat := 0
  /-- Array cycles in tiles with a masked lane, and those of a 16-bit pair where the rate is another one. -/
  masked : Nat := 0
  sixteen : Nat := 0
  /-- Elements whose conversion counts (R77). -/
  counted : Nat := 0
  deriving DecidableEq, Repr

/-- The gather of a convolution's input patch (R177, R178): channels of the group, filter extents, bits per
element. -/
structure Gather where
  cin : Nat
  kw : Nat
  kh : Nat
  kd : Nat
  bits : Nat
  deriving DecidableEq, Repr

/-- A product of the matrix family as its plan takes it (R109, R114 to R119). -/
structure Product where
  n : Nat
  m : Nat
  k : Nat
  /-- Indices of the output dimensions 2 to 5 together. -/
  higher : Nat
  /-- Twice the array cycles of a T0 tile per value of k (R111). -/
  rate : Nat
  aBits : Nat
  bBits : Nat
  /-- Delivered transposed (R135). -/
  aTurned : Bool
  bTurned : Bool
  /-- In the CXL window. -/
  aCxl : Bool
  bCxl : Bool
  gather : Option Gather
  /-- Its units are single swaths (R184). -/
  single : Bool
  /-- The written columns of output dimension 1 (R141). -/
  lo : Nat
  hi : Nat
  outBits : Nat
  outCxl : Bool
  /-- Lane operations per element after the sum: bias, old value, conversion (R471). -/
  post : Nat
  counted : Bool
  /-- Bytes of each plot store and of each strip store that hold retained blocks at issue (R230). -/
  plotShare : Nat
  stripShare : Nat
  deriving DecidableEq, Repr

/-- How the units of a work list look (R121). -/
inductive Shape where
  | product (x : Product)
  /-- Patches of an output of these first two extents; what one element costs. -/
  | patch (e0 e1 : Nat) (c : Cost)
  /-- Units of rows: a row's length, the number of rows; what one element costs, and one row. -/
  | rows (len count : Nat) (c r : Cost)
  /-- Each unit's own cost. -/
  | listed (l : List Cost)
  deriving DecidableEq, Repr

/-- One phase of a work list (R121, R122, R125): the Skimmer units at its head, its units, and the
number of segments that split the last 32 quads of a strip's share. -/
structure Work where
  skim : Nat := 0
  /-- What one Skimmer unit costs. -/
  skimCost : Cost := {}
  units : Nat
  segs : Nat := 1
  /-- Every quad is replaced by its segment units (R180). -/
  split : Bool := false
  /-- Swaths for the edge engines (R184). -/
  edge : Bool := false
  /-- Twice its array cycles, where R144 chooses a mode by them. -/
  cycles : Nat := 0
  /-- It measures and writes nothing (R59, R122). -/
  measures : Bool := false
  shape : Shape := .listed []
  /-- The low halves of the swath words that the instruction wrote, in swath order (R68, R70). -/
  words : List Nat := []
  deriving DecidableEq, Repr

/-- A phase of a strip's list: its Skimmer units, and its contiguous share of the units (R124). -/
structure ListPhase where
  work : Work
  skim : Nat
  first : Nat
  share : Nat
  deriving DecidableEq, Repr

/-- One context of a strip's work counter (R126): the work list of one instruction in the strip. -/
structure Context where
  paddock : Nat
  flight : Nat
  /-- 0 the only list, or the dX list; 1 the dW list (R142). -/
  list : Nat
  next : Nat
  total : Nat
  /-- `[b, e)` of each logical plot. -/
  ranges : List (Nat × Nat)
  /-- Units completed in this phase. -/
  done : Nat
  phase : ListPhase
  /-- The phases that follow (R122). -/
  later : List ListPhase
  /-- Units that a retired plot without a spare has returned and that its range does not join (R131). -/
  returned : List Nat
  /-- Its units are swaths that the strip's edge engine claims (R184). -/
  edge : Bool
  /-- 0 a single list; 1 paired mode; 2 alternating mode (R143). -/
  mode : Nat
  deriving DecidableEq, Repr

/-- A started unit (R127). -/
structure Started where
  plot : Nat
  paddock : Nat
  flight : Nat
  list : Nat
  unit : Nat
  deriving DecidableEq, Repr

/-- A read request of a load engine: at most 64 KiB (R111). -/
structure Load where
  bytes : Nat
  /-- Delivered transposed, at half the rate (R135). -/
  turned : Bool := false
  /-- Cycles of a patch gather, where it is one (R177). -/
  gather : Nat := 0
  cxl : Bool := false
  deriving DecidableEq, Repr

/-- A piece of a unit as it passes through the engines of a plot: the T0 tile of one swath and k-slice, or up to
64 KiB of another unit's operands. -/
structure PlotJob where
  unit : Started
  /-- The k-slice, and the swath of the quad. -/
  slice : Nat
  swath : Nat
  loads : List Load
  /-- Cycles that the load engine waits for memory. -/
  wait : Nat
  expand : Nat
  blocks : List Nat
  array : Nat
  rate : Nat
  /-- Array cycles of tiles with at least one masked lane (R120), and those of a 16-bit pair where `rate` is another. -/
  masked : Nat
  sixteen : Nat
  /-- What it computes is written (R413). -/
  live : Bool
  vector : Nat
  compact : Nat
  /-- Bytes of its store requests, and whether they go to the CXL window. -/
  stores : List Nat
  out : Bool
  /-- T0 tiles that it completes. -/
  tiles : Nat
  /-- It ends a k-slice; it ends a segment of its swath; it ends the unit. -/
  endsSlice : Bool
  endsSegment : Bool
  endsUnit : Bool
  /-- The engine that paces it: 0 array, 1 vector unit, 2 compactor, 3 expander (R412). -/
  pace : Nat
  skims : Bool
  /-- It completes a quad from the segment values in the strip store (R117). -/
  combines : Bool
  deriving DecidableEq, Repr

/-- One engine: its queue, oldest first, and the cycles its head still takes, where it has begun. -/
structure Engine where
  queue : List PlotJob
  left : Option Nat
  deriving DecidableEq, Repr

/-- A started unit as its plot runs it. -/
structure Run where
  unit : Started
  /-- Picks its free waits for memory. -/
  seed : Nat
  /-- Its jobs, and how many of them the Furrow has sent to the load engine. -/
  jobs : Nat
  sent : Nat
  /-- The job at which it enters its last k-slice, or issues its last read (R112). -/
  asks : Nat
  pace : Nat
  /-- Swaths whose accumulators are saved in the plot store (R116). -/
  saved : List Nat
  /-- Sizes in the segment stack (R117), top first. -/
  stack : List Nat
  /-- Cycles its pacing engine has worked: on what is written, and on what is discarded. -/
  live : Nat
  dead : Nat
  deriving DecidableEq, Repr

/-- The engines of a logical plot (R111). -/
structure Engines where
  /-- The current unit and those behind it, oldest first. -/
  runs : List Run
  /-- The list that it sent a job of last (R143). -/
  turn : Nat
  load : Engine
  expand : Engine
  array : Engine
  vector : Engine
  compact : Engine
  store : Engine
  deriving DecidableEq, Repr

/-- What a strip store holds (R12, R114, R117). -/
inductive StoreItem where
  /-- The k-slices of both operands for a T2 tile: its first quad in n and m, its higher index, the k-slice. -/
  | slice (paddock flight list n m higher slice bytes : Nat)
  /-- The values of one segment of a quad. -/
  | segment (paddock flight list quad seg : Nat)
  deriving DecidableEq, Repr

/-- The state of an edge engine (R183) or of another unit under test (R360). -/
inductive UnitState where
  | available
  | testing
  | retired
  deriving DecidableEq, Repr

/-- A strip (R12, R13, R126). -/
structure Strip where
  contexts : List Context
  waiting : List Context
  started : List Started
  parked : List Nat
  /-- Logical plot to physical plot; nothing where a plot was retired with no spare left. -/
  map : List (Option Nat)
  spareFree : Bool
  edge : UnitState
  /-- The engines of its logical plots. -/
  plots : Vector Engines 16
  /-- What its strip store holds. -/
  store : List StoreItem
  deriving DecidableEq, Repr

/-! ### Silo (chapter 10) -/

/-- Where one block of an off-loadable allocation is (R217 to R220, R234). -/
inductive Place where
  /-- Not yet granted (R219). -/
  | awaited
  | resident
  | offloading
  | offloaded
  | fetching
  | lost
  deriving DecidableEq, Repr

/-- One mapped block of an off-loadable allocation. -/
structure Block where
  index : Nat
  place : Place
  /-- Its CXL copy is valid (R220). -/
  clean : Bool
  /-- Stored bytes, where it is in held form (R208). -/
  held : Option Nat
  /-- The element size of the held activation last written into it (R190, R194). -/
  elem : Option Nat
  /-- When its off-load or fetch began, as a rising number. -/
  order : Nat
  deriving DecidableEq, Repr

/-- An allocation entry that is live or releasing (R213). -/
structure Alloc where
  base : Nat
  len : Nat
  kind : Nat
  releasing : Bool
  flags : Nat
  recI : Nat
  recAddr : Nat
  recD : Nat
  recCost : Nat
  lastAccess : Nat
  zeroing : Bool
  /-- The tier hint of the latest completed instruction that wrote it (R218). -/
  hint : Nat
  spent : Bool
  /-- The flight of its latest access (R218). -/
  lastBy : Option Nat
  blocks : List Block
  /-- The tensor that is held in form: codebook slot and references (R208). -/
  heldSlot : Option Nat
  written : Bool
  /-- Blocks with a complete retained copy, its lowest ones (R227, R228). -/
  retained : Nat
  /-- Retained blocks whose home copy is lost (R229, R241). -/
  homeLost : List Nat
  /-- A fetch of it is still to be judged at a deadline (R222). -/
  wanted : Bool
  /-- Its bytes as they were when the recompute program that runs for it started. -/
  saved : Option Mem
  deriving DecidableEq, Repr

/-! ### Paddock tables -/

/-- A fallback slot in use (R73): its number, the address of its swath word, its F16 codes. -/
structure Fallback where
  slot : Nat
  word : Nat
  codes : List Nat
  deriving DecidableEq, Repr

/-- A loaded codebook (R197). -/
structure Codebook where
  generation : Nat
  lengths : List Nat
  deriving DecidableEq, Repr

/-- A loaded dictionary image (R272). -/
structure DictSlot where
  generation : Nat
  addr : Nat
  entries : Nat
  len : Nat
  deriving DecidableEq, Repr

/-- A reader of the key-value cache and the epoch at its entry (R172). -/
structure Reader where
  flight : Nat
  pool : Nat
  pages : Nat
  epoch : Nat
  deriving DecidableEq, Repr

/-! ### Dictionary (chapter 16) -/

/-- The shadow of one RWS object (R402, R403). -/
structure Shadow where
  key : Nat
  value : Nat
  /-- The directory entries a load in copy mode has read (R323). -/
  entries : List (List Byte)
  deriving DecidableEq, Repr

/-- A request that waits at the dictionary server (R399). -/
structure Request where
  path : DictPath
  bytes : List Byte
  deriving DecidableEq, Repr

/-- What a principal holds (R392, R393): its access key, last accepted counter and last response. -/
structure Principal where
  key : Option (List Byte)
  counter : Nat
  response : Option (List Byte)
  deriving DecidableEq, Repr

/-! ### Chip links and time (chapter 12) -/

/-- The link states of R286. -/
inductive LinkState where
  | disabled | down | training | identify | up | spareIdle | bypass | retired
  deriving DecidableEq, Repr

/-- A message on the links: its 64-byte header slot, its payload, and the paddock whose message it is where this device
is its source (R290, R350). -/
structure FabMsg where
  header : List Byte
  payload : List Byte
  pad : Option Nat := none
  deriving DecidableEq, Repr

/-- A message of which not every payload slot has come. -/
structure Arriving where
  header : List Byte
  payload : List Byte
  deriving DecidableEq, Repr

/-- One chip link (R281 to R286, R293 to R295). -/
structure Link where
  state : LinkState
  /-- Physical address and link number of the peer, once identified. -/
  peer : Option (Nat × Nat)
  peerStandby : Bool
  txSeq : Nat
  rxSeq : Nat
  /-- Messages sent and not acknowledged, oldest first, with their sequence numbers. -/
  unacked : List (Nat × FabMsg)
  /-- Messages that wait for credits or for replay-buffer space. -/
  waiting : List FabMsg
  /-- A NAK has been sent and the expected message has not come (R282). -/
  nakSent : Bool
  /-- Replays of the oldest unacknowledged sequence. -/
  replays : Nat
  testPending : Bool
  ackDue : Bool
  /-- Running totals of slots sent per lane, and of credits returned by the peer. -/
  used : List Nat
  returned : List Nat
  /-- Running totals of slots received and freed per lane. -/
  freed : List Nat
  /-- The messages whose payload slots are still coming: a bulk one, and a priority one that suspends it (R284). -/
  arriving : List Arriving
  /-- Sequences taken while an earlier message was still coming (R282, R284). -/
  taken : List Nat
  granted : Bool
  releaseAsked : Bool
  /-- Device time of the last fall. -/
  lastDown : Option Nat
  inUse : Bool
  /-- Errors counted while a spare is idle (R293). -/
  spareErrors : Nat
  cabling : Bool
  deriving DecidableEq, Repr

/-- A message delivered to the device and not yet used by its consumer (R280, R292). -/
structure Delivered where
  kind : Nat
  source : Nat
  epoch : Nat
  step : Nat
  flow : Nat
  number : Nat
  offset : Nat
  word : Nat
  payload : List Byte
  deriving DecidableEq, Repr

/-- What a neighbour's last time exchange named (R299, R300). -/
structure Neighbour where
  link : Nat
  source : Option Nat
  locked : Bool
  hops : Nat
  at_ : Nat
  deriving DecidableEq, Repr

/-- The time service (R299 to R301, R343, R344). -/
structure TimeState where
  ns : Nat
  frac : Nat
  setOnce : Bool
  neighbours : List Neighbour
  /-- The request under way on each link: link, t1. -/
  asked : List (Nat × Nat × Nat)
  lastExchange : Nat
  /-- When a lower candidate in locked state was last named. -/
  lowerSeen : Option Nat
  /-- Rate correction in parts per billion. -/
  slew : Int
  /-- The last Sync offsets, newest first, at most 16. -/
  syncs : List Int
  /-- The last Sync pair: origin and receive stamp. -/
  lastSync : Option (Nat × Nat)
  delayNs : Nat
  deriving DecidableEq, Repr

/-! ### Groups, collectives and recovery (chapters 13, 15) -/

/-- The group states of object 0x5811 (R332). -/
inductive GroupState where
  | empty | defined | forming | formed | refused | dissolving | dissolved
  deriving DecidableEq, Repr

/-- A report merged in a cluster (R310): who covered what. -/
structure Report where
  first : Nat
  covered : Nat
  flags : Nat
  lowest : Nat
  bound : Nat
  deriving DecidableEq, Repr

/-- The invite of R310 as a member holds it. -/
structure Invite where
  generation : Nat
  firmware : Nat
  epoch : Nat
  step : Nat
  digest : List Byte
  deriving DecidableEq, Repr

/-- One group slot (R306 to R312). -/
structure Group where
  state : GroupState
  definition : List Byte
  members : List Nat
  verdict : Nat
  digest : List Byte
  lowest : Nat
  issued : Nat
  invite : Option Invite
  reports : List Report
  /-- Operation sequences that returned a time-out (R321). -/
  timedOut : List Nat
  deriving DecidableEq, Repr

/-- What one message brought to an operation: the sender's rank, the kind and the tree level of its
operation word, the byte offset and the payload (R317). -/
structure Piece where
  rank : Nat
  kind : Nat
  level : Nat
  offset : Nat
  bytes : List Byte
  deriving DecidableEq, Repr

/-- A receive of a group slot from a rank, and the number of the send that it has paired with, once that is settled
(R320). -/
structure Pairing where
  slot : Nat
  rank : Nat
  send : Option Nat
  receive : Nat
  deriving DecidableEq, Repr

/-- A send of which messages have come, and whose receive is not over: group slot, rank, number, pieces (R320). -/
structure Sending where
  slot : Nat
  rank : Nat
  seq : Nat
  got : List Piece
  deriving DecidableEq, Repr

/-- A fabric operation in progress (R314 to R326). Its kind is a COLLECT mode, 6 for DISPATCH, 8 for
COMBINE. -/
structure FabOp where
  flight : Nat
  index : Nat
  group : Nat
  seq : Nat
  kind : Nat
  epoch : Nat
  step : Nat
  /-- The effective seed at its issue (R41). -/
  seed : BitVec 64
  r : Rec
  ts : List (Option Tensor)
  got : List Piece
  /-- A value of its own input is NaN or an infinity (R45). -/
  bad : Bool
  /-- What its second pass sends has been sent: rows, or the finished shard of an all-reduce (R325, R328). -/
  rows : Bool
  /-- Its output is written; only acknowledgements are awaited. -/
  done : Bool
  deriving DecidableEq, Repr

/-- An image in a commit slot (R366, R367): its step, its bytes as far as they have come, its length,
and the flags complete and sealed. -/
structure Image where
  step : Nat
  bytes : List Byte
  total : Nat
  complete : Bool
  sealed : Bool
  deriving DecidableEq, Repr

/-- What a member reported to the leader (R373): steps in home and held slots with bit 63 where
complete. -/
structure MemberReport where
  rank : Nat
  sealedStep : Nat
  steps : List Nat
  deriving DecidableEq, Repr

/-- A recovery attempt (R371 to R380). -/
structure Recovery where
  attempt : Nat
  /-- The epoch of the attempt. -/
  epoch : Nat
  trigger : Nat
  suspect : Nat
  /-- The moment of detection. -/
  since : Nat
  leading : Bool
  /-- Calls sent: to the leader, then to the alternate. -/
  called : Nat
  reports : List MemberReport
  /-- The failed set is fixed. -/
  fixed : Bool
  failed : List Nat
  /-- Failed ranks and their new addresses. -/
  plan : List (Nat × Nat)
  /-- The next entry of the standby list, and the standby under probe. -/
  cursor : Nat
  probing : Option Nat
  restoreStep : Nat
  nothing : Bool
  /-- The step whose replay is verified. -/
  replay : Option Nat
  /-- The plan is in force here and its restore runs. -/
  restoring : Bool
  standby : Bool
  /-- Own rank in the commit group. -/
  rank : Nat
  /-- Ranks whose restore has been reported, the own one included. -/
  restored : List Nat
  /-- The status with which the job is to be abandoned. -/
  abandon : Option Nat
  deriving DecidableEq, Repr

/-- Partner copies and commits of a paddock (R363 to R369, R379). -/
structure Commit where
  /-- The group that the job's STEP_COMMITs name. -/
  group : Option Nat
  home : List (Option Image)
  held : List (Option Image)
  /-- The kept copies of static ranges: this member's, and those of the member it holds images for. -/
  ownStatics : List Byte
  heldStatics : List Byte
  /-- A first commit since formation has copied the static ranges. -/
  staticsKept : Bool
  /-- The step that the STEP_COMMIT in flight would bring about, and its flight. -/
  running : Option Nat
  flight : Option Nat
  since : Nat
  /-- Its time-out in ms; 0 for none. -/
  limit : Nat
  acked : Bool
  refused : Bool
  /-- The replay commit found a difference here. -/
  mismatch : Bool
  /-- The start step of the job's first formation. -/
  startStep : Nat
  deriving DecidableEq, Repr

/-- What becomes of a sample (R255, R259, R264). -/
inductive Fate where
  | accepted
  | headers (status reason : Nat)
  | budget
  | syntaxError
  deriving DecidableEq, Repr

/-- What a sample's headers claim (R255 to R257). -/
structure Claims where
  w : Nat
  h : Nat
  f : Nat
  supported : Bool
  depth : Nat
  coefficients : Nat
  full : Bool
  /-- Chroma sampling: 0 for 4:4:4, 1 for 4:2:2, 2 for 4:2:0. -/
  sampling : Nat
  deriving DecidableEq, Repr

/-- What the Drill knows of one sample. -/
structure Look where
  index : Nat
  kind : Nat
  addr : Nat
  bytes : List Byte
  capAddr : Nat
  caption : List Byte
  captionLen : Nat
  label : Nat
  claims : Claims
  f0 : Nat
  x0 : Nat
  y0 : Nat
  hflip : Bool
  vflip : Bool
  work : Nat
  fate : Fate
  deriving DecidableEq, Repr

/-- A complete batch of the prepared area (R267): its first position, the positions it examined with what became of
them, the statuses it recorded, and where it lies in the area. -/
structure Ready where
  first : Nat
  looks : List (Nat × Look)
  statuses : List Nat
  offset : Nat
  deriving DecidableEq, Repr

/-- A Drill stream (R267): what identifies it (the operands and parameters, the augmentation record,
the group-relevant objects), its prepared batches, the position after the last one that its newest instruction needs,
and when it was served. -/
structure Stream where
  r : Rec
  ts : List (Option Tensor)
  aug : List Byte
  env : List Nat
  ready : List Ready
  base : Nat
  lastUse : Nat
  deriving DecidableEq, Repr

/-- Where a sample stands. -/
inductive SampleStage where
  | waiting | admitted | decoded | over
  deriving DecidableEq, Repr

/-- A sample of a batch in decode. The unit that has taken it holds it until it is augmented. -/
structure Sample where
  flight : Nat
  position : Nat
  video : Bool
  fate : Fate
  stage : SampleStage
  unit : Option Nat
  deriving DecidableEq, Repr

/-- A batch in decode, with what was read at its start: that of a DECODE_BATCH in flight, or one in preparation. -/
structure Batch where
  flight : Nat
  index : Nat
  r : Rec
  ts : List (Option Tensor)
  aug : List Byte
  env : List Nat
  first : Nat
  /-- The effective seed and the job step at its issue (R41, R54). -/
  seed : BitVec 64
  step : Nat
  looks : List (Nat × Look)
  /-- It is made in the prepared area, at this offset (R267). -/
  ahead : Option Nat
  /-- A DECODE_BATCH waits for it; `flight` is then that instruction, and otherwise a number of its own. -/
  waits : Bool
  /-- Statuses of its preparation. -/
  statuses : List Nat
  deriving DecidableEq, Repr

/-- What leaves the device. -/
inductive Emission where
  | linkMessage (link : Nat) (msg : FabMsg)
  /-- The header of a message and the first of its payload slots. -/
  | linkBegin (link : Nat) (msg : FabMsg) (slots : Nat)
  /-- Further payload slots of a message that was suspended (R284). -/
  | linkResume (link : Nat) (payload : List Byte)
  | linkControl (link : Nat) (header : List Byte)
  | prbs (link : Nat)
  | carriage (q : Nat) (msg : FabMsg)
  | datagram (farm : Nat) (msg : FabMsg)
  | send (q imm : Nat) (payload : List Byte)
  | ack (q : Nat)
  | nakInvalid (q : Nat)
  | nakAccess (q : Nat)
  | rnrNak (q : Nat)
  | readResponse (q : Nat) (payload : List Byte)
  | cnp (q dscp : Nat)
  | response (path : DictPath) (bytes : List Byte)
  | ptpDelayReq (port : Nat)
  | pmbusRead (rail : Nat)
  deriving DecidableEq, Repr

/-! ### RoCE (chapter 14) -/

/-- Classes of a logical port's transmit order: 0 ACKs and NAKs, 1 CNPs, 2 UD, 3 RC (R341). -/
structure Packet where
  port : Nat
  prio : Nat
  cls : Nat
  q : Nat
  frames : Nat
  e : Emission
  deriving DecidableEq, Repr

/-- Work the device has outstanding as requester on a queue pair (R340, R342). -/
inductive Outgoing where
  | completion (payload : List Byte) (imm : Nat)
  | notice (payload : List Byte)
  | carriage (msg : FabMsg)
  deriving DecidableEq, Repr

/-- An RDMA request that waits for the zeroing of its allocation (R216). -/
inductive RdmaRequest where
  | write (rkey addr : Nat) (data : List Byte)
  | read (rkey addr len : Nat)
  deriving DecidableEq, Repr

/-- A queue pair's entry (R336) and its working state. -/
structure QueuePair where
  index : Nat
  /-- 0 reset, 1 ready, 2 error. -/
  state : Nat
  fields : List Byte
  received : Nat
  sent : Nat
  outgoing : List Outgoing
  /-- Requests that wait, oldest first (R216). -/
  held : List RdmaRequest
  retries : Nat
  rnrRetries : Nat
  /-- Send rate in parts per million of the line rate (R341). -/
  rate : Nat
  /-- When it last sent a CNP, in ns since the main die runs (R341). -/
  cnpAt : Option Nat
  deriving DecidableEq, Repr

/-! ### Faults, life cycle, power -/

/-- A unit by class and number (R468). -/
abbrev UnitId := UnitClass × Nat

/-- The life-cycle states of R427. -/
inductive LifeState where
  | blank | provisioned | owned | ownedLocked | maintenance | retired
  deriving DecidableEq, Repr

/-- The identity and ownership held by the always-on island (R424 to R432). -/
structure Life where
  state : LifeState
  privateKey : Option Nat
  publicKey : List Byte
  certificate : List Byte
  certLen : Nat
  manufacturing : Bool
  ownerCommitment : List Byte
  /-- A release under way, or a decommission. -/
  transition : Option Bool
  principals : List Principal
  /-- Nonces that wait to be signed: subindex and nonce. -/
  nonces : List (Nat × List Byte)
  reports : List (List Byte)
  deriving DecidableEq, Repr

/-- The update states of R437. -/
inductive UpdateState where
  | idle | erasing | receiving | staged
  deriving DecidableEq, Repr

/-- The firmware slots and the update under way (R433 to R441). -/
structure Firmware where
  slotA : Mem
  slotB : Mem
  states : List Nat
  nextSlot : Nat
  running : Option Nat
  lastResult : Nat
  bootCount : Nat
  floor : Nat
  stepsLeft : Nat
  revoked : Nat
  update : UpdateState
  header : List Byte
  received : Nat
  /-- Stream bytes of a record that is not complete. -/
  carry : List Byte
  /-- The end record has been decoded. -/
  ended : Bool
  written : Nat
  rescued : Nat
  deriving DecidableEq, Repr

/-- Pins, clocks, start-up progress and power state (R20, R447 to R464). -/
structure Power where
  aoGood : Bool
  mainGood : Bool
  rstHeld : Bool
  thermTrip : Bool
  sysClock : Bool
  cxlClock0 : Bool
  cxlClock1 : Bool
  aoClock : Bool
  /-- The physical address in force: object 0x5400 as it was at the last start of the main die. -/
  address : Nat
  /-- The main die is out of reset. -/
  running : Bool
  firmware : Bool
  absent : Bool
  /-- Whether every HBM stack has trained, once it is known. -/
  hbm : Option Bool
  cxlDone : Bool
  ready : Bool
  /-- Device ns since the main die left reset, in which R20 counts its rows. -/
  upNs : Nat
  clockMHz : Nat
  causes : Nat
  derated : Bool
  deratePin : Bool
  /-- Rails whose last STATUS_WORD reports a fault or warning. -/
  regFaults : List Nat
  /-- Device time at which the last derating cause ended. -/
  holdSince : Option Nat
  /-- Device time since which the power has stayed below 95 % of the limit. -/
  quietSince : Option Nat
  throttledNs : Nat
  /-- Plot-clock cycles since the plots left reset, in thousandths; the same for every plot (R410). -/
  cycles : Nat
  /-- The instruction the test access port holds: 0 BYPASS, 1 IDCODE, others as shifted in. -/
  tap : Nat
  deriving DecidableEq, Repr

/-- The self-test run (R457 to R461). -/
structure Bist where
  state : Nat
  phase : Nat
  wave : Nat
  classes : Nat
  links : Nat
  ports : Nat
  failed : List UnitId
  started : Nat
  peak : Nat
  passedSince : Bool
  deriving DecidableEq, Repr

/-- A unit under its targeted test: what detected its error, the paddock and the detail that the log
entry of the test's end carries, and the instruction (paddock and flight) whose abandoned work runs again
after the test (R360, R387, R468). -/
structure UnitTest where
  unit : UnitId
  detection : Nat
  paddock : Nat
  detail : Nat
  victim : Option (Nat × Nat)
  /-- What it tests is retired already (R241). -/
  counted : Bool := false
  deriving DecidableEq, Repr

/-- The error log and the retirements (R360, R361, R386, R387). -/
structure Faults where
  written : Nat
  oldest : Nat
  entries : List (List Byte)
  /-- Positions of entries that the owner has not read (R464). -/
  unread : List Nat
  retired : List UnitId
  testing : List UnitTest
  errors : List (UnitId × Nat)
  degraded : Bool
  deriving DecidableEq, Repr

/-- The CXL and flash tiers and the HBM stacks (R210, R231 to R244). -/
structure Tiers where
  cxlDevices : List CxlDevice
  cxlPresent : Bool
  withdrawn : List Nat
  flash : Mem
  targets : Nat
  cellType : Nat
  targetBytes : Nat
  flashState : Nat
  /-- Spare blocks have fallen below 0.5 % (R239). -/
  readOnly : Bool
  /-- Targets lost without parity, and the mapping units written elsewhere since (R241). -/
  lostTargets : List (Nat × List Nat)
  /-- The port configurations in force (R231). -/
  bifurcation : List Nat
  parityInForce : Bool
  cleanStop : Bool
  corrections : List (Nat × Nat)
  scrubs : Nat
  deriving DecidableEq, Repr

/-- The phases of a paddock (R346 to R348): its state object reads 0, 0, 1 or 2. -/
inductive Phase where
  | absent
  | creating
  | active
  | deleting
  deriving DecidableEq, Repr

/-- What one paddock holds. -/
structure Paddock where
  phase : Phase
  objs : Objs
  shadows : List Shadow
  hbm : Mem
  cxl : Mem
  allocs : List (Nat × Alloc)
  programs : List Program
  nextSerial : Nat
  flights : List Flight
  nextFlight : Nat
  /-- Records in the lookahead, by program and index, in the order in which they entered it (R221). -/
  ahead : List (Nat × Nat)
  /-- Parts in the staging area, oldest first (R224). -/
  staged : List Staged
  /-- Ranges whose bytes cannot be trusted: address, length, and the status of their readers (R241). -/
  bad : List (Nat × Nat × Nat)
  /-- Counter and target of each WAIT that timed out before its target was reached (R100). -/
  lateWaits : List (Nat × Nat)
  fallback : List Fallback
  codebooks : List (Option Codebook)
  dicts : List (Option DictSlot)
  readers : List Reader
  groups : Vector Group 16
  ops : List FabOp
  pairs : List Pairing
  sends : List Sending
  commit : Commit
  recovery : Option Recovery
  /-- Issue is stopped by a recovery (R373) or by the end of the paddock (R347). -/
  stopped : Bool
  streams : List Stream
  samples : List Sample
  batches : List Batch
  /-- Off-loads and fetches begun, as a rising number. -/
  moves : Nat
  retainedOn : Bool
  deriving DecidableEq, Repr

/-- Why a command stops the machine. -/
inductive Fault where
  /-- Raised by no command: every command of the table has an effect in the spec, and every address
  it meets has an outcome (R97, R467). Safe. -/
  | unreachable
  deriving DecidableEq, Repr

/-- Why a command is refused. -/
inductive Refusal where
  /-- Raised by the arm of a command that has no meaning in the model yet. Safe. -/
  | notModelled (mnemonic : String)
  deriving DecidableEq, Repr

/-- The state of the block. -/
structure State where
  /-- The commands that wait, first in first out. -/
  pending : List Instr
  /-- What has left the device, newest last. -/
  out : List Emission
  /-- The model's own count of free values drawn. -/
  free : Nat
  /-- Values of the per-device objects. -/
  objs : Objs
  strips : Vector Strip 24
  /-- The paddock that the Drill's round-robin asks first for its next video and image sample (R246). -/
  videoTurn : Nat
  imageTurn : Nat
  /-- The number of its next message of types 0x04 to 0x06 (log entry 15). -/
  controlNumber : Nat
  paddocks : Vector Paddock 8
  qps : List QueuePair
  /-- Paused priorities (R341): logical port, priority, ns since the main die runs at which the pause ends. -/
  pauses : List (Nat × Nat × Nat)
  /-- Packets that a pause holds back, oldest first (R341). -/
  outbox : List Packet
  /-- The queue pair whose RC traffic each logical port sent last (R341). -/
  rcTurns : Vector Nat 8
  links : Vector Link 48
  inbox : List Delivered
  /-- Source, flow identifier and message number of what has been delivered (R292). -/
  seen : List (Nat × Nat × Nat)
  time : TimeState
  directory : List (Nat × List Byte)
  requests : List Request
  life : Life
  firmware : Firmware
  power : Power
  bist : Bist
  faults : Faults
  tiers : Tiers
  deriving DecidableEq, Repr

/-! ### Reset -/

/-- An engine with nothing to do. -/
def Engine.idle : Engine := { queue := [], left := none }

/-- A plot without a unit. -/
def Engines.idle : Engines :=
  { runs := [], turn := 0, load := .idle, expand := .idle, array := .idle, vector := .idle, compact := .idle, store := .idle }

/-- A strip with no work and every plot in service (R12, R21). Physical plot 16 is the spare, and each logical plot
is the physical one of its number (DESIGN CHOICE, log entry 110). -/
def Strip.fresh : Strip :=
  { contexts := [], waiting := [], started := [], parked := [],
    map := (List.range 16).map some, spareFree := true, edge := .available,
    plots := Vector.replicate 16 .idle, store := [] }

def Group.fresh : Group :=
  { state := .empty, definition := List.replicate 64 0, members := [], verdict := 0,
    digest := List.replicate 64 0, lowest := 0xFFFFFFFF, issued := 0, invite := none,
    reports := [], timedOut := [] }

def Commit.fresh : Commit :=
  { group := none, home := [none, none], held := [none, none], ownStatics := [], heldStatics := [],
    staticsKept := false, running := none, flight := none, since := 0, limit := 0, acked := false,
    refused := false, mismatch := false, startStep := 0 }

/-- An absent paddock: nothing exists in it (R21). -/
def Paddock.fresh : Paddock :=
  { phase := .absent, objs := [], shadows := [], hbm := [], cxl := [], allocs := [], programs := [],
    nextSerial := 0, flights := [], nextFlight := 0, ahead := [], staged := [],
    bad := [], lateWaits := [], fallback := [],
    codebooks := [none, none, none, none], dicts := [none, none], readers := [],
    groups := Vector.replicate 16 Group.fresh, ops := [], pairs := [], sends := [], commit := Commit.fresh,
    recovery := none, stopped := false, streams := [], samples := [], batches := [], moves := 0,
    retainedOn := false }

/-- A link as it is before the main die runs: down, sequences at 0, buffers empty (R302). -/
def Link.fresh : Link :=
  { state := .down, peer := none, peerStandby := false, txSeq := 0, rxSeq := 0, unacked := [],
    waiting := [], nakSent := false, replays := 0, testPending := false, ackDue := false,
    used := List.replicate 7 0, returned := List.replicate 7 0, freed := List.replicate 7 0,
    arriving := [], taken := [], granted := false, releaseAsked := false, lastDown := none,
    inUse := false, spareErrors := 0, cabling := true }

def TimeState.fresh : TimeState :=
  { ns := 0, frac := 0, setOnce := false, neighbours := [], asked := [],
    lastExchange := 0, lowerSeen := none, slew := 0, syncs := [], lastSync := none, delayNs := 0 }

def Principal.fresh : Principal := { key := none, counter := 0, response := none }

/-- The identity the fuses hold (R424, R427): a device leaves Otsia PROVISIONED (R428).
DESIGN CHOICE, log entry 6. -/
def Life.fresh : Life :=
  { state := .provisioned, privateKey := some Config.identityKey, publicKey := Config.identityPublic,
    certificate := Config.certificate, certLen := Config.certificate.length, manufacturing := false,
    ownerCommitment := List.replicate 64 0, transition := none,
    principals := List.replicate 9 Principal.fresh, nonces := [],
    reports := List.replicate 9 (List.replicate 512 0) }

def Firmware.fresh : Firmware :=
  { slotA := [], slotB := [], states := [0, 0], nextSlot := 0, running := none, lastResult := 0,
    bootCount := 0, floor := 0, stepsLeft := 64, revoked := 0, update := .idle, header := [],
    received := 0, carry := [], ended := false, written := 0, rescued := 0 }

def Power.fresh : Power :=
  { aoGood := false, mainGood := false, rstHeld := false, thermTrip := false, sysClock := true,
    cxlClock0 := true, cxlClock1 := true, aoClock := true, address := 0, running := false,
    firmware := false, absent := false, hbm := none, cxlDone := false, ready := false, upNs := 0,
    clockMHz := 0,
    causes := 0, derated := false, deratePin := false, regFaults := [], holdSince := none,
    quietSince := none, throttledNs := 0, cycles := 0, tap := 0 }

def Bist.fresh : Bist :=
  { state := 0, phase := 0, wave := 0, classes := 0, links := 0, ports := 0, failed := [],
    started := 0, peak := 0, passedSince := false }

def Faults.fresh : Faults :=
  { written := 0, oldest := 0, entries := List.replicate 1024 (List.replicate 32 0), unread := [], retired := [],
    testing := [], errors := [], degraded := false }

def Tiers.fresh : Tiers :=
  { cxlDevices := [], cxlPresent := false, withdrawn := [], flash := [], targets := 0,
    cellType := 0, targetBytes := 0, flashState := 0, readOnly := false, lostTargets := [],
    bifurcation := [0, 0], parityInForce := true, cleanStop := false,
    corrections := [], scrubs := 0 }

/-- The device as its always-on rail comes up (R405, R447): no power-good yet, the main die in
reset, every per-device object at its default, no paddock, and no command waiting. -/
def State.reset : State :=
  { pending := [], out := [], free := 0, objs := [], strips := Vector.replicate 24 Strip.fresh,
    videoTurn := 0, imageTurn := 0, controlNumber := 0,
    paddocks := Vector.replicate 8 Paddock.fresh, qps := [], pauses := [], outbox := [],
    rcTurns := Vector.replicate 8 0,
    links := Vector.replicate 48 Link.fresh, inbox := [], seen := [], time := TimeState.fresh,
    directory := [], requests := [], life := Life.fresh, firmware := Firmware.fresh,
    power := Power.fresh, bist := Bist.fresh, faults := Faults.fresh, tiers := Tiers.fresh }

end Sys2Proof.Machine
end

