-- ==== Sys2Proof/Machine/Ops.lean ====
section
/-! DEFINITION. The named operations over the state: memories, objects, and the device's parts. -/

namespace Sys2Proof.Machine

/-! ### Memories: sorted cells over a byte `z` that unlisted addresses read as -/

/-- One byte of a memory. -/
def memRead (z : Byte) (m : Mem) (a : Nat) : Byte :=
  match m with
  | [] => z
  | c :: r => if c.1 = a then c.2 else memRead z r a

/-- Write one byte; writing `z` removes the entry. -/
def memWrite (z : Byte) (m : Mem) (a : Nat) (b : Byte) : Mem :=
  match m with
  | [] => if b = z then [] else [(a, b)]
  | c :: r =>
    if a < c.1 then (if b = z then c :: r else (a, b) :: c :: r)
    else if a = c.1 then (if b = z then r else (a, b) :: r)
    else c :: memWrite z r a b

/-- Write a list of bytes at addresses, the last of the list first. -/
def memWrites (z : Byte) (m : Mem) (ws : List (Nat × Byte)) : Mem :=
  ws.foldr (fun w m => memWrite z m w.1 w.2) m

/-- The addresses of the cells rise strictly from above `lo`, and none holds `z`. -/
def memSorted (z : Byte) (lo : Nat) : Mem → Bool
  | [] => true
  | c :: r => Nat.ble lo c.1 && (c.2 != z) && memSorted z (c.1 + 1) r

/-- The canonical form of a memory. -/
abbrev Memory.wf (z : Byte) (m : Mem) : Bool := memSorted z 0 m

/-- `n` bytes from an address. -/
def memBytes (z : Byte) (m : Mem) (a n : Nat) : List Byte :=
  (List.range n).map fun i => memRead z m (a + i)

/-- The writes that place bytes at an address. -/
def placeAt (a : Nat) (bs : List Byte) : List (Nat × Byte) :=
  bs.zipIdx.map fun p => (a + p.2, p.1)

/-- The bytes of a memory less those of a range, which read as `z` again. -/
def memClear (m : Mem) (a n : Nat) : Mem :=
  m.filter fun c => c.1 < a || a + n ≤ c.1

/-! ### Object values -/

/-- The key of an object. -/
def okey (index sub : Nat) : Nat := 256 * index + sub

def objFind (o : Objs) (k : Nat) : Option Nat := (o.find? fun e => Nat.beq e.1 k).map (·.2)

/-- Set one value, keeping the keys in rising order. -/
def objPut (o : Objs) (k v : Nat) : Objs :=
  match o with
  | [] => [(k, v)]
  | e :: r => if k < e.1 then (k, v) :: e :: r else if k = e.1 then (k, v) :: r else e :: objPut r k v

/-- The value of an object: what was stored, or its default (R405). -/
def objValue (o : Objs) (index sub : Nat) : Nat :=
  (objFind o (okey index sub)).getD (objDefault index sub)

/-- A value cut to the object's length in bytes. -/
def objWrap (index sub v : Nat) : Nat :=
  match objRow index sub with
  | some r => v % 2 ^ (8 * r.len)
  | none => v

/-! ### Updates of lists by position or key -/

/-- Change the element at a position, where there is one. -/
def modAt {α : Type} (l : List α) (i : Nat) (f : α → α) : List α := l.modify i f

/-- Change every element that a test picks. -/
def modWhere {α : Type} (l : List α) (p : α → Bool) (f : α → α) : List α :=
  l.map fun x => if p x then f x else x

/-- Insert an element before the first that it precedes strictly, keeping equals in their order. -/
def insertBy {α : Type} (le : α → α → Bool) (x : α) : List α → List α
  | [] => [x]
  | y :: r => if le y x then y :: insertBy le x r else x :: y :: r

/-- A stable sort. -/
def sortBy {α : Type} (le : α → α → Bool) (l : List α) : List α :=
  l.foldl (fun a x => insertBy le x a) []

/-! ### The parts of the state -/

/-- Paddock `p`; beyond 7 an absent one. -/
def State.pad (s : State) (p : Nat) : Paddock := (s.paddocks[p]?).getD Paddock.fresh

def State.setPad (s : State) (p : Nat) (d : Paddock) : State :=
  { s with paddocks := s.paddocks.setIfInBounds p d }

def State.modPad (s : State) (p : Nat) (f : Paddock → Paddock) : State := s.setPad p (f (s.pad p))

def State.strip (s : State) (k : Nat) : Strip := (s.strips[k]?).getD Strip.fresh

def State.setStrip (s : State) (k : Nat) (d : Strip) : State :=
  { s with strips := s.strips.setIfInBounds k d }

/-- The engines of a logical plot of a strip. -/
def Strip.plot (st : Strip) (q : Nat) : Engines := (st.plots[q]?).getD Engines.idle

def Strip.setPlot (st : Strip) (q : Nat) (e : Engines) : Strip := { st with plots := st.plots.setIfInBounds q e }

def State.link (s : State) (n : Nat) : Link := (s.links[n]?).getD Link.fresh

def State.setLink (s : State) (n : Nat) (d : Link) : State :=
  { s with links := s.links.setIfInBounds n d }

def State.modLink (s : State) (n : Nat) (f : Link → Link) : State := s.setLink n (f (s.link n))

def Paddock.group (d : Paddock) (g : Nat) : Group := (d.groups[g]?).getD Group.fresh

def Paddock.setGroup (d : Paddock) (g : Nat) (v : Group) : Paddock :=
  { d with groups := d.groups.setIfInBounds g v }

/-- Add one emission. -/
def State.emit (s : State) (e : Emission) : State := { s with out := s.out ++ [e] }

/-- Draw one free value (log entry 2). -/
def State.draw (s : State) : Nat × State := (Config.freeNat s.free, { s with free := s.free + 1 })

/-! ### Objects of the device and of paddocks -/

def State.obj (s : State) (index sub : Nat) : Nat := objValue s.objs index sub

def State.setObj (s : State) (index sub v : Nat) : State :=
  { s with objs := objPut s.objs (okey index sub) v }

/-- Add to a counting object, modulo its width. -/
def State.addObj (s : State) (index sub n : Nat) : State :=
  s.setObj index sub (objWrap index sub (s.obj index sub + n))

def Paddock.obj (d : Paddock) (index sub : Nat) : Nat := objValue d.objs index sub

def Paddock.setObj (d : Paddock) (index sub v : Nat) : Paddock :=
  { d with objs := objPut d.objs (okey index sub) v }

def Paddock.addObj (d : Paddock) (index sub n : Nat) : Paddock :=
  d.setObj index sub (objWrap index sub (d.obj index sub + n))

/-! ### Paddock definitions (R345) -/

/-- The strips of paddock `p`, ascending. -/
def State.stripMask (s : State) (p : Nat) : Nat := s.obj 0x3000 p % 2 ^ 24

def maskList (n mask : Nat) : List Nat := (List.range n).filter fun i => mask.testBit i

def State.stripsOf (s : State) (p : Nat) : List Nat := maskList 24 (s.stripMask p)

/-- Bits [47:0] chip links and [55:48] logical host ports (R345). -/
def State.linkRights (s : State) (p : Nat) : Nat := (s.obj 0x3000 p >>> 64) % 2 ^ 56

def State.qpQuota (s : State) (p : Nat) : Nat := (s.obj 0x3000 p >>> 32) % 2 ^ 16

def State.padFlags (s : State) (p : Nat) : Nat := (s.obj 0x3000 p >>> 48) % 2 ^ 8

def State.areaBlocks (s : State) (p : Nat) : Nat := (s.obj 0x3000 p >>> 128) % 2 ^ 32

/-- A paddock that exists. -/
def Paddock.present (d : Paddock) : Bool :=
  match d.phase with
  | .active => true
  | .deleting => true
  | _ => false

def Paddock.active (d : Paddock) : Bool := d.phase == .active

/-! ### Windows (R467) -/

inductive Window where
  | hbm | cxl | flash
  deriving DecidableEq, Repr

def hbmEnd : Nat := 576000000000
def cxlBase : Nat := 0x010000000000
/-- The end of the CXL window as its addresses give it. DESIGN CHOICE, log entry 109: the size that R467 gives
beside them is larger. -/
def cxlEnd : Nat := 0x018000000000
def flashBase : Nat := 0x100000000000
def flashEnd : Nat := 0x900000000000

/-- The window an address belongs to. -/
def windowOf (a : Nat) : Option Window :=
  if a < hbmEnd then some .hbm
  else if cxlBase ≤ a && a < cxlEnd then some .cxl
  else if flashBase ≤ a && a < flashEnd then some .flash
  else none

/-- Whether any byte of a range lies in a window. -/
def touches (w : Window) (a n : Nat) : Bool :=
  let hits := fun (lo hi : Nat) => decide (0 < n) && decide (a < hi) && decide (lo < a + n)
  match w with
  | .hbm => hits 0 hbmEnd
  | .cxl => hits cxlBase cxlEnd
  | .flash => hits flashBase flashEnd

def touchesAny (a n : Nat) : Bool := touches .hbm a n || touches .cxl a n || touches .flash a n

/-- Bytes of a mapping unit of logical flash (R237). -/
def mappingUnit : Nat := 1048576

/-- A mapping unit lay on a target that was lost without parity, and has not been written since (R241). -/
def State.unitLost (s : State) (u : Nat) : Bool :=
  s.tiers.lostTargets.any fun x => Config.onTarget u x.1 && !x.2.contains u

/-- The offset of a flash-window address in logical flash (R236). -/
def State.flashOffset (s : State) (p a : Nat) : Nat := s.obj 0x4820 p + (a - flashBase)

/-- One byte as paddock `p` reads it: zeros outside every window (R97). -/
def State.byteAt (s : State) (p a : Nat) : Byte :=
  match windowOf a with
  | some .hbm => memRead 0 (s.pad p).hbm a
  | some .cxl => memRead 0 (s.pad p).cxl a
  | some .flash => memRead 0 s.tiers.flash (s.flashOffset p a)
  | none => 0

def State.bytesAt (s : State) (p a n : Nat) : List Byte :=
  (List.range n).map fun i => s.byteAt p (a + i)

/-- A range without the `n` addresses from `a`. -/
def cutRange (r : Nat × Nat × Nat) (a n : Nat) : List (Nat × Nat × Nat) :=
  if r.1 < a + n && a < r.1 + r.2.1 then
    [(r.1, a - r.1, r.2.2), (a + n, r.1 + r.2.1 - (a + n), r.2.2)].filter fun x => x.2.1 != 0
  else [r]

/-- Bytes of HBM that are written can be trusted again (R241). -/
def heal (bad : List (Nat × Nat × Nat)) (as : List Nat) : List (Nat × Nat × Nat) :=
  if bad.isEmpty then bad else as.foldl (fun l a => l.flatMap fun r => cutRange r a 1) bad

/-- Write bytes as paddock `p`: those outside every window are dropped (R97). -/
def State.writeBytes (s : State) (p : Nat) (ws : List (Nat × Byte)) : State :=
  let inW := fun (w : Window) => ws.filter fun x => windowOf x.1 == some w
  let s := s.modPad p fun d =>
    { d with hbm := memWrites 0 d.hbm (inW .hbm), cxl := memWrites 0 d.cxl (inW .cxl)
             bad := heal d.bad ((inW .hbm).map (·.1)) }
  let f := (inW .flash).map fun x => (s.flashOffset p x.1, x.2)
  { s with tiers := { s.tiers with
      flash := memWrites 0 s.tiers.flash f
      lostTargets := s.tiers.lostTargets.map fun x =>
        (x.1, ((x.2 ++ f.map fun y => y.1 / mappingUnit)).eraseDups) } }

/-- Whether a write touches a swath word. -/
def wordTouched (bs : List (Nat × Byte)) (word : Nat) : Bool :=
  bs.any fun b => Nat.ble word b.1 && Nat.blt b.1 (word + 8)

/-- Release the slots whose swath word a write replaces (R73). -/
def releaseOver (old pool : List Fallback) (bs : List (Nat × Byte)) : List Fallback :=
  pool.filter fun f => !(old.contains f && wordTouched bs f.word)

/-- Write bytes that belong to no output tensor, releasing the slots of replaced swath words. -/
def plainWrite (s : State) (p : Nat) (bs : List (Nat × Byte)) : State :=
  (s.writeBytes p bs).modPad p fun d => { d with fallback := releaseOver d.fallback d.fallback bs }

/-! ### Allocations (R97, R213) -/

/-- The live allocation of a paddock in which a whole range lies. -/
def Paddock.allocOf (d : Paddock) (a n : Nat) : Option (Nat × Alloc) :=
  d.allocs.find? fun e => !e.2.releasing && decide (e.2.base ≤ a) && decide (a + n ≤ e.2.base + e.2.len)

/-- A range lies within one live fixed allocation. -/
def Paddock.inFixed (d : Paddock) (a n : Nat) : Bool :=
  match d.allocOf a n with
  | some e => e.2.kind == 0
  | none => false

def Paddock.modAlloc (d : Paddock) (j : Nat) (f : Alloc → Alloc) : Paddock :=
  { d with allocs := d.allocs.map fun e => if e.1 = j then (j, f e.2) else e }

def Paddock.alloc (d : Paddock) (j : Nat) : Option Alloc := (d.allocs.find? fun e => e.1 == j).map (·.2)

/-- Count an access outside the paddock (R97). -/
def State.countOutside (s : State) (p : Nat) (write : Bool) : State :=
  s.addObj (if write then 0x3004 else 0x3003) p 1

/-! ### Time -/

/-- Device time in whole ns (R343). -/
def State.now (s : State) : Nat := s.time.ns % 2 ^ 64

/-- Device time in µs. -/
def State.nowUs (s : State) : Nat := s.now / 1000

/-! ### The error log (R386, R387) -/

/-- The code of a unit class in a log entry (R387). -/
def classCode : UnitClass → Nat
  | .plot => 1 | .stripBank => 2 | .edgeEngine => 3 | .hbmBlock => 4 | .chipLink => 5
  | .hostPort => 6 | .collectiveEngine => 7 | .drillUnit => 8 | .controlCore => 9 | .cxl => 10
  | .flash => 11 | .directoryBank => 12 | .device => 13 | .job => 14

/-- The fields of a log entry beside time and sequence number. -/
structure LogEntry where
  status : Nat
  cls : UnitClass
  unit : Nat
  detection : Nat
  outcome : Nat
  paddock : Nat := 0xFF
  detail : Nat := 0
  job : Nat := 0
  deriving DecidableEq, Repr

/-- Write one entry; the oldest gives way to the newest (R386). -/
def State.log (s : State) (e : LogEntry) : State :=
  let n := s.faults.written
  let bytes := leBytes 8 s.now
    ++ leBytes 1 e.status ++ leBytes 1 (classCode e.cls) ++ leBytes 2 e.unit
    ++ leBytes 1 e.detection ++ leBytes 1 e.outcome ++ leBytes 1 e.paddock ++ [0]
    ++ leBytes 8 e.detail ++ leBytes 4 e.job ++ leBytes 4 n
  { s with faults := { s.faults with
      written := (n + 1) % 2 ^ 32
      oldest := if s.faults.oldest + 1024 ≤ n then n - 1023 else s.faults.oldest
      entries := s.faults.entries.set (n % 1024) bytes
      unread := (s.faults.unread.filter fun k => k != n % 1024) ++ [n % 1024] } }

/-- FAULT_N is asserted: the device is degraded, or the log holds an entry that the owner has not read
(R464). -/
def State.faultPin (s : State) : Bool := s.faults.degraded || !s.faults.unread.isEmpty

end Sys2Proof.Machine
end

