-- ==== Sys2Proof/Machine/Detect.lean ====
section
/-! DEFINITION. The start of a recovery: which events start one, and what a start or a further trigger
notes (R363, R371, R380). -/

namespace Sys2Proof.Machine
open Sys2Proof

/-- The slot of the commit group (R363). -/
def Paddock.commitSlot (d : Paddock) : Nat := d.commit.group.getD 0

/-- The commit group is formed. -/
def Paddock.commitFormed (d : Paddock) : Bool := (d.group d.commitSlot).state == .formed

/-- Own rank, member count and members of the commit group. -/
def Paddock.commitRank (d : Paddock) : Nat := leField (d.group d.commitSlot).definition 8 4
def Paddock.commitCount (d : Paddock) : Nat := (d.group d.commitSlot).members.length
def Paddock.commitAddr (d : Paddock) (r : Nat) : Nat := (d.group d.commitSlot).members.getD r 0

/-- A fresh attempt for a trigger. -/
def Recovery.start (attempt epoch trigger suspect since rank : Nat) : Recovery :=
  { attempt := attempt, epoch := epoch, trigger := trigger, suspect := suspect, since := since,
    leading := false, called := 0, reports := [], fixed := false, failed := [], plan := [], cursor := 0,
    probing := none, restoreStep := 0, nothing := false, replay := none, restoring := false,
    standby := false, rank := rank, restored := [], abandon := none }

/-- Log a recovery event of a paddock's job (R387). -/
def State.logJob (s : State) (p status outcome : Nat) : State :=
  s.log { status := status, cls := .job, unit := p, detection := 8, outcome := outcome, paddock := p
          detail := (s.pad p).obj 0x5821 0, job := (s.pad p).obj 0x5822 0 }

/-- Statuses whose stop starts a recovery (R371). -/
def recoveryStatus (st : Nat) : Bool := st == 0x30 || st == 0x51 || st == 0x70

/-- A trigger at a member (R371). During a recovery it starts a further attempt, and past the limit of
object 0x9007 the job is to be abandoned (R380). A suspect that the trigger does not name is a free
value (log entry 19). -/
def State.detect (s : State) (p trigger : Nat) (suspect : Option Nat) : State :=
  let d := s.pad p
  let (x, s) := match suspect with
    | some a => (a, s)
    | none => ((s.draw).1 % 2 ^ 18, (s.draw).2)
  match d.recovery with
  | none =>
    if d.obj 0x9000 0 = 1 && d.commitFormed && d.active then
      let r := Recovery.start 1 (d.obj 0x5820 0 + 1) trigger x s.now d.commitRank
      (s.setPad p ({ d with recovery := some r }.setObj 0x9001 0 1)).logJob p trigger 4
    else s
  | some r =>
    if r.abandon.isSome then s
    else if d.obj 0x9007 0 ≤ r.attempt then
      s.modPad p fun d => { d with recovery := some { r with abandon := some 0x70 } }
    else
      let n := Recovery.start (r.attempt + 1) (r.epoch + 1) trigger x r.since r.rank
      s.setPad p ({ d with recovery := some { n with standby := r.standby } }.setObj 0x9001 0 1)

/-- A program of the paddock stops: `old` and `new` are its stop before and after (R371). -/
def State.noteStop (s : State) (p : Nat) (old new : Option Stop) : State :=
  match old, new with
  | none, some x => if recoveryStatus x.status then s.detect p x.status none else s
  | _, _ => s

end Sys2Proof.Machine
end

