-- ==== Sys2Proof/Machine/Flags.lean ====
section
/-! DEFINITION. The status codes and how they rank (R101), and the flags and counts of conversions
(R36, R77). -/

namespace Sys2Proof.Machine

/-- Whether a status stops its program (R101). 0x22 stops only with header flag [0]; 0x51 only where
no spare took over, which the caller says. -/
def stops (flags : Nat) (noSpare : Bool) (st : Nat) : Bool :=
  match st with
  | 0x22 => flags.testBit 0
  | 0x51 => noSpare
  | 0x00 => false
  | 0x12 => false
  | 0x20 => false
  | 0x21 => false
  | 0x40 => false
  | 0x41 => false
  | 0x43 => false
  | 0x50 => false
  | _ => true

/-- The run-time rank of a status, 1 the highest (R101). Issue-time statuses, which stand alone, are
given the rank 0. -/
def rank (st : Nat) : Nat :=
  match st with
  | 0x51 => 1 | 0x52 => 2 | 0x30 => 3 | 0x31 => 4 | 0x32 => 5 | 0x33 => 6 | 0x34 => 7 | 0x70 => 8
  | 0x11 => 9 | 0x13 => 10 | 0x42 => 11 | 0x22 => 12 | 0x02 => 13 | 0x21 => 14 | 0x20 => 15
  | 0x12 => 16 | 0x50 => 17 | 0x43 => 18 | 0x41 => 19 | 0x40 => 20 | 0x00 => 21
  | _ => 0

/-- The highest-ranked of a list of statuses; 0x00 for none. -/
def worst (l : List Nat) : Nat := l.foldl (fun a b => if rank b < rank a then b else a) 0

/-- The bit of "statuses seen" in a completion message for each status (R87); none for 0x151, which is 0x51
without a replay on a spare. -/
def seenBit (st : Nat) : Nat :=
  match st with
  | 0x12 => 1 | 0x20 => 2 | 0x21 => 4 | 0x22 => 8 | 0x40 => 16 | 0x41 => 32 | 0x43 => 64
  | 0x50 => 128 | 0x51 => 256
  | _ => 0

def seenMask (l : List Nat) : Nat := l.foldl (fun a b => a ||| seenBit b) 0

/-- The counts of conversion events (R36, R77). -/
structure Counts where
  zeros : Nat := 0
  saturations : Nat := 0
  underflows : Nat := 0
  nonFinite : Nat := 0
  normals : Nat := 0
  deriving DecidableEq, Repr

/-- Count one event. -/
def Counts.add (c : Counts) (e : Event) : Counts :=
  match e with
  | .zero => { c with zeros := c.zeros + 1 }
  | .saturation => { c with saturations := c.saturations + 1 }
  | .underflow => { c with underflows := c.underflows + 1 }
  | .nonFinite => { c with nonFinite := c.nonFinite + 1 }
  | .normal => { c with normals := c.normals + 1 }

def countEvents (l : List Event) : Counts := l.foldl Counts.add {}

/-- Elements converted: the sum of the five counts (R77). -/
def Counts.total (c : Counts) : Nat :=
  c.zeros + c.saturations + c.underflows + c.nonFinite + c.normals

def Counts.merge (a b : Counts) : Counts :=
  { zeros := a.zeros + b.zeros, saturations := a.saturations + b.saturations,
    underflows := a.underflows + b.underflows, nonFinite := a.nonFinite + b.nonFinite,
    normals := a.normals + b.normals }

end Sys2Proof.Machine
end

