-- ==== Sys2Proof/Machine/Operands.lean ====
section
/-! DEFINITION. Instruction records, tensor descriptors, bounds, footprints, and how an operand's
elements are read (R28 to R35, R63 to R69, R88 to R93). -/

namespace Sys2Proof.Machine
open Sys2Proof

/-! ### Instruction records (R88) -/

def parseRec (b : List Byte) : Rec :=
  { opcode := leField b 0 2, flags := leField b 2 1, modifier := leField b 3 1,
    counter := leField b 4 1, reserved := zeroField b 5 3,
    slots := (List.range 8).map fun i => leField b (8 + 2 * i) 2,
    params := (List.range 10).map fun i => leField b (0x18 + 4 * i) 4 }

/-- Operand slot `i`: its descriptor index, or nothing where it is absent. -/
def Rec.slot (r : Rec) (i : Nat) : Option Nat :=
  match r.slots[i]? with
  | some v => if v = 0xFFFF then none else some v
  | none => none

def Rec.p (r : Rec) (i : Nat) : Nat := r.params.getD i 0

/-- A parameter word as an F32. -/
def Rec.pf (r : Rec) (i : Nat) : F32 := BitVec.ofNat 32 (r.p i)

/-! ### Descriptors (R90) -/

structure Desc where
  addr : Nat
  format : Nat
  rank : Nat
  flags : Nat
  hint : Nat
  mode : Nat
  compr : Nat
  exts : List Nat
  strides : List Nat
  ident : Nat
  deriving DecidableEq, Repr

def parseDesc (b : List Byte) : Desc :=
  { addr := leField b 0 8, format := leField b 8 1, rank := leField b 9 1, flags := leField b 10 1,
    hint := leField b 11 1, mode := leField b 12 2, compr := leField b 14 2,
    exts := (List.range 6).map fun i => leField b (0x10 + 4 * i) 4,
    strides := 1 :: (List.range 5).map fun i => leField b (0x28 + 4 * i) 4,
    ident := leField b 0x3C 4 }

/-- The slot of the bound that an extent names, where bit 31 is set. -/
def boundRef (e : Nat) : Option Nat := if e.testBit 31 then some (e % 65536) else none

def Desc.literal (d : Desc) : Bool := d.exts.all fun e => (boundRef e).isNone

def Desc.churn (d : Desc) : Bool := d.compr % 4 == 1

/-- The scale-mode field of an output (R39, R55). -/
def modeOk (f : Fmt) (mode : Nat) : Bool :=
  bitField mode 5 4 < 2 && bitField mode 7 6 == 0 &&
  match f with
  | .f8a | .f8g | .f4b =>
    bitField mode 1 0 != 3 &&
    (if bitField mode 1 0 = 2 then bitField mode 15 8 != 0xFF else bitField mode 15 8 == 0)
  | _ => bitField mode 3 0 == 0 && bitField mode 15 8 == 0

/-- The alignment that a descriptor's address keeps (R90). -/
def Desc.align (d : Desc) (f : Fmt) : Nat :=
  if d.churn then 64 else if f.group > 1 || f.isF8 then 256 else f.bits / 8

/-- What R90 and R34 ask of a descriptor's own fields, the extents left out. `loaded` says whether
codebook slot and generation name a loaded codebook. -/
def Desc.fieldsOk (d : Desc) (output : Bool) (loaded : Nat → Nat → Bool) : Bool :=
  match Fmt.ofCode d.format with
  | none => false
  | some f =>
    d.addr < 2 ^ 48 && d.addr % d.align f == 0 &&
    1 ≤ d.rank && d.rank ≤ 6 && d.flags < 4 && d.hint < 4 &&
    d.compr % 4 < 2 && bitField d.compr 3 2 == 0 && bitField d.compr 7 6 == 0 &&
    (if d.churn then loaded (bitField d.compr 5 4) (bitField d.compr 15 8)
      else bitField d.compr 15 4 == 0) &&
    (d.exts.zipIdx.all fun (e, i) =>
      (!e.testBit 31 || bitField e 30 16 == 0) && (i < d.rank || e == 1)) &&
    (d.strides.zipIdx.all fun (s, i) =>
      i == 0 || ((i < d.rank || s == 0) && (f.group ≤ 1 || s % f.group == 0))) &&
    (!output || (!d.flags.testBit 0 && modeOk f d.mode))

/-! ### Resolved tensors -/

/-- A descriptor with its extents resolved. -/
def Desc.tensor (d : Desc) (ext : List Nat) : Tensor :=
  { addr := d.addr, fmt := (Fmt.ofCode d.format).getD .f32, rank := d.rank, ext := ext,
    str := d.strides, mode := d.mode, compr := d.compr, flags := d.flags, hint := d.hint,
    ident := d.ident }

namespace Tensor

def churn (t : Tensor) : Bool := t.compr % 4 == 1

/-- Extent `i`. -/
def e (t : Tensor) (i : Nat) : Nat := t.ext.getD i 1

def numel (t : Tensor) : Nat := t.ext.foldl (· * ·) 1

def isEmpty (t : Tensor) : Bool := t.ext.any fun e => e == 0

end Tensor

/-- The element offset of an index under strides. -/
def offsetOf : List Nat → List Nat → Nat
  | i :: is, s :: ss => i * s + offsetOf is ss
  | _, _ => 0

/-- The logical index of R41. -/
def logical : List Nat → List Nat → Nat
  | e :: es, i :: is => i + e * logical es is
  | _, _ => 0

/-- Every index in ascending logical index. -/
def allIdx : List Nat → List (List Nat)
  | [] => [[]]
  | e :: es => (allIdx es).flatMap fun t => (List.range e).map fun i => i :: t

/-- Round up to a multiple. -/
def alignUp (n m : Nat) : Nat := (n + m - 1) / m * m

def ceilDiv (n m : Nat) : Nat := (n + m - 1) / m

namespace Tensor

def offset (t : Tensor) (idx : List Nat) : Nat := offsetOf idx t.str

/-- One more than the largest element offset reached. -/
def reach (t : Tensor) : Nat :=
  if t.isEmpty then 0 else offsetOf (t.ext.map (· - 1)) t.str + 1

/-- `span` of R34, R63 and R91. -/
def span (t : Tensor) : Nat :=
  if t.fmt.isF8 then alignUp t.reach 256
  else if t.fmt.group > 1 then alignUp t.reach t.fmt.group else t.reach

/-- The bytes of the element region. -/
def elemBytes (t : Tensor) : Nat := t.span * t.fmt.bits / 8

/-- Where the scale region of a block-scaled tensor starts (R34). -/
def scaleBase (t : Tensor) : Nat := t.addr + alignUp t.elemBytes 256

/-- The footprint of R34. -/
def blockBytes (t : Tensor) : Nat := t.scaleBase - t.addr + t.span / t.fmt.group

/-- Swaths per dimension 0 and 1, then the higher extents (R64). -/
def swathExt (t : Tensor) : List Nat :=
  match t.ext with
  | e0 :: e1 :: rest => ceilDiv e0 64 :: ceilDiv e1 64 :: rest
  | l => l

def nSwath (t : Tensor) : Nat := t.swathExt.foldl (· * ·) 1

/-- The swath number of an index (R64). -/
def swathOf (t : Tensor) (idx : List Nat) : Nat :=
  match idx with
  | i0 :: i1 :: rest => logical t.swathExt (i0 / 64 :: i1 / 64 :: rest)
  | _ => 0

/-- The indices of one swath, dimension 0 fastest. -/
def swathIdx (t : Tensor) (c : List Nat) : List (List Nat) :=
  match c with
  | s0 :: s1 :: rest =>
    (List.range (min 64 (t.e 1 - 64 * s1))).flatMap fun j =>
      (List.range (min 64 (t.e 0 - 64 * s0))).map fun i => (64 * s0 + i) :: (64 * s1 + j) :: rest
  | _ => []

/-- Where the scale record starts (R63). -/
def recordBase (t : Tensor) : Nat :=
  if t.fmt.isF8 then t.addr + t.span else t.addr + alignUp t.blockBytes 256

/-- The address of a swath word. -/
def wordAddr (t : Tensor) (n : Nat) : Nat := t.recordBase + 64 + 8 * n

/-- Bytes of the scale record. -/
def recordBytes (t : Tensor) : Nat := if t.fmt.isF8 then 64 + 8 * t.nSwath else 64

/-- The length of the byte stream of R192. -/
def stream (t : Tensor) : Nat := t.numel * (t.fmt.bits / 8)

/-- Churn blocks of a tensor (R192). -/
def churnBlocks (t : Tensor) : Nat := ceilDiv t.stream 4096

/-- The header, the index table and the scale record copy: the offset of the block region (R199). -/
def churnBytes (t : Tensor) : Nat :=
  64 + alignUp (8 * t.churnBlocks) 64 + (if t.fmt.isF8 then alignUp t.recordBytes 64 else 0)

/-- Dense strides (R201). -/
def dense (t : Tensor) : Bool :=
  (List.range 5).all fun k => k + 1 ≥ t.rank || t.str.getD (k + 1) 0 == t.e k * t.str.getD k 0

/-- The footprint in bytes (R91). -/
def footprint (t : Tensor) : Nat :=
  if t.churn then t.churnBytes
  else if t.fmt.isF8 then t.span + t.recordBytes
  else if t.fmt = .f4b then t.recordBase + 64 - t.addr
  else if t.fmt.group > 1 then t.blockBytes
  else t.elemBytes

/-- The footprint of an input, which for a Churn-format tensor its header gives (R201). -/
def footprintIn (t : Tensor) (rd : Nat → Byte) : Nat :=
  if t.churn then
    leNat ((List.range 8).map fun i => rd (t.addr + 0x10 + i)) +
      leNat ((List.range 8).map fun i => rd (t.addr + 0x18 + i))
  else t.footprint

/-- The scale source of an output (R55). -/
def source (t : Tensor) : Nat := bitField t.mode 1 0

def margin (t : Tensor) : Nat := bitField t.mode 3 2

def stochastic (t : Tensor) : Bool := bitField t.mode 5 4 == 1

/-- The output stride rule of R90. -/
def strideOk (t : Tensor) : Bool :=
  (List.range 5).all fun k =>
    let d := k + 1
    t.e d ≤ 1 ||
      (let below := if k = 0 then 1 else t.str.getD k 0
       decide (t.e k * (if below = 0 then 1 else below) ≤ t.str.getD d 0) &&
         decide (0 < t.str.getD d 0))

end Tensor

/-! ### Reading elements -/

/-- A reader of bytes at addresses. -/
abbrev Reader_ := Nat → Byte

def readLe (rd : Reader_) (a n : Nat) : Nat := leNat ((List.range n).map fun i => rd (a + i))

namespace Tensor

/-- The code of the element at an element offset (R34). -/
def code (t : Tensor) (rd : Reader_) (o : Nat) : Nat :=
  if t.fmt.bits = 4 then
    let b := (rd (t.addr + o / 2)).toNat
    if o % 2 = 0 then b % 16 else b / 16
  else readLe rd (t.addr + o * (t.fmt.bits / 8)) (t.fmt.bits / 8)

/-- The header byte T (R65). -/
def headT (t : Tensor) (rd : Reader_) : Nat := (rd t.recordBase).toNat

/-- Header flag [0], for a tensor that has a scale record. -/
def headValid (t : Tensor) (rd : Reader_) : Bool := (rd (t.recordBase + 3)).toNat.testBit 0

/-- The e_max field as a signed number. -/
def headEmax (t : Tensor) (rd : Reader_) : Int :=
  let v := readLe rd (t.recordBase + 4) 2
  if v < 32768 then v else (v : Int) - 65536

def hasRecord (t : Tensor) : Bool := t.fmt.isF8 || t.fmt == .f4b

/-- The signed adjustment of a swath word (R66). -/
def adjustment (w : Nat) : Int :=
  let v := w % 65536
  if v < 32768 then v else (v : Int) - 65536

/-- The value of one element (R33, R67, R68). -/
def valAt (t : Tensor) (rd : Reader_) (slots : List Fallback) (idx : List Nat) : Val :=
  let o := t.offset idx
  let c := t.code rd o
  match t.fmt with
  | .f8a | .f8g =>
    let T := t.headT rd
    if T = 0xFF then .nan
    else
      let wa := t.wordAddr (t.swathOf idx)
      let w := readLe rd wa 8
      let k : Int := (T : Int) - 127 + adjustment w
      if w.testBit 17 then
        match slots.find? fun f => f.slot == w >>> 32 && f.word == wa with
        | some f =>
          ((Fmt.f16).elemVal (f.codes.getD (idx.getD 0 0 % 64 + 64 * (idx.getD 1 0 % 64)) 0)).scale k
        | none => .nan
      else (t.fmt.elemVal c).scale k
  | .f4b =>
    let T := t.headT rd
    let g := (rd (t.scaleBase + o / 32)).toNat
    if T = 0xFF || g = 0xFF then .nan
    else (t.fmt.elemVal c).scale ((g : Int) - 127 + ((T : Int) - 127))
  | .g16 | .carry8 =>
    let g := (rd (t.scaleBase + o / 256)).toNat
    if g = 0xFF then .nan
    else (t.fmt.elemVal c).scale ((g : Int) - 127)
  | f => f.elemVal c

/-- Every value, by logical index. -/
def vals (t : Tensor) (rd : Reader_) (slots : List Fallback) : Array Val :=
  ((allIdx t.ext).map (t.valAt rd slots)).toArray

/-- Every element code, by logical index. -/
def codes (t : Tensor) (rd : Reader_) : Array Nat :=
  ((allIdx t.ext).map fun i => t.code rd (t.offset i)).toArray

/-- Every value widened exactly to F32 (R469). -/
def widened (t : Tensor) (rd : Reader_) (slots : List Fallback) : Array F32 :=
  ((allIdx t.ext).map fun i => F32.ofVal (t.valAt rd slots i)).toArray

end Tensor

/-- The element at an index, where a dimension of extent 1 broadcasts (R104, R133). -/
def pick {α : Type} (a : Array α) (z : α) (ext idx : List Nat) : α :=
  (a[logical ext (List.zipWith (fun e i => if e = 1 then 0 else i) ext idx)]?).getD z

/-! ### Bounds (R92) -/

/-- What reading a bound gives: a value, or the status of its failure. -/
inductive Bound where
  | value (v : Nat)
  | fails (status : Nat)
  deriving DecidableEq, Repr

/-- The 8-byte word of a bound slot, where there is one (R92). -/
def boundWord (s : State) (p slot : Nat) : Option Nat :=
  let d := s.pad p
  if slot < 16 then some (d.obj 0xA003 slot)
  else if slot - 16 < d.obj 0xA005 0 then
    some (leNat (s.bytesAt p (d.obj 0xA004 0 + 8 * (slot - 16)) 8))
  else none

/-- The value of a bound word against its limit (R92). -/
def boundValue (w : Nat) : Bound :=
  let v := w % 2 ^ 32
  let l := min (w >>> 32) 0x7FFFFFFF
  if v ≤ l then .value v else .fails 0x02

/-- The word lies among bytes that an uncorrectable error has taken (R92, R241). -/
def boundBad (d : Paddock) (slot : Nat) : Bool :=
  let a := d.obj 0xA004 0 + 8 * (slot - 16)
  decide (16 ≤ slot) && d.bad.any fun x => decide (a < x.1 + x.2.1) && decide (x.1 < a + 8)

def readBound (s : State) (p slot : Nat) : Bound :=
  match boundWord s p slot with
  | none => .fails 0x05
  | some w => if boundBad (s.pad p) slot then .fails 0x05 else boundValue w

/-- Whether a bound slot lies in the bound table, outside the paddock (R97). -/
def boundOutside (s : State) (p slot : Nat) : Bool :=
  16 ≤ slot && slot - 16 < (s.pad p).obj 0xA005 0
    && !touchesAny ((s.pad p).obj 0xA004 0 + 8 * (slot - 16)) 8

/-- The bound slots a descriptor names. -/
def Desc.bounds (d : Desc) : List Nat := d.exts.filterMap boundRef

/-- The extents with every bound replaced by its value; 0 where it has none. -/
def Desc.resolve (d : Desc) (s : State) (p : Nat) : List Nat :=
  d.exts.map fun e =>
    match boundRef e with
    | none => e
    | some b => match readBound s p b with | .value v => v | .fails _ => 0

end Sys2Proof.Machine
end

