-- ==== Sys2Proof/Machine/Plan.lean ====
section
/-! DEFINITION. The plan of an instruction: tile sizes, loop orders, the resident operand, the units in their
order, and the jobs of a unit (R109 to R125, R136, R177, R178, R471). -/

namespace Sys2Proof.Machine
open Sys2Proof

/-! ### The gather of an input patch (R177, R178) -/

/-- The taps that a range of k touches lie within 7 consecutive values of each filter dimension. -/
def Gather.narrow (g : Gather) (k0 k1 : Nat) : Bool :=
  let t0 := k0 / max 1 g.cin
  let t1 := (k1 - 1) / max 1 g.cin
  let near := fun (f : Nat → Nat) =>
    let l := (List.range (t1 - t0 + 1)).map fun i => f (t0 + i)
    decide (l.foldl max 0 - l.foldl min (l.headD 0) < 7)
  near (fun t => t % max 1 g.kw) && near (fun t => t / max 1 g.kw % max 1 g.kh)
    && near (fun t => t / max 1 (g.kw * g.kh))

/-- A filter wider than 7 in a dimension runs in passes. -/
def Gather.wide (g : Gather) : Bool := decide (7 < g.kw) || decide (7 < g.kh) || decide (7 < g.kd)

/-! ### Tile sizes (R114) -/

namespace Product

/-- The chunk length C (R43). -/
def chunk (x : Product) : Nat := if x.rate = 2 then 64 else 32

/-- The longest k-slice: 512, 1,024 or 2,048. -/
def sliceMax (x : Product) : Nat := 2048 / max 1 x.rate

def nseg (x : Product) : Nat := max 1 (ceilDiv x.k 4096)

/-- The plot store that a T1 tile takes: its operands twice, and per output element the F32 partial result, which is
the top of the segment stack, with the entries below it (R114, R117; DEDUCED, log entry 135). -/
def t1Bytes (x : Product) (n m slice : Nat) : Nat :=
  2 * ((n * x.bBits + m * x.aBits) * slice / 8) + 4 * n * m * (1 + Nat.log2 x.nseg)

/-- The plot store for T1 tiles. -/
def t1Room (x : Product) : Nat := 2883584 - x.plotShare

/-- Halve a size until it passes, no further than a floor. -/
def halve (ok : Nat → Bool) (low : Nat) : Nat → Nat → Nat
  | 0, v => v
  | fuel + 1, v => if ok v || v / 2 < low then v else halve ok low fuel (v / 2)

/-- The T1 tile: n, m and the k-slice. m is halved down to 64 before n is, and n before the k-slice (R114; DESIGN
CHOICE, log entry 135). -/
def t1 (x : Product) : Nat × Nat × Nat :=
  let fits := fun (n m s : Nat) => decide (x.t1Bytes n m s ≤ x.t1Room)
  let s := x.sliceMax
  let m := halve (fun m => fits 256 m s) 64 3 512
  let n := halve (fun n => fits n m s) 64 2 256
  (n, m, halve (fun s => fits n m s) x.chunk 6 s)

def slice (x : Product) : Nat := x.t1.2.2

/-- The strip store that a T2 tile takes: the k-slices of both operands twice. -/
def t2Bytes (x : Product) (n m : Nat) : Nat := 2 * ((n * x.bBits + m * x.aBits) * x.slice / 8)

/-- The T2 tile, halved in the same way where retained blocks leave less of the strip store (R114, R230; DESIGN
CHOICE, log entry 135). -/
def t2 (x : Product) : Nat × Nat :=
  let fits := fun (n m : Nat) => decide (x.t2Bytes n m ≤ 8388608 - x.stripShare)
  let m := halve (fun m => fits 1024 m) x.t1.2.1 5 2048
  (halve (fun n => fits n m) x.t1.1 4 1024, m)

/-- The order of T2 tiles where an operand lies in CXL: whether m varies fastest, so that each staged part of B
serves every T2 tile that needs it (R118). -/
def t3MFirst (x : Product) : Bool := x.bCxl && !x.aCxl

/-! ### The enumeration order (R124) -/

/-- A tile within a grid of quads: its corner, its size, and the place that is left. -/
structure Spot where
  x : Nat
  y : Nat
  w : Nat
  h : Nat
  rest : Nat
  deriving DecidableEq, Repr

/-- The tile of `tn` by `tm` quads in a grid of `w` by `h` that place `i` falls into, n fastest. -/
def spot (w h tn tm i : Nat) : Spot :=
  let row := i / max 1 (w * tm)
  let th := min tm (h - row * tm)
  let j := i - row * tm * w
  let col := j / max 1 (tn * th)
  { x := col * tn, y := row * tm, w := min tn (w - col * tn), h := th, rest := j - col * tn * th }

/-- A quad: its place in n and m, its higher index, and the corners of its T2 tile and its T1 tile, with the size of
the T1 tile in quads. -/
structure Quad where
  n : Nat
  m : Nat
  higher : Nat
  t2 : Nat × Nat
  t1 : Nat × Nat
  w : Nat
  h : Nat
  deriving DecidableEq, Repr

def quadsN (x : Product) : Nat := ceilDiv x.n 128
def quadsM (x : Product) : Nat := ceilDiv x.m 128

/-- The quad of a number: T2 tile by T2 tile, T1 tile by T1 tile, quad by quad, n fastest, then m, then the higher
dimensions. Where units are single swaths, `n` and `m` count swaths. -/
def quadAt (x : Product) (i : Nat) : Quad :=
  if x.single then
    let n := i % max 1 (ceilDiv x.n 64)
    let m := i / max 1 (ceilDiv x.n 64) % max 1 (ceilDiv x.m 64)
    { n := n, m := m, higher := i / max 1 (ceilDiv x.n 64 * ceilDiv x.m 64), t2 := (n / 2, m / 2), t1 := (n / 2, m / 2),
      w := 1, h := 1 }
  else
  let per := max 1 (x.quadsN * x.quadsM)
  let a := spot x.quadsN x.quadsM (max 1 (x.t2.1 / 128)) (max 1 (x.t2.2 / 128)) (i % per)
  let b := spot a.w a.h (max 1 (x.t1.1 / 128)) (max 1 (x.t1.2.1 / 128)) a.rest
  let n := a.x + b.x
  let m := a.y + b.y
  { n := n + b.rest % max 1 b.w, m := m + b.rest / max 1 b.w, higher := i / per, t2 := (a.x, a.y), t1 := (n, m),
    w := b.w, h := b.h }

/-! ### The resident operand and the loop order (R118, R119) -/

/-- Swaths that exist among `q` quads from place `p` of an extent. -/
def swathsIn (e p q : Nat) : Nat := min (2 * q) (ceilDiv e 64 - 2 * p)

/-- B is resident. An operand delivered transposed is; of two, and of none, the one with the greater reuse in the
T1 tile. -/
def bResident (x : Product) (q : Quad) : Bool :=
  if x.aTurned != x.bTurned then x.bTurned
  else decide (swathsIn x.n q.t1.1 q.w ≤ swathsIn x.m q.t1.2 q.h)

/-- The swaths of a quad, in the order in which a k-slice runs over them: n outside m where B is resident, m outside
n where A is. Both orders have k outside (R118; DESIGN CHOICE, log entry 135). -/
def swaths (x : Product) (q : Quad) : List (Nat × Nat) :=
  if x.single then [(q.n, q.m)]
  else
  let ns := (List.range (swathsIn x.n q.n 1)).map (2 * q.n + ·)
  let ms := (List.range (swathsIn x.m q.m 1)).map (2 * q.m + ·)
  if x.bResident q then ns.flatMap fun a => ms.map fun b => (a, b)
  else ms.flatMap fun b => ns.map fun a => (a, b)

/-! ### k-slices and passes (R116, R178) -/

/-- Grow a pass chunk by chunk, as far as its taps allow. -/
def growPass (x : Product) (g : Gather) (k top : Nat) : Nat → Nat → Nat
  | 0, e => e
  | fuel + 1, e =>
    let e' := min top (e + x.chunk)
    if e < top && g.narrow k e' then growPass x g k top fuel e' else e

/-- Where the k-slice that begins at `k` ends. Each k-slice of a wide filter is a pass of its own (R178). -/
def sliceEnd (x : Product) (k hi : Nat) : Nat :=
  let top := min hi ((k / x.slice + 1) * x.slice)
  match x.gather with
  | some g => if g.wide then growPass x g k top 64 (min top (k + x.chunk)) else top
  | none => top

/-- Where slice `j` of a range begins. -/
def sliceStart (x : Product) (lo hi : Nat) : Nat → Nat
  | 0 => lo
  | j + 1 => x.sliceEnd (sliceStart x lo hi j) hi

/-- How many slices a range has. -/
def slices (x : Product) (lo hi : Nat) : Nat :=
  match x.gather with
  | some g => if g.wide then go lo hi (ceilDiv (hi - lo) x.chunk) else max 1 (ceilDiv (hi - lo) x.slice)
  | none => max 1 (ceilDiv (hi - lo) x.slice)
where
  /-- Count the passes. -/
  go (k hi : Nat) : Nat → Nat
    | 0 => 0
    | fuel + 1 => if hi ≤ k then 0 else 1 + go (x.sliceEnd k hi) hi fuel

/-! ### The jobs of a quad or of a segment of it -/

/-- The read request of an operand's slice for one block of 64 rows. -/
def loadA (x : Product) (b k0 k1 : Nat) : Load :=
  let bytes := 64 * (k1 - k0) * x.aBits / 8
  match x.gather with
  | none => { bytes := bytes, turned := x.aTurned, cxl := x.aCxl }
  | some g =>
    let taps := (k1 - 1) / max 1 g.cin - k0 / max 1 g.cin + 1
    { bytes := bytes, cxl := x.aCxl
      gather := min 64 (x.m - 64 * b) * taps * max 3 (ceilDiv (g.cin * g.bits) 512) + if g.wide then 64 else 0 }

def loadB (x : Product) (k0 k1 : Nat) : Load :=
  { bytes := 64 * (k1 - k0) * x.bBits / 8, turned := x.bTurned, cxl := x.bCxl }

/-- The number of a swath in the output's swath order, n fastest. -/
def swathNumber (x : Product) (q : Quad) (s : Nat × Nat) : Nat :=
  s.1 + ceilDiv x.n 64 * (s.2 + ceilDiv x.m 64 * q.higher)

/-- Live elements of a swath, and its elements in the written window. -/
def elements (x : Product) (s : Nat × Nat) : Nat := min 64 (x.n - 64 * s.1) * min 64 (x.m - 64 * s.2)
def written (x : Product) (s : Nat × Nat) : Nat :=
  min 64 (x.n - 64 * s.1) * (min (min x.m x.hi) (64 * s.2 + 64) - max x.lo (64 * s.2))

/-- Additions that join segment `i` to the stack, and those that end it after `n` segments (R117). -/
def joins : Nat → Nat → Nat
  | 0, _ => 0
  | fuel + 1, i => if i % 2 = 1 then 1 + joins fuel (i / 2) else 0
def ending : Nat → Nat → Nat
  | 0, _ => 0
  | fuel + 1, n => n % 2 + ending fuel (n / 2)

end Product

/-- Retries of a swath, and whether it was rescaled and fell back, in the low half of its word (R68). -/
def wordRetries (w : Nat) : Nat := w / 2 ^ 18 % 4
def wordRescaled (w : Nat) : Bool := w.testBit 16
def wordFallback (w : Nat) : Bool := w.testBit 17

/-! ### Units of a list (R121, R124, R125) -/

/-- What a number in a strip's list stands for. -/
inductive UnitKind where
  | skim
  | whole (i : Nat)
  | segment (i s : Nat)
  deriving DecidableEq, Repr

/-- Quads at the end of a share that become segment units. -/
def ListPhase.splits (f : ListPhase) : Nat :=
  if !f.work.split && 2 ≤ f.work.segs && f.work.segs ≤ 4 then min 32 f.share else 0

def ListPhase.total (f : ListPhase) : Nat := f.skim + f.share + f.splits * (f.work.segs - 1)

def ListPhase.kindOf (f : ListPhase) (u : Nat) : UnitKind :=
  let g := max 1 f.work.segs
  let v := u - f.skim
  let whole := f.share - f.splits
  if u < f.skim then .skim
  else if f.work.split then .segment ((f.first + v) / g) ((f.first + v) % g)
  else if v < whole then .whole (f.first + v)
  else .segment (f.first + whole + (v - whole) / g) ((v - whole) % g)

/-! ### Jobs -/

/-- A job with nothing in it. -/
def PlotJob.blank (u : Started) (pace : Nat) : PlotJob :=
  { unit := u, slice := 0, swath := 0, loads := [], wait := 0, expand := 0, blocks := [], array := 0, rate := 0, masked := 0, sixteen := 0, live := true,
    vector := 0, compact := 0, stores := [], out := false, tiles := 0, endsSlice := false, endsSegment := false, endsUnit := false,
    pace := pace, skims := false, combines := false }

/-- Cut bytes into requests of 64 KiB. -/
def requestsOf (n : Nat) : List Nat := (List.range (ceilDiv n 65536)).map fun i => min 65536 (n - 65536 * i)

/-- Part `i` of `n` in `p` equal parts, the first ones a unit larger. -/
def evenPart (n p i : Nat) : Nat := n / max 1 p + if i < n % max 1 p then 1 else 0

/-- Jobs of a unit of known cost: one for each 64 KiB that it loads. -/
def Cost.jobs (c : Cost) : Nat := max 1 (ceilDiv c.loads 524288)

def Cost.scale (c : Cost) (n : Nat) : Cost :=
  { c with loads := n * c.loads, cxl := n * c.cxl, ops := n * c.ops, stores := n * c.stores, counted := n * c.counted }

def Cost.plus (a b : Cost) : Cost :=
  { loads := a.loads + b.loads, cxl := a.cxl + b.cxl, ops := a.ops + b.ops, stores := a.stores + b.stores
    array := a.array + b.array, rate := max a.rate b.rate, expand := a.expand + b.expand, compact := a.compact + b.compact
    blocks := (List.range (max a.blocks.length b.blocks.length)).map fun i => a.blocks.getD i 0 + b.blocks.getD i 0
    out := a.out || b.out, part := a.part || b.part, tiles := a.tiles + b.tiles, masked := a.masked + b.masked
    sixteen := a.sixteen + b.sixteen, counted := a.counted + b.counted }

def Cost.sum (l : List Cost) : Cost := l.foldl Cost.plus {}

/-- PlotJob `i` of such a unit: it writes once it has computed everything (R113). -/
def Cost.job (c : Cost) (u : Started) (pace : Nat) (skims writes : Bool) (i : Nat) : PlotJob :=
  let p := c.jobs
  let last := i + 1 == p
  let bytes := min 65536 (c.loads / 8 - 65536 * i)
  { PlotJob.blank u pace with
    slice := i
    loads := if c.loads = 0 then [] else [{ bytes := bytes, cxl := decide (c.loads ≤ 2 * c.cxl) }]
    expand := evenPart c.expand p i
    blocks := c.blocks.map fun n => evenPart n p i
    array := evenPart c.array p i
    rate := c.rate
    masked := evenPart c.masked p i
    sixteen := evenPart c.sixteen p i
    vector := evenPart (ceilDiv c.ops 256) p i
    compact := evenPart c.compact p i
    stores := if last && writes then requestsOf (c.stores / 8) else []
    out := c.out
    tiles := evenPart c.tiles p i
    endsUnit := last
    skims := skims }

/-- The cost of unit `i` of a shape other than a product. -/
def Shape.cost (x : Shape) (i : Nat) : Cost :=
  match x with
  | .product _ => {}
  | .patch e0 e1 c =>
    let w := max 1 (ceilDiv e0 256)
    let h := max 1 (ceilDiv e1 16)
    c.scale (min 256 (e0 - 256 * (i % w)) * min 16 (e1 - 16 * (i / w % h)))
  | .rows len count c r =>
    let n := if 4096 < len then 1 else min 16 (count - 16 * i)
    (c.scale (len * n)).plus (r.scale n)
  | .listed l => l.getD i {}

/-- What is left to run of a quad's swaths after the first attempt: each swath once per retry (R70). -/
def Work.again (w : Work) (x : Product) (q : Product.Quad) : List (Nat × Nat) :=
  (x.swaths q).flatMap fun s => List.replicate (wordRetries (w.words.getD (x.swathNumber q s) 0)) s

/-- The range of k of a unit of a product. -/
def Product.rangeOf (x : Product) (k : UnitKind) : Nat × Nat :=
  match k with
  | .segment _ s => (4096 * s, min x.k (4096 * s + 4096))
  | _ => (0, x.k)

/-- Jobs of a unit of a product: the tiles of every k-slice, then those of the swaths that run again. -/
def Product.jobCount (x : Product) (w : Work) (k : UnitKind) : Nat :=
  match k with
  | .skim => w.skimCost.jobs
  | .whole i =>
    let q := x.quadAt i
    x.slices 0 x.k * ((x.swaths q).length + (w.again x q).length)
  | .segment i s =>
    x.slices (4096 * s) (min x.k (4096 * s + 4096)) * (x.swaths (x.quadAt i)).length

/-- PlotJob `j` of a unit of a product. -/
def Product.job (x : Product) (w : Work) (u : Started) (k : UnitKind) (j : Nat) : PlotJob :=
  let i := match k with | .whole i => i | .segment i _ => i | .skim => 0
  let q := x.quadAt i
  let (lo, hi) := x.rangeOf k
  let ss := x.swaths q
  let ns := x.slices lo hi
  let again := w.again x q
  let main := decide (j < ns * ss.length)
  let r := j - ns * ss.length
  let t := if main then j / max 1 ss.length else r % max 1 ns
  let p := if main then j % max 1 ss.length else r / max 1 ns
  let l := if main then ss else again
  let s := l.getD p (0, 0)
  let k0 := x.sliceStart lo hi t
  let k1 := x.sliceEnd k0 hi
  let bRes := x.bResident q
  let fresh := !main || p = 0 || (if bRes then (l.getD (p - 1) (0, 0)).1 != s.1 else (l.getD (p - 1) (0, 0)).2 != s.2)
  let a := x.loadA s.2 k0 k1
  let b := x.loadB k0 k1
  let endsSeg := t + 1 == ns || k1 % 4096 == 0
  let ends := t + 1 == ns
  let seg := match k with | .segment .. => true | _ => false
  let final := ends && !seg && (if main then !again.contains s else again.getD (p + 1) (0, 0) != s)
  let n := x.nseg
  let sums := if seg || !endsSeg then 0
    else Product.joins 32 (k0 / 4096) + if ends then Product.ending 32 n - 1 else 0
  let out := x.written s
  { PlotJob.blank u 0 with
    slice := t
    swath := p
    loads := if bRes then (if fresh then [b, a] else [a]) else (if fresh then [a, b] else [b])
    array := ceilDiv (x.rate * (k1 - k0)) 2
    rate := x.rate
    masked := if x.elements s < 4096 then ceilDiv (x.rate * (k1 - k0)) 2 else 0
    live := (seg || (if main then !again.contains s else again.getD (p + 1) (0, 0) != s)) && decide (0 < out)
    vector := 16 * (1 + sums + if ends && !seg then x.post else 0)
    stores := if seg then (if ends then [16384] else []) else if final && 0 < out then requestsOf (out * x.outBits / 8) else []
    out := x.outCxl
    tiles := 1
    endsSlice := main && p + 1 == ss.length
    endsSegment := endsSeg
    endsUnit := j + 1 == x.jobCount w k }

/-- The engine that paces a unit, by the event class and the opcode of its instruction (R412). -/
def paceOf (cls opcode : Nat) (skims : Bool) : Nat :=
  if skims then 1
  else if cls = 16 || cls = 17 then 0
  else if opcode = 0x0028 then 2
  else if opcode = 0x0029 then 3
  else 1

/-- Jobs of a unit of a phase. -/
def ListPhase.jobCount (f : ListPhase) (u : Nat) : Nat :=
  match f.kindOf u, f.work.shape with
  | .skim, _ => f.work.skimCost.jobs
  | k, .product x => max 1 (x.jobCount f.work k)
  | .whole i, x => (x.cost i).jobs
  | .segment i _, x => (x.cost i).jobs

/-- PlotJob `j` of a started unit. -/
def ListPhase.job (f : ListPhase) (u : Started) (cls opcode j : Nat) : PlotJob :=
  match f.kindOf u.unit, f.work.shape with
  | .skim, _ => f.work.skimCost.job u (paceOf cls opcode true) true false j
  | k, .product x => { x.job f.work u k j with pace := paceOf cls opcode false, endsUnit := j + 1 == f.jobCount u.unit }
  | .whole i, x => (x.cost i).job u (paceOf cls opcode false) f.work.measures (!f.work.measures) j
  | .segment i _, x => (x.cost i).job u (paceOf cls opcode false) f.work.measures (!f.work.measures) j

/-- The job at which a unit's plot asks for the next one: the first of its last k-slice, or the one with its last
read (R112). -/
def ListPhase.asks (f : ListPhase) (u : Nat) : Nat :=
  match f.kindOf u, f.work.shape with
  | .skim, _ => f.work.skimCost.jobs - 1
  | k, .product x =>
    let i := match k with | .whole i => i | .segment i _ => i | .skim => 0
    let (lo, hi) := x.rangeOf k
    (x.slices lo hi - 1) * (x.swaths (x.quadAt i)).length
  | _, _ => f.jobCount u - 1

end Sys2Proof.Machine
end

