-- ==== Sys2Proof/Machine/Pool.lean ====
section
/-! DEFINITION. The page pool of the key-value cache: its layout, page-state words, header, turns and
readers (R162 to R168, R172). -/

namespace Sys2Proof.Machine
open Sys2Proof

/-- A page-state word (R164). -/
structure PageWord where
  count : Nat
  free : Bool
  pend : Bool
  stamp : Nat
  deriving DecidableEq, Repr

/-- A pool as a turn sees it: its place, its page states and its header. -/
structure Pool where
  base : Nat
  pages : Nat
  words : List PageWord
  free : Nat
  pend : Nat
  epoch : Nat
  deriving DecidableEq, Repr

/-- The footprint of a pool of `n` pages, and the offset of its header (R163). -/
def poolFoot (n : Nat) : Nat := 33032 * n + 64

def pageAddr (base n : Nat) : Nat := base + 32768 * n
def slotAddr (base pages n : Nat) : Nat := base + 32768 * pages + 256 * n
def stateAddr (base pages n : Nat) : Nat := base + 33024 * pages + 8 * n
def poolHeader (base pages : Nat) : Nat := base + 33032 * pages

def pageWord (v : Nat) : PageWord :=
  { count := v % 65536, free := v.testBit 16, pend := v.testBit 17, stamp := v >>> 32 }

def PageWord.code (w : PageWord) : Nat :=
  w.count + (if w.free then 2 ^ 16 else 0) + (if w.pend then 2 ^ 17 else 0) + w.stamp * 2 ^ 32

/-- The difference of two stamps, read as i32, is at least 0. -/
def stampReached (s e : Nat) : Bool := (s + 2 ^ 32 - e) % 2 ^ 32 < 2 ^ 31

/-- The pending pages that no reader may still see become free (R172). -/
def Pool.test (o : Pool) (readers : List Reader) : Pool :=
  let rs := readers.filter fun r => r.pool == o.base
  let go := fun (w : PageWord) => w.pend && !(rs.any fun r => stampReached w.stamp r.epoch)
  let n := (o.words.filter go).length
  { o with
    words := o.words.map fun w => if go w then { w with free := true, pend := false } else w
    free := (o.free + n) % 2 ^ 32
    pend := (o.pend + 2 ^ 32 - n) % 2 ^ 32 }

/-- The pool as it lies in memory, initialised where its flag is clear (R165). -/
def loadPool (s : State) (p base pages : Nat) : Pool :=
  let rd := s.byteAt p
  let h := poolHeader base pages
  if (rd (h + 0x10)).toNat.testBit 0 then
    { base := base, pages := pages
      words := (List.range pages).map fun i => pageWord (readLe rd (stateAddr base pages i) 8)
      free := readLe rd (h + 4) 4, pend := readLe rd (h + 8) 4, epoch := readLe rd (h + 0xC) 4 }
  else
    { base := base, pages := pages, words := List.replicate pages ⟨0, true, false, 0⟩
      free := pages, pend := 0, epoch := 0 }

/-- A turn begins: the pool, with its pending pages tested (R168, R172). -/
def openPool (s : State) (p base pages : Nat) : Pool :=
  (loadPool s p base pages).test (s.pad p).readers

/-- Write a pool's states and header back. -/
def storePool (s : State) (p : Nat) (o : Pool) : State :=
  let h := poolHeader o.base o.pages
  plainWrite s p
    ((o.words.zipIdx.flatMap fun (w, i) => placeAt (stateAddr o.base o.pages i) (leBytes 8 w.code))
      ++ placeAt (h + 4) (leBytes 4 o.free) ++ placeAt (h + 8) (leBytes 4 o.pend)
      ++ placeAt (h + 0xC) (leBytes 4 o.epoch) ++ placeAt (h + 0x10) [1#8])

/-- Lower a page's count by one; at 0 it becomes pending (R172). -/
def Pool.release (o : Pool) (n : Nat) : Pool :=
  match o.words[n]? with
  | none => o
  | some w =>
    if w.count = 0 then o
    else if w.count = 1 then
      { o with
        words := o.words.set n { w with count := 0, pend := true, stamp := o.epoch }
        pend := (o.pend + 1) % 2 ^ 32, epoch := (o.epoch + 1) % 2 ^ 32 }
    else { o with words := o.words.set n { w with count := w.count - 1 } }

/-- Raise a page's count by one. -/
def Pool.share (o : Pool) (n : Nat) : Pool :=
  { o with words := o.words.modify n fun w => { w with count := w.count + 1 } }

/-- The lowest-numbered free page, taken at count 1. -/
def Pool.take (o : Pool) : Option (Nat × Pool) :=
  match o.words.findIdx? (·.free) with
  | none => none
  | some n =>
    some (n, { o with
      words := o.words.modify n fun w => { w with count := 1, free := false, pend := false }
      free := (o.free + 2 ^ 32 - 1) % 2 ^ 32 })

def Pool.countOf (o : Pool) (n : Nat) : Nat := match o.words[n]? with | some w => w.count | none => 0

/-- A reader leaves: the pending pages of its pool are tested (R172). -/
def leavePool (s : State) (p : Nat) (r : Reader) : State :=
  let s := s.modPad p fun d => { d with readers := d.readers.filter fun x => x != r }
  storePool s p ((loadPool s p r.pool r.pages).test (s.pad p).readers)

/-! ### Page tables (R166) -/

/-- The offset of the table header. -/
def tableHeader (t : Tensor) : Nat := t.addr + alignUp (4 * t.span) 256

def tableFoot (t : Tensor) : Nat := tableHeader t + 64 - t.addr

def tablePool (rd : Reader_) (t : Tensor) : Nat := readLe rd (tableHeader t) 8

def tableLayer (rd : Reader_) (t : Tensor) : Nat := readLe rd (tableHeader t + 8) 4

def entryAddr (t : Tensor) (i b g : Nat) : Nat := t.addr + 4 * t.offset [i, b, g]

def entryAt (rd : Reader_) (t : Tensor) (i b g : Nat) : Nat := readLe rd (entryAddr t i b g) 4

/-- The page count of the pool at a base whose header a paddock holds: the least count that the
header at its own place names. DEDUCED, log entry 11. -/
def poolPages (s : State) (p base : Nat) : Option Nat :=
  match (s.pad p).allocOf base 1 with
  | none => none
  | some (_, a) =>
    (List.range ((a.base + a.len - base) / 33032 + 1)).find? fun n =>
      n != 0 && poolFoot n ≤ a.base + a.len - base
        && readLe (s.byteAt p) (poolHeader base n) 4 == n

end Sys2Proof.Machine
end

