-- ==== Sys2Proof/Machine/Scale.lean ====
section
/-! DEFINITION. How an operation's F32 results are written into an output: scale choice, swath retry,
fallback, scale records and counts (R36 to R41, R56 to R73, R77). -/

namespace Sys2Proof.Machine
open Sys2Proof

def clampInt (lo hi x : Int) : Int := max lo (min hi x)

/-- The top binade of a format (R58). -/
def topBinade : Fmt → Int
  | .f8a => 8
  | .f8g => 15
  | .f4b => 2
  | .f16 => 15
  | _ => 0

/-- The fit exponent of a magnitude (R58); the rounding's random bits play no part in it. -/
def tNeed (m : Val) (f : Fmt) (stochastic : Bool) : Int :=
  match m.expo with
  | none => 0
  | some e =>
    let x := m.abs.scale (topBinade f - e)
    let (_, ev) := f.layout.convert x (if stochastic then .stochastic 0 else .nearest)
    if ev = .saturation then e - topBinade f + 1 else e - topBinade f

/-- The larger magnitude of two finite values. -/
def largerMag (a b : Val) : Val := if a.abs.cmp b.abs == some .lt then b.abs else a.abs

/-- The largest magnitude among the finite values; zero where there is none (R59, R70). -/
def maxFiniteMag (l : List Val) : Val :=
  l.foldl (fun a v => if v.nonFinite then a else largerMag a v) Val.zero

/-- How an output's tensor exponent is obtained (R56). -/
inductive Way where
  /-- From the values about to be written (R59). -/
  | measured
  /-- Predicted as `P` of R61, with retries (R70). -/
  | predicted (p : Int)
  /-- A given tensor scale byte, without retry (R57, R326). -/
  | fixed (t : Int)
  deriving DecidableEq, Repr

/-- What writing one output gives. -/
structure Written where
  bytes : List (Nat × Byte)
  events : List Event
  t : Nat := 0
  emax : Int := -32768
  rescaled : Nat := 0
  fallbacks : Nat := 0
  nonFinite : Bool := false
  exhausted : Bool := false
  pool : List Fallback
  /-- The largest number of slots held at once (R82). -/
  peak : Nat := 0
  deriving Repr

/-- The output with no element. -/
def Written.none (pool : List Fallback) : Written := { bytes := [], events := [], pool := pool }

/-- How one output is to be written: its rounding seed, the pool's size, the elements that are live
(R141), and the way to its scale. -/
structure OutSpec where
  seed : Word64
  poolSize : Nat
  live : List Nat → Bool
  way : Way
  /-- The words of swaths that are not written (R141). -/
  oldWord : Nat → Nat := fun _ => 0

/-- The rounding of one element (R39, R41). -/
def roundingOf (t : Tensor) (seed : Word64) (idx : List Nat) : Rounding :=
  if t.stochastic then .stochastic (srBits seed t.ident (logical t.ext idx)) else .nearest

/-- The lowest-numbered slot that is free. -/
def freeSlot (size : Nat) (pool : List Fallback) : Option Nat :=
  (List.range (min size (pool.length + 1))).find? fun i => pool.all fun f => f.slot != i

/-- The bytes of an element code at an element offset, for formats of a whole byte or more. -/
def codeBytes (t : Tensor) (o c : Nat) : List (Nat × Byte) :=
  placeAt (t.addr + o * (t.fmt.bits / 8)) (leBytes (t.fmt.bits / 8) c)

/-- Bits of an i16. -/
def i16 (x : Int) : Nat := (x % 65536).toNat

/-- The larger e_max (R65). -/
def maxExp (a : Int) (v : Val) : Int :=
  if v.nonFinite then a else match v.expo with | some e => max a e | none => a

/-- The scale-record header (R65). -/
def headerBytes (t : Tensor) (T emaxBits rescaled fallbacks : Nat) (nonFinite : Bool) : List Byte :=
  let flags := 1 + (if 0 < rescaled then 2 else 0) + (if 0 < fallbacks then 4 else 0)
    + (if nonFinite then 8 else 0)
  leBytes 1 T ++ leBytes 1 t.fmt.code ++ leBytes 1 t.source ++ leBytes 1 flags ++ leBytes 2 emaxBits
    ++ leBytes 2 0 ++ leBytes 4 (if t.fmt.isF8 then t.nSwath else 0) ++ leBytes 4 rescaled
    ++ leBytes 4 fallbacks ++ leBytes 4 t.ident ++ leBytes 40 0

/-- The state of the retry of one swath (R70). -/
structure Retry where
  a : Int
  n : Nat
  fallback : Bool
  deriving Repr, DecidableEq

/-- The retry loop of R70. `saturates` says whether any element saturates at an exponent; the fuel
bounds the two retries and the fallback. -/
def retryLoop (t : Int) (saturates : Int → Bool) (need needF16 : Int) : Nat → Int → Nat → Retry
  | 0, a, n => { a := a, n := n, fallback := false }
  | f + 1, a, n =>
    if !saturates (t + a) then { a := a, n := n, fallback := false }
    else if n = 2 || t + a = 127 then
      { a := clampInt (-127) 127 needF16 - t, n := n, fallback := true }
    else retryLoop t saturates need needF16 f (min (a + min (need - (t + a)) 8) (127 - t)) (n + 1)

/-- What converting one swath gives. -/
structure SwathOut where
  bytes : List (Nat × Byte)
  events : List Event
  word : Nat
  emax : Int
  nonFinite : Bool
  fallback : Option (List Nat)
  rescaled : Bool

/-- Convert one swath at tensor exponent `t` (R66 to R70). `retry` is off for measured and fixed
scales. -/
def swathOut (o : Tensor) (sp : OutSpec) (t : Int) (retry : Bool) (val : List Nat → Val)
    (idxs : List (List Nat)) : SwathOut :=
  let l := o.fmt.layout
  let vs := idxs.map fun i => (i, val i)
  let conv := fun (l : Layout) (k : Int) (x : List Nat × Val) =>
    l.convert (x.2.scale (-k)) (roundingOf o sp.seed x.1)
  let saturates := fun (k : Int) => vs.any fun x => (conv l k x).2 == .saturation
  let m := maxFiniteMag (vs.map (·.2))
  let r := if retry then
      retryLoop t saturates (tNeed m o.fmt o.stochastic) (tNeed m .f16 o.stochastic) 4 0 0
    else { a := 0, n := 0, fallback := false }
  let nf := vs.any fun x => x.2.nonFinite
  let lay := if r.fallback then Fmt.f16.layout else l
  let cs := vs.map fun x => (x.1, conv lay (t + r.a) x)
  let em := cs.foldl (fun a x => maxExp a ((lay.decode x.2.1).scale (t + r.a))) (-32768 : Int)
  let word := i16 r.a + (if 0 < r.n then 2 ^ 16 else 0) + (if r.fallback then 2 ^ 17 else 0)
    + r.n * 2 ^ 18 + (if nf then 2 ^ 20 else 0)
  { bytes := cs.flatMap fun x => codeBytes o (o.offset x.1) (if r.fallback then 0 else x.2.1)
    events := cs.map fun x => x.2.2
    word := word, emax := em, nonFinite := nf, rescaled := 0 < r.n
    fallback := if r.fallback then
        some ((List.range 4096).map fun k =>
          ((cs.find? fun x => x.1.getD 0 0 % 64 == k % 64 && x.1.getD 1 0 % 64 == k / 64).map
            fun x => x.2.1).getD 0)
      else none }

/-- Fold one swath's outcome into the output, taking a slot where it fell back and then returning the one
its word held (R73). A swath that finds no slot counts as a fallback swath all the same (DESIGN CHOICE, log
entry 114). -/
def addSwath (o : Tensor) (size : Nat) (w : Written) (n : Nat) (x : SwathOut) : Written :=
  let wa := o.wordAddr n
  let base : Written := { w with
    bytes := w.bytes ++ x.bytes, events := w.events ++ x.events, emax := max w.emax x.emax,
    nonFinite := w.nonFinite || x.nonFinite,
    rescaled := w.rescaled + (if x.rescaled then 1 else 0) }
  match x.fallback with
  | none =>
    { base with
      bytes := base.bytes ++ placeAt wa (leBytes 8 x.word)
      pool := w.pool.filter fun f => f.word != wa }
  | some cs =>
    match freeSlot size w.pool with
    | some k =>
      { base with
        bytes := base.bytes ++ placeAt wa (leBytes 8 (x.word + k * 2 ^ 32))
        fallbacks := base.fallbacks + 1
        peak := max w.peak (w.pool.length + 1)
        pool := { slot := k, word := wa, codes := cs } :: w.pool.filter fun f => f.word != wa }
    | none =>
      { base with
        bytes := base.bytes ++ (List.range 8).map fun i => (wa + i, Config.freeByte (wa + i))
        fallbacks := base.fallbacks + 1
        exhausted := true
        pool := w.pool.filter fun f => f.word != wa }

/-- The tensor exponent of an output from its way, source and margin (R57, R59, R61). -/
def exponentOf (o : Tensor) (way : Way) (m : Val) : Int :=
  match way with
  | .fixed t => t
  | .predicted p =>
    match o.source with
    | 0 => 0
    | 2 => (bitField o.mode 15 8 : Int) - 127
    | _ => clampInt (-127) 127 (p - topBinade o.fmt + o.margin)
  | .measured =>
    match o.source with
    | 0 => 0
    | 2 => (bitField o.mode 15 8 : Int) - 127
    | _ => if m.isZero then 0 else clampInt (-127) 127 (tNeed m o.fmt o.stochastic + o.margin)

/-- Whether the exponent is the device's choice by prediction, so that R70 applies. -/
def retries (o : Tensor) (way : Way) : Bool :=
  match way with
  | .predicted _ => o.source == 1
  | _ => false

/-- An F8A or F8G output. Where only a part of it is live, the header covers the kept swaths as log entry 113
says (DESIGN CHOICE). -/
def writeF8 (o : Tensor) (sp : OutSpec) (vs : Array Val) (pool : List Fallback) : Written :=
  let val := fun i => (vs[logical o.ext i]?).getD Val.zero
  let liveIdx := (allIdx o.ext).filter sp.live
  let t := exponentOf o sp.way (maxFiniteMag (liveIdx.map val))
  let w := (allIdx o.swathExt).foldl (fun (w : Written) c =>
    let idxs := (o.swathIdx c).filter sp.live
    if idxs.isEmpty then w
    else addSwath o sp.poolSize w (logical o.swathExt c) (swathOut o sp t (retries o sp.way) val idxs))
    (Written.none pool)
  let T := if w.exhausted then 0xFF else (t + 127).toNat
  let kept := (((allIdx o.swathExt).filter fun c => ((o.swathIdx c).filter sp.live).isEmpty).map
    fun c => sp.oldWord (logical o.swathExt c))
  let among := fun (b : Nat) => (kept.filter fun x => x.testBit b).length
  { w with
    t := T
    bytes := w.bytes ++ placeAt o.recordBase
      (headerBytes o T (i16 w.emax) (w.rescaled + among 16) (w.fallbacks + among 17)
        (w.nonFinite || 0 < among 20)) }

/-- The indices of one scale group: `g` consecutive indices of dimension 0 from `g × k`. -/
def groupIdx (o : Tensor) (g k : Nat) (rest : List Nat) : List (List Nat) :=
  (List.range (min g (o.e 0 - g * k))).map fun i => (g * k + i) :: rest

/-- Every scale group of an output: its number along dimension 0 and its higher indices. -/
def groups (o : Tensor) (g : Nat) : List (Nat × List Nat) :=
  match o.ext with
  | e0 :: rest => (allIdx rest).flatMap fun r => (List.range (ceilDiv e0 g)).map fun k => (k, r)
  | [] => []

/-- The bytes of one F4B scale group: 16 bytes of elements, padding zero, and the scale byte. -/
def f4bGroup (o : Tensor) (o0 : Nat) (cs : List Nat) (s : Nat) : List (Nat × Byte) :=
  let c := fun i => cs.getD i 0
  (List.range 16).map (fun i => (o.addr + (o0 / 2 + i), BitVec.ofNat 8 (c (2 * i) + 16 * c (2 * i + 1))))
    ++ [(o.scaleBase + o0 / 32, BitVec.ofNat 8 s)]

/-- An F4B output (R60). -/
def writeF4B (o : Tensor) (sp : OutSpec) (vs : Array Val) (pool : List Fallback) : Written :=
  let val := fun i => (vs[logical o.ext i]?).getD Val.zero
  let t := exponentOf o sp.way (maxFiniteMag ((allIdx o.ext).map val))
  let l := Fmt.f4b.layout
  let w := (groups o 32).foldl (fun (w : Written) (k, rest) =>
    let idxs := groupIdx o 32 k rest
    let xs := idxs.map fun i => (i, val i)
    let o0 := o.offset ((32 * k) :: rest)
    if xs.any fun x => x.2.nonFinite then
      { w with bytes := w.bytes ++ f4bGroup o o0 [] 0xFF, nonFinite := true
               events := w.events ++ xs.map fun _ => .nonFinite }
    else
      let m := maxFiniteMag (xs.map (·.2))
      let sg : Int := if m.isZero then 0 else clampInt (-127) 127 (tNeed m .f4b o.stochastic - t)
      let cs := xs.map fun x => l.convert (x.2.scale (-(t + sg))) (roundingOf o sp.seed x.1)
      { w with
        bytes := w.bytes ++ f4bGroup o o0 (cs.map (·.1)) (sg + 127).toNat
        events := w.events ++ cs.map (·.2)
        emax := cs.foldl (fun a c => maxExp a ((l.decode c.1).scale (t + sg))) w.emax })
    (Written.none pool)
  let T := (t + 127).toNat
  { w with
    t := T
    bytes := w.bytes ++ placeAt o.recordBase (headerBytes o T (i16 w.emax) 0 0 w.nonFinite) }

/-- The G16 encoding of one scale group (R38): the scale byte and the BF16 codes. -/
def encG16 (xs : List Val) : Nat × List Nat :=
  if xs.any Val.nonFinite then (0xFF, xs.map fun _ => 0x7FC0)
  else
    let m := maxFiniteMag xs
    let k : Int := match m.expo with | some e => max (-126) (min 127 e) | none => 0
    ((k + 127).toNat, xs.map fun x => (Fmt.bf16.layout.convert (x.scale (-k)) .nearest).1)

/-- Some scale groups of a G16 output from F32 values, padding written as zero (R34, R38). -/
def writeG16On (gs : List (Nat × List Nat)) (o : Tensor) (vs : Array Val) (pool : List Fallback) :
    Written :=
  let val := fun i => (F32.ofVal ((vs[logical o.ext i]?).getD Val.zero)).val
  { Written.none pool with
    bytes := gs.flatMap fun (k, rest) =>
      let (s, cs) := encG16 ((groupIdx o 256 k rest).map val)
      let o0 := o.offset ((256 * k) :: rest)
      (List.range 256).flatMap (fun i => placeAt (o.addr + 2 * (o0 + i)) (leBytes 2 (cs.getD i 0)))
        ++ [(o.scaleBase + o0 / 256, BitVec.ofNat 8 s)]
    nonFinite := gs.any fun (k, rest) => (groupIdx o 256 k rest).any fun i => (val i).nonFinite }

/-- A G16 output. -/
def writeG16 (o : Tensor) (vs : Array Val) (pool : List Fallback) : Written :=
  writeG16On (groups o 256) o vs pool

/-- An output without scale: F32, F16, BF16 or an integer format. -/
def writePlain (o : Tensor) (sp : OutSpec) (vs : Array Val) (pool : List Fallback) : Written :=
  let xs := ((allIdx o.ext).filter sp.live).map fun i => (i, (vs[logical o.ext i]?).getD Val.zero)
  match o.fmt with
  | .f32 =>
    { Written.none pool with
      bytes := xs.flatMap fun x => codeBytes o (o.offset x.1) (F32.ofVal x.2).toNat
      nonFinite := xs.any fun x => !(F32.ofVal x.2).finite }
  | f =>
    let cs := xs.map fun x => (x.1,
      if f.isInt then f.convertInt x.2 else f.layout.convert x.2 (roundingOf o sp.seed x.1))
    { Written.none pool with
      bytes := cs.flatMap fun x => codeBytes o (o.offset x.1) x.2.1
      events := cs.map fun x => x.2.2
      nonFinite := xs.any fun x => x.2.nonFinite }

/-- Write an output of exact values, by logical index. -/
def writeVals (o : Tensor) (sp : OutSpec) (vs : Array Val) (pool : List Fallback) : Written :=
  match o.fmt with
  | .f8a | .f8g => writeF8 o sp vs pool
  | .f4b => writeF4B o sp vs pool
  | .g16 => writeG16 o vs pool
  | _ => writePlain o sp vs pool

/-- Write an output of F32 results, by logical index. -/
def writeOut (o : Tensor) (sp : OutSpec) (rs : Array F32) (pool : List Fallback) : Written :=
  writeVals o sp (rs.map F32.val) pool

/-- Statuses of one written output (R45, R72). -/
def Written.statuses (w : Written) : List Nat :=
  (if w.exhausted then [0x13] else []) ++ (if w.nonFinite then [0x22] else [])
    ++ (if 0 < w.fallbacks then [0x21] else if 0 < w.rescaled then [0x20] else [])

/-! ### The prediction of R61 -/

/-- `⌈⌈log2 n⌉ / 2⌉`. -/
def lambda (n : Nat) : Int :=
  let c := if n ≤ 1 then 0 else Nat.log2 (n - 1) + 1
  ((c + 1) / 2 : Nat)

/-- `e_x` of an operand (R61): from its header, or from its largest finite magnitude. -/
def operandExp (x : Tensor) (rd : Reader_) (vals : Unit → List Val) : Int :=
  if x.hasRecord then
    let e := x.headEmax rd
    if e = -32768 then -150 else e
  else match (maxFiniteMag (vals ())).expo with
    | some e => e
    | none => -150

end Sys2Proof.Machine
end

