-- ==== Sys2Proof/Machine/Silo.lean ====
section
/-! DEFINITION. Silo's books: charge and quota, the residency of off-loadable blocks, eviction, and
what the records of the lookahead read (R210 to R222, R224, R225). -/

namespace Sys2Proof.Machine
open Sys2Proof

/-- Bytes of an HBM block (R210). -/
def blockSize : Nat := 32768

/-- The operand slots that an opcode writes (R102 to R105, R107). -/
def outputSlots (opcode modifier : Nat) : List Nat :=
  match opcode with
  | 0x0009 => [0, 1]
  | 0x000B => [0, 1]
  | 0x000D => [0, 2]
  | 0x0010 => [0, 5]
  | 0x0011 => [0, 1, 2]
  | 0x0012 => [0, 1, 4]
  | 0x0019 => [0, 1, 2]
  | 0x0028 => if modifier = 0 then [0] else []
  | 0x0030 => if modifier = 4 then [] else [0]
  | 0x0031 => [0, 3]
  | 0x0038 => [0, 1, 2, 4, 5, 6]
  | 0x0039 => [1]
  | 0x0040 => [0, 2]
  | 0x0041 => if modifier = 0 then [0, 2] else []
  | 0x0049 => [0, 3]
  | 0x0050 => []
  | 0x0051 => []
  | 0x0052 => []
  | 0x0053 => []
  | _ => [0]

/-! ### The charge (R212) -/

def Paddock.fixedBlocks (d : Paddock) : Nat :=
  (d.allocs.map fun e => if e.2.kind = 0 then e.2.len / blockSize else 0).foldl (· + ·) 0

/-- Committed blocks of a paddock. -/
def State.committed (s : State) (p : Nat) : Nat :=
  (s.pad p).fixedBlocks + s.areaBlocks p + s.obj 0x4011 p + ceilDiv ((s.pad p).obj 0x6040 0) 4

/-- Whether a block in this place takes an HBM block (R217). -/
def Place.inHbm (w : Place) : Bool := w == .resident || w == .offloading || w == .fetching

/-- Blocks of one off-loadable allocation in HBM (R217). -/
def Alloc.residentBlocks (a : Alloc) : Nat := (a.blocks.filter fun b => b.place.inHbm).length

def Paddock.residentBlocks (d : Paddock) : Nat :=
  (d.allocs.map fun e => e.2.residentBlocks).foldl (· + ·) 0

/-- The fresh blocks that the running recompute programs write into (R222). -/
def Paddock.freshBlocks (d : Paddock) : Nat :=
  (d.allocs.map fun e => if e.2.saved.isSome then e.2.len / blockSize else 0).foldl (· + ·) 0

def Paddock.transientBlocks (d : Paddock) : Nat :=
  (d.flights.map fun f => if f.due then 0 else f.area).foldl (· + ·) 0

def State.charge (s : State) (p : Nat) : Nat :=
  s.committed p + (s.pad p).residentBlocks + (s.pad p).freshBlocks + (s.pad p).transientBlocks

def State.quota (s : State) (p : Nat) : Nat := s.obj 0x4010 p

def State.freeQuota (s : State) (p : Nat) : Nat := s.quota p - s.charge p

/-- CXL bytes charged to a paddock (R233). -/
def Paddock.cxlCharged (d : Paddock) : Nat :=
  (d.allocs.map fun e => if e.2.kind = 1 || e.2.kind = 2 then e.2.len else 0).foldl (· + ·) 0

/-! ### The lookahead (R221) -/

/-- The bytes of a program's body, read without regard to their allocation. -/
def bodyAt (s : State) (p : Nat) (pr : Program) (o n : Nat) : List Byte :=
  match pr.body with
  | .inline bs => sliceBytes bs o n
  | .byRef a => s.bytesAt p (a + o) n

/-- The gradients that accumulate (R103). -/
def gradReads (r : Rec) : List Nat :=
  (if r.modifier.testBit 3 then [0] else []) ++ (if r.modifier.testBit 2 then [1] else [])

/-- Output slots of a record whose old content it reads too (R102 to R107). -/
def readBack (r : Rec) : List Nat :=
  match r.opcode with
  | 0x0008 => if r.modifier.testBit 0 then [0] else []
  | 0x0009 | 0x000B => gradReads r
  | 0x0012 => [0, 1, 4]
  | 0x0013 => [0]
  | 0x0014 => [0]
  | 0x0038 => [0, 1, 2, 4, 5]
  | 0x0041 => [2]
  | _ => []

/-- The input footprints of one record that has not issued: address and length. -/
def recordInputs (s : State) (p : Nat) (pr : Program) (k : Nat) : List (Nat × Nat) :=
  let r := parseRec (bodyAt s p pr (64 * k) 64)
  (List.range 8).filterMap fun i =>
    match r.slot i with
    | none => none
    | some q =>
      if ((outputSlots r.opcode r.modifier).contains i && !(readBack r).contains i) || pr.nD ≤ q then none
      else
        let d := parseDesc (bodyAt s p pr (64 * (pr.nI + q)) 64)
        let t := d.tensor (d.resolve s p)
        some (t.addr, t.footprintIn (s.byteAt p))

/-- The records of every active program that have come within its lookahead enter it, after those in it
already, and those that have issued leave it. -/
def Paddock.lookIn (d : Paddock) : Paddock :=
  let go := fun (pr : Program) => pr.active && pr.stop.isNone
  let new := (d.programs.filter go).flatMap fun pr =>
    (List.range (min (d.obj 0x4025 0) (pr.nI - pr.next))).filterMap fun k =>
      if pr.entered ≤ pr.next + k then some (pr.serial, pr.next + k) else none
  let waits := fun (x : Nat × Nat) => d.programs.any fun pr => go pr && pr.serial == x.1 && decide (pr.next ≤ x.2)
  { d with
    ahead := d.ahead.filter waits ++ new
    programs := d.programs.map fun pr =>
      if go pr then
        { pr with entered := max pr.entered (pr.next + min (d.obj 0x4025 0) (pr.nI - pr.next)) } else pr }

/-- The input footprints of the records in the lookahead, in the order of their entry (R221, R329). -/
def State.lookahead (s : State) (p : Nat) : List (Nat × Nat) :=
  (s.pad p).ahead.flatMap fun x =>
    match (s.pad p).programs.find? fun pr => pr.serial == x.1 with
    | some pr => recordInputs s p pr x.2
    | none => []

/-- The allocations that the lookahead reads. -/
def State.wanted (s : State) (p : Nat) : List Nat :=
  ((s.lookahead p).filterMap fun x => ((s.pad p).allocOf x.1 x.2).map (·.1)).eraseDups

/-! ### Eviction (R219, R220) -/

/-- The class of an allocation in the eviction order. -/
def Alloc.evictRank (a : Alloc) : Nat :=
  if a.spent then 0 else if a.hint = 2 || a.hint = 3 then 1 else 2

/-- A block lies in a range. -/
def blockMeets (a : Alloc) (b : Block) (x n : Nat) : Bool :=
  let lo := a.base + blockSize * b.index
  decide (0 < n) && decide (x < lo + blockSize) && decide (lo < x + n)

/-- The candidates of R219 in their order: allocation entry and block index. `own` is the footprints of an
instruction that issues now. -/
def State.candidates (s : State) (p : Nat) (own : List Span := []) : List (Nat × Nat) :=
  let d := s.pad p
  let wanted := s.wanted p
  let as := d.allocs.filter fun e =>
    e.2.kind == 1 && !e.2.releasing && e.2.hint != 1 && !wanted.contains e.1
  let le := fun (x y : Nat × Alloc) =>
    let kx := (x.2.evictRank, x.2.lastAccess, x.2.base)
    let ky := (y.2.evictRank, y.2.lastAccess, y.2.base)
    decide (kx.1 < ky.1) || (kx.1 == ky.1 &&
      (decide (kx.2.1 < ky.2.1) || (kx.2.1 == ky.2.1 && decide (kx.2.2 ≤ ky.2.2))))
  (sortBy le as).flatMap fun e =>
    (e.2.blocks.filter fun b =>
        b.place == .resident && !(own.any fun x => blockMeets e.2 b x.addr x.len)
          && !(d.flights.any fun f => f.spans.any fun x => blockMeets e.2 b x.addr x.len)).reverse.map fun b => (e.1, b.index)

def Alloc.modBlock (a : Alloc) (i : Nat) (f : Block → Block) : Alloc :=
  { a with blocks := modWhere a.blocks (fun b => b.index == i) f }

/-- Change one block of an allocation. -/
def Paddock.modBlock (d : Paddock) (j i : Nat) (f : Block → Block) : Paddock :=
  d.modAlloc j fun a => a.modBlock i f

/-- The stored bytes of a block (R217). -/
def Block.stored (b : Block) : Nat := b.held.getD blockSize

/-- Put one block into CXL whole: a clean one is dropped without a transfer (R220). -/
def Paddock.evict (d : Paddock) (j i : Nat) : Paddock :=
  let clean : Bool := match d.alloc j with
    | some a => (a.blocks.find? fun b => b.index == i).any (·.clean)
    | none => false
  let d := d.modAlloc j fun a => a.modBlock i fun b => { b with place := .offloaded, clean := true }
  let d := d.addObj 0x4026 0 1
  if clean then d.addObj 0x4028 0 1 else d

/-- Start the off-load of one block: a clean one leaves at once. -/
def startOffload (d : Paddock) (j i : Nat) : Paddock :=
  let clean := (d.alloc j).any fun a => a.blocks.any fun b => b.index == i && b.clean
  if clean then d.evict j i
  else
    { d.modBlock j i (fun b => { b with place := .offloading, order := d.moves }) with moves := d.moves + 1 }

/-- Blocks whose off-load is under way. -/
def Paddock.offloading (d : Paddock) : Nat :=
  (d.allocs.map fun e => (e.2.blocks.filter fun b => b.place == .offloading).length).foldl (· + ·) 0

/-- Start the off-loads that `need` more blocks lack beyond those under way, as far as there are candidates. -/
def State.startLack (s : State) (p need : Nat) (own : List Span := []) : State :=
  if !s.tiers.cxlPresent then s
  else
    let lack := need - (s.freeQuota p + (s.pad p).offloading)
    s.modPad p fun d => ((s.candidates p own).take lack).foldl (fun d c => startOffload d c.1 c.2) d

/-- Room for `need` more blocks under the quota: there, or to come from off-loads, which start as R219 orders.
Nothing where no candidate and no off-load in flight is left. -/
def State.makeRoom (s : State) (p need : Nat) (own : List Span := []) : Option State :=
  if need ≤ s.freeQuota p then some s
  else
    let t := s.startLack p need own
    if need ≤ t.freeQuota p || 0 < (t.pad p).offloading then some t else none

/-! ### Accesses (R216, R218, R220, R221) -/

/-- Bytes that two ranges share. -/
def sharedBytes (a n b m : Nat) : Nat := min (a + n) (b + m) - max a b

/-- A write of a tensor leaves no byte of a range as it was. -/
def Tensor.fills (t : Tensor) (lo n : Nat) : Bool :=
  if t.churn then t.addr ≤ lo && lo + n ≤ t.addr + t.churnBytes
  else
    let inside := fun (i : List Nat) =>
      let b := 8 * t.addr + t.offset i * t.fmt.bits
      decide (8 * lo ≤ b) && decide (b < 8 * (lo + n))
    let bits := ((allIdx t.ext).filter inside).length * t.fmt.bits
    let scales := if t.fmt.group > 1 then sharedBytes t.scaleBase (t.span / t.fmt.group) lo n else 0
    let record := if t.hasRecord then sharedBytes t.recordBase t.recordBytes lo n else 0
    8 * n == bits + 8 * (scales + record)

/-- An access of an instruction: its range, the element size where it writes a held activation (R190), and which
ranges it writes without keeping a byte of them. -/
structure Access where
  span : Span
  elem : Option Nat
  fills : Nat → Nat → Bool

/-- The access writes every byte of block `i` of an allocation and reads nothing of it (R220). -/
def Access.whole (x : Access) (a : Alloc) (i : Nat) : Bool :=
  !x.span.read && x.fills (a.base + blockSize * i) blockSize

/-- Blocks of an allocation that a range covers. -/
def coveredBlocks (a : Alloc) (x n : Nat) : List Nat :=
  (List.range (ceilDiv a.len blockSize)).filter fun i =>
    blockMeets a ⟨i, .resident, false, none, none, 0⟩ x n

/-- Blocks that an access would newly charge: a write takes blocks that are not mapped, or lost or in CXL where it
covers them whole, and any other access fetches those in CXL (R216, R220, R221). -/
def newBlocks (a : Alloc) (x : Access) : List Nat :=
  (coveredBlocks a x.span.addr x.span.len).filter fun i =>
    match a.blocks.find? fun b => b.index == i with
    | none => x.span.write
    | some b => b.place == .offloaded || (x.span.write && b.place == .lost && x.whole a i)

/-- Insert a block, by index. -/
def insertBlock (l : List Block) (b : Block) : List Block :=
  match l with
  | [] => [b]
  | x :: r => if b.index < x.index then b :: x :: r else if b.index = x.index then b :: r
    else x :: insertBlock r b

/-- The blocks of an off-loadable allocation after a write. One that is not mapped, or that the write covers whole
outside HBM, awaits a fresh block; one in HBM is plain and no longer clean; one in CXL that the write covers in part
waits for its fetch and is not clean after it (R208, R216, R220). -/
def writtenBlocks (a : Alloc) (x : Access) (order : Nat) : List Block :=
  (coveredBlocks a x.span.addr x.span.len).foldl (fun l i =>
    let fresh := fun (w : Place) => ({ index := i, place := w, clean := false, held := none, elem := x.elem
                                       order := order } : Block)
    match l.find? fun b => b.index == i with
    | none => insertBlock l (fresh .awaited)
    | some b =>
      if x.whole a i then insertBlock l (fresh (if b.place.inHbm then .resident else .awaited))
      else if b.place == .resident || b.place == .offloading then insertBlock l (fresh .resident)
      else insertBlock l { b with clean := false, elem := x.elem }) a.blocks

/-- A tensor's codebook stays in use while a block is in held form (R197, R208). -/
def Alloc.settleHeld (a : Alloc) : Alloc :=
  { a with heldSlot := if a.blocks.any fun b => b.held.isSome then a.heldSlot else none }

/-- A write of an off-loadable allocation. -/
def Alloc.written_ (a : Alloc) (x : Access) (order : Nat) : Alloc :=
  { a with written := true, blocks := writtenBlocks a x order }.settleHeld

/-- Mark an access of an allocation at this device time (R213, R218). -/
def Alloc.touch (a : Alloc) (us : Nat) (by_ : Option Nat) : Alloc :=
  { a with lastAccess := us, spent := false, lastBy := by_ }

/-- The blocks an instruction's operands need beyond what is charged, each counted once. -/
def needFor (s : State) (p : Nat) (l : List Access) : Nat :=
  (l.flatMap fun x =>
    match (s.pad p).allocOf x.span.addr x.span.len with
    | some (j, a) => if a.kind = 1 then (newBlocks a x).map fun i => (j, i) else []
    | none => []).eraseDups.length

/-- A range meets a block in this place. -/
def Alloc.reads (a : Alloc) (x n : Nat) (w : Place) : Bool :=
  a.blocks.any fun b => b.place == w && blockMeets a b x n

/-- Every mapped block of a range is in HBM. -/
def Alloc.arrived (a : Alloc) (x n : Nat) : Bool :=
  !(a.reads x n .offloaded || a.reads x n .fetching || a.reads x n .lost)

/-- Copies in the staging area that a write meets are copies no longer (R224). -/
def Paddock.dropStaged (d : Paddock) (a n : Nat) : Paddock :=
  { d with staged := d.staged.filter fun x => sharedBytes a n x.addr x.len == 0 }

/-- A write of a lost home copy restores it where it covers the block (R229). -/
def Alloc.rehome (a : Alloc) (x : Access) : Alloc :=
  { a with homeLost := a.homeLost.filter fun i => !x.fills (a.base + blockSize * i) blockSize }

/-- Note the accesses of an instruction that issues now: the time, whether a deadline is met, and what writes do
to blocks and to staged copies (R221, R222). -/
def noteAccess (s : State) (p : Nat) (l : List Access) : State :=
  l.foldl (fun s x =>
    let y := x.span
    match (s.pad p).allocOf y.addr y.len with
    | none => s
    | some (j, a) =>
      s.modPad p fun d =>
        let o := d.moves
        let by_ := some d.nextFlight
        let d := if a.kind = 1 && y.read && a.wanted && a.arrived y.addr y.len then d.addObj 0x4029 0 1 else d
        let d := if y.write && a.kind = 2 then d.dropStaged y.addr y.len else d
        { d.modAlloc j (fun a =>
            let a := a.touch s.nowUs by_
            let a := if y.read && a.kind = 1 then
                { a with wanted := (a.wanted || a.reads y.addr y.len .offloaded) && !a.arrived y.addr y.len } else a
            if !y.write then a else if a.kind = 1 then a.written_ x o else a.rehome x) with moves := o + 1 }) s

/-- Whether an instruction has an operand in the CXL window (R224). -/
def usesCxl (l : List Span) : Bool := l.any fun x => touches .cxl x.addr x.len

/-! ### Waiting for room (R219) -/

/-- What a flight still waits for: its transient area, or a block of an allocation. -/
inductive Need where
  | area (blocks : Nat)
  | block (entry index : Nat)
  deriving DecidableEq, Repr

def Need.blocks : Need → Nat
  | .area n => n
  | .block _ _ => 1

/-- The area and the blocks that a flight has not been granted. A recompute program writes into blocks of its own. -/
def needsOf (d : Paddock) (f : Flight) : List Need :=
  let own := d.programs.any fun pr => pr.serial == f.prog && pr.recompute.isSome
  (if f.due then [Need.area f.area] else []) ++ f.spans.flatMap fun x =>
    if own && !x.read then []
    else d.allocs.flatMap fun e =>
      if e.2.kind = 1 then
        (e.2.blocks.filter fun b => (b.place == .awaited || b.place == .offloaded)
          && blockMeets e.2 b x.addr x.len).map fun b => .block e.1 b.index
      else []

/-- Grant one need where the free quota holds it: a block in CXL starts its fetch. -/
def grantOne (p n : Nat) (s : State) (x : Need) : State :=
  if s.freeQuota p < x.blocks then s
  else s.modPad p fun d =>
    match x with
    | .area _ => { d with flights := modWhere d.flights (fun f => f.serial == n) fun f => { f with due := false } }
    | .block j i =>
      { d.modBlock j i fun b =>
          if b.place == .awaited then { b with place := .resident }
          else if b.place == .offloaded then { b with place := .fetching, order := d.moves } else b with
        moves := d.moves + 1 }

/-- The µs that a flight has waited for blocks are counted once it waits no longer (R219, R242). -/
def noteWait (now : Nat) (d : Paddock) (n : Nat) : Paddock :=
  match d.flights.find? fun f => f.serial == n with
  | none => d
  | some f =>
    let put := fun (d : Paddock) (t : Option Nat) =>
      { d with flights := modWhere d.flights (fun f => f.serial == n) fun f => { f with dueSince := t } }
    match (needsOf d f).isEmpty, f.dueSince with
    | true, some t => put (d.addObj 0x402D 0 ((now - t) / 1000)) none
    | false, none => put d (some now)
    | _, _ => d

/-- Grant what the flights wait for, the oldest flight first. -/
def State.serveNeeds (s : State) (p : Nat) : State :=
  (s.pad p).flights.foldl (fun s f => (needsOf (s.pad p) f).foldl (grantOne p f.serial) s) s

/-- A flight that still needs a block, with no candidate and no off-load in flight, returns 0x13; the blocks it
awaited are not mapped. -/
def refuseNeeds (d : Paddock) (f : Flight) : Paddock :=
  let l := needsOf d f
  if l.isEmpty then d
  else
    let d := l.foldl (fun (d : Paddock) x => match x with
      | .area _ => d
      | .block j i =>
        match d.alloc j with
        | none => d
        | some a =>
          if a.blocks.any fun b => b.index == i && b.place == .awaited then
            { d.modAlloc j fun a => { a with blocks := a.blocks.filter fun b => b.index != i } with
              hbm := memClear d.hbm (a.base + blockSize * i) blockSize }
          else d) d
    { d with flights := modWhere d.flights (fun g => g.serial == f.serial) fun g =>
        { g with statuses := g.statuses ++ [0x13], due := false, area := if g.due then 0 else g.area, waits := []
                 spans := [] } }

/-- Blocks that the flights of a paddock wait for. -/
def Paddock.waited (d : Paddock) : Nat :=
  (d.flights.map fun f => ((needsOf d f).map Need.blocks).foldl (· + ·) 0).foldl (· + ·) 0

/-- Serve what waits for room; start the off-loads that it lacks; refuse it where none can bring room (R219). -/
def State.grant (s : State) (p : Nat) : State :=
  if (s.pad p).waited = 0 then s
  else
    let s := s.serveNeeds p
    let s := (s.startLack p (s.pad p).waited).serveNeeds p
    let s := if (s.pad p).waited = 0 || 0 < (s.pad p).offloading then s
      else s.modPad p fun d => d.flights.foldl refuseNeeds d
    s.modPad p fun d => (d.flights.map (·.serial)).foldl (noteWait s.now) d

/-! ### Staging (R224) -/

/-- Bytes of a part at most. -/
def partBytes : Nat := 512 * 2 ^ 20

/-- The parts of an operand in the CXL window: what it reads is staged, and then what it writes is written back. -/
def partsOf (x : Span) : List StagePart :=
  if !touches .cxl x.addr x.len then []
  else
    let cut := fun (w : Bool) => (List.range (ceilDiv x.len partBytes)).map fun i =>
      ({ addr := x.addr + partBytes * i, len := min partBytes (x.len - partBytes * i), write := w, hint := x.hint } : StagePart)
    (if x.read then cut false else []) ++ (if x.write then cut true else [])

def Staged.blocks (x : Staged) : Nat := ceilDiv x.len blockSize

/-- Drop the oldest copies that may go, until `n` blocks fit in an area. -/
def evictStaged (area n : Nat) (mayGo : Staged → Bool) : Nat → List Staged → List Staged
  | 0, l => l
  | k + 1, l =>
    if (l.map Staged.blocks).foldl (· + ·) 0 + n ≤ area then l
    else match l.find? mayGo with
      | some x => evictStaged area n mayGo k (l.erase x)
      | none => l

/-- Bring a part into a staging area for a flight: a copy that lies there serves; otherwise its space is taken
from clean copies and from parts that the flight has used. Nothing where there is no such space. -/
def Paddock.stagePart (d : Paddock) (area : Nat) (x : StagePart) (user : Option Nat) : Option Paddock :=
  match d.staged.find? fun y => y.addr == x.addr && y.len == x.len with
  | some y =>
    some { d with staged := modWhere d.staged (fun z => z == y) fun z =>
      { z with user := if user.isSome then user else z.user } }
  | none =>
    let new : Staged := { addr := x.addr, len := x.len, hint := x.hint, user := user }
    let mayGo := fun (y : Staged) => y.user.isNone || (user.isSome && y.user == user)
    let l := evictStaged area new.blocks mayGo d.staged.length d.staged
    if (l.map Staged.blocks).foldl (· + ·) 0 + new.blocks ≤ area then some { d with staged := l ++ [new] } else none

/-- A completed flight leaves its parts as clean copies, but for those read through hint 0x03. -/
def Paddock.unstage (d : Paddock) (n : Nat) : Paddock :=
  { d with staged := (d.staged.filter fun x => !(x.user == some n && x.hint == 3)).map fun x =>
      if x.user == some n then { x with user := none } else x }

/-- What the completion of an instruction tells Silo of the allocations it used: the writer hint, and whether its
read through hint 0x03 was the latest access (R218). -/
def noteDone (d : Paddock) (f : Flight) : Paddock :=
  f.spans.foldl (fun d x =>
    { d with allocs := d.allocs.map fun e => (e.1,
        if e.2.kind != 1 || sharedBytes x.addr x.len e.2.base e.2.len = 0 then e.2
        else if x.write then { e.2 with hint := x.hint }
        else if x.hint = 3 && e.2.lastBy == some f.serial
          && !(f.spans.any fun y => y.write && sharedBytes y.addr y.len e.2.base e.2.len != 0) then
          { e.2 with spent := true }
        else e.2) }) (d.unstage f.serial)

/-! ### Bytes that cannot be trusted (R241) -/

/-- Bytes of a range can no longer be trusted, now and later. -/
def Paddock.distrust (d : Paddock) (a n status : Nat) : Paddock :=
  { d with bad := d.bad ++ [(a, n, status)], hbm := memClear d.hbm a n }

/-- An allocation keeps retained copies of its lowest `n` blocks. Of those that it gives back, the ones whose home copy
is lost are lost with it (R229, R230). -/
def Paddock.keepRetained (d : Paddock) (j n : Nat) : Paddock :=
  match d.alloc j with
  | none => d
  | some a => (a.homeLost.filter (n ≤ ·)).foldl (fun d i => d.distrust (a.base + blockSize * i) blockSize 0x151)
      (d.modAlloc j fun a => { a with retained := n, homeLost := a.homeLost.filter (· < n) })

/-- Retention of an allocation ends. -/
def Paddock.unretain (d : Paddock) (j : Nat) : Paddock := d.keepRetained j 0

def Paddock.unretainAll (d : Paddock) : Paddock := (d.allocs.map (·.1)).foldl Paddock.unretain d

/-- The status of a reader of a range that meets such bytes. -/
def badStatus (d : Paddock) (a n : Nat) : Option Nat :=
  (d.bad.find? fun x => sharedBytes a n x.1 x.2.1 != 0).map (·.2.2)

end Sys2Proof.Machine
end

