-- ==== Sys2Proof/Machine/Issue.lean ====
section
/-! DEFINITION. Issue of an instruction record: its checks in order (R88 to R97), the work lists it
posts (R121 to R130), and what its completion does (R87, R98, R101). -/

namespace Sys2Proof.Machine
open Sys2Proof

/-! ### What an operation is -/

/-- The effective seed of a paddock as it stands (R41). -/
def Paddock.seed (d : Paddock) : Word64 :=
  effectiveSeed (BitVec.ofNat 64 (d.obj 0x6001 0)) (d.obj 0x6002 0 == 1) (d.obj 0x5821 0)

/-- What an operation sees at issue. -/
structure Ctx where
  s : State
  p : Nat
  r : Rec
  index : Nat
  ts : List (Option Tensor)
  /-- The effective seed and the job step at issue (R41, R54). -/
  seed : Word64
  step : Nat

namespace Ctx

def t (c : Ctx) (i : Nat) : Option Tensor := (c.ts.getD i none)

/-- The tensor of a slot that the record must fill. -/
def must (c : Ctx) (i : Nat) : Tensor :=
  (c.t i).getD ⟨0, .f32, 1, [0, 1, 1, 1, 1, 1], [1, 0, 0, 0, 0, 0], 0, 0, 0, 0, 0⟩

def rd (c : Ctx) : Reader_ := c.s.byteAt c.p

def pool (c : Ctx) : List Fallback := (c.s.pad c.p).fallback

def has (c : Ctx) (i : Nat) : Bool := (c.t i).isSome

/-- Every value of an operand, widened exactly to F32. -/
def wide (c : Ctx) (i : Nat) : Array F32 := (c.must i).widened c.rd c.pool

def exact (c : Ctx) (i : Nat) : Array Val := (c.must i).vals c.rd c.pool

def poolSize (c : Ctx) : Nat := (c.s.pad c.p).obj 0x6040 0

end Ctx

/-- Blocks with a retained copy. -/
def Paddock.retainedBlocks (d : Paddock) : Nat := (d.allocs.map fun e => e.2.retained).foldl (· + ·) 0

/-- Where retained blocks lie: in turn over the 384 plot stores, at most 80 in each, then over the 24 strip stores
(R227; DESIGN CHOICE, log entry 135). The largest share of a plot store and of a strip store, in bytes. -/
def plotShare (n : Nat) : Nat := blockSize * ceilDiv (min n 30720) 384
def stripShare (n : Nat) : Nat := blockSize * ceilDiv (n - 30720) 24

namespace Ctx

/-- An operand lies in the CXL window. -/
def inCxl (c : Ctx) (i : Nat) : Bool := match c.t i with | some t => touches .cxl t.addr 1 | none => false

def bitsOf (c : Ctx) (i : Nat) : Nat := match c.t i with | some t => t.fmt.bits | none => 0

/-- The product of a matrix-family instruction, with A and B in these slots (R109). -/
def product (c : Ctx) (out a b n m k higher : Nat) (rate : Nat) (counts : Bool) : Product :=
  let kept := (c.s.pad c.p).retainedBlocks
  { n := n, m := m, k := k, higher := higher, rate := rate, aBits := c.bitsOf a, bBits := c.bitsOf b, aTurned := false,
    bTurned := false, aCxl := c.inCxl a, bCxl := c.inCxl b, gather := none, single := false, lo := 0, hi := m, outBits := c.bitsOf out,
    outCxl := c.inCxl out, post := if (c.must out).fmt == .f32 then 0 else 1, counted := counts,
    plotShare := plotShare kept, stripShare := stripShare kept }

/-- What one element of an operation costs: it loads an element of each input, runs so many lane operations and, for
an output that is not F32, a conversion (R471). -/
def elemCost (c : Ctx) (ins : List Nat) (out ops : Nat) (counts : Bool) : Cost :=
  { loads := (ins.map c.bitsOf).foldl (· + ·) 0
    cxl := ((ins.filter c.inCxl).map c.bitsOf).foldl (· + ·) 0
    ops := ops + if (c.must out).fmt == .f32 then 0 else 1
    stores := c.bitsOf out, out := c.inCxl out, counted := if counts then 1 else 0 }

end Ctx

namespace Ctx

/-- What the plan of an instruction depends on (R109): opcode, modifier and parameters, the formats and extents of
the operands, the number of strips, the operands in CXL, and the retained blocks. -/
def planKey (c : Ctx) : List Nat :=
  let d := c.s.pad c.p
  [c.r.opcode, c.r.modifier, (c.s.stripsOf c.p).length, d.retainedBlocks]
    ++ c.r.params
    ++ c.ts.flatMap fun t => match t with
      | some t => [t.fmt.code, if touches .cxl t.addr 1 then 1 else 0] ++ t.ext
      | none => [0]

def outSpec (c : Ctx) (way : Way) : OutSpec :=
  { seed := c.seed, poolSize := c.poolSize, live := fun _ => true, way := way }

end Ctx

/-- What an operation does at issue. `lists` are its work lists, each a list of phases. -/
structure Effect where
  s : State
  statuses : List Nat := []
  records : List (List Byte) := []
  lists : List (List Work) := []
  hold : Hold := .none
  area : Nat := 0
  codebooks : List Nat := []
  loads : Option Nat := none
  apply : Bool := false
  /-- Complete at issue. -/
  instant : Bool := false
  slot : Nat := 0xFFFF
  /-- It enters as a reader of a page pool (R172): base, pages, entry epoch. -/
  reader : Option (Nat × Nat × Nat) := none
  before : List (Nat × List Byte) := []

/-- An operation: the checks of R95 that its table rows and its chapter add, and its effect. -/
structure Op where
  outputs : Rec → List Nat := fun r => outputSlots r.opcode r.modifier
  required : Rec → List Nat := fun _ => []
  optional : Rec → List Nat := fun _ => []
  params : List Nat := []
  form : Rec → Bool := fun r => r.modifier == 0
  /-- Outputs that are also read. -/
  reads : Rec → List Nat := fun _ => []
  /-- Outputs of which it may leave elements unwritten. -/
  partly : Ctx → List Nat := fun _ => []
  flash : Bool := false
  churn : Rec → List Nat := fun _ => []
  carry : Ctx → List Nat := fun _ => []
  /-- Bound slots that parameters name (R251). -/
  refs : Rec → List Nat := fun _ => []
  /-- Checks of step 3 on a table of run-time lengths, which give 0x02 (R154). -/
  lengths : Ctx → List (Nat × Bool) := fun _ => []
  /-- The footprint of a slot that R163 or R166 defines. -/
  foot : Ctx → Nat → Option Nat := fun _ _ => none
  /-- Narrow inputs without a scale record of their own (R163, R167). -/
  noHeader : Ctx → List Nat := fun _ => []
  /-- Checks that give 0x01: the slot, the slots involved, and whether it passes. -/
  relate : Ctx → List (Nat × List Nat × Bool) := fun _ => []
  formats : Ctx → List (Nat × Bool) := fun _ => []
  shapes : Ctx → List (Nat × Bool) := fun _ => []
  inPlace : Ctx → Nat → Nat → Bool := fun _ _ _ => false
  /-- Further issue-time checks with their statuses, after step 7. -/
  late : Ctx → List (Nat × Nat × Bool) := fun _ => []
  /-- R96 applies: an extent of 0 makes a no-op. -/
  noop : Ctx → Bool := fun c => c.ts.any fun t => match t with | some t => t.isEmpty | none => false
  /-- What a no-op still does. -/
  skip : Ctx → State := fun c => c.s
  /-- The dictionary slot that it names (R272). -/
  dict : Ctx → Option Nat := fun _ => none
  /-- HBM blocks of the transient area it needs (R225). -/
  area : Ctx → Nat := fun _ => 0
  run : Ctx → Effect

/-! ### The record that issues next -/

/-- Every opcode of the operation tables (R89). -/
def opcodes : List Nat :=
  [0x0001, 0x0002, 0x0008, 0x0009, 0x000A, 0x000B, 0x000C, 0x000D, 0x0010, 0x0011, 0x0012, 0x0013,
   0x0014, 0x0018, 0x0019, 0x001A, 0x001B, 0x0020, 0x0021, 0x0022, 0x0028, 0x0029, 0x0030, 0x0031,
   0x0032, 0x0038, 0x0039, 0x0040, 0x0041, 0x0048, 0x0049, 0x0050, 0x0051, 0x0052, 0x0053]

/-- Opcodes that are malformed in a recompute program (R223). -/
def notInRecompute : List Nat :=
  [0x0012, 0x0013, 0x0014, 0x0030, 0x0031, 0x0032, 0x0040, 0x0050, 0x0051, 0x0052, 0x0053]

def Paddock.program (d : Paddock) (g : Nat) : Option Program := d.programs.find? fun x => x.serial == g

def Paddock.modProgram (d : Paddock) (g : Nat) (f : Program → Program) : Paddock :=
  { d with programs := modWhere d.programs (fun x => x.serial == g) f }

/-- 64 bytes of a program's body at an offset; nothing where a body by reference no longer lies in a
live fixed allocation (R86). -/
def bodyBytes (s : State) (p : Nat) (pr : Program) (o : Nat) : Option (List Byte) :=
  match pr.body with
  | .inline bs => some (sliceBytes bs o 64)
  | .byRef a => if (s.pad p).inFixed (a + o) 64 then some (s.bytesAt p (a + o) 64) else none

/-- Issue is possible: the paddock runs, the program is active and not stopped, a record is left, and
fewer than 256 instructions are in flight (R94, R347, R362, R373). -/
def canIssue (s : State) (p : Nat) (pr : Program) : Bool :=
  let d := s.pad p
  d.active && !d.stopped && !s.faults.degraded && pr.active && pr.stop.isNone && pr.next < pr.nI
    && d.flights.length < 256

/-- The next record of a program, with whether its bytes could be read. -/
def nextRec (s : State) (p g : Nat) : Option (Program × Option Rec) :=
  match (s.pad p).program g with
  | none => none
  | some pr =>
    if canIssue s p pr then some (pr, (bodyBytes s p pr (64 * pr.next)).map parseRec) else none

/-- The descriptor a slot names, as far as it can be read (R86). -/
def descOf (s : State) (p : Nat) (pr : Program) (r : Rec) (i : Nat) : Option Desc :=
  match r.slot i with
  | none => none
  | some k => (bodyBytes s p pr (64 * (pr.nI + k))).map parseDesc

/-! ### The checks of R95 -/

/-- The first of a list of checks that fails, as slot. -/
def firstFail (l : List (Nat × Bool)) : Option Nat := (l.find? fun x => !x.2).map (·.1)

/-- Step 1 on the record itself (R88, R89). -/
def recordOk (op : Op) (pr : Program) (r : Rec) : Bool :=
  r.reserved && r.flags < 4 && (r.opcode == 0x0050 || !r.flags.testBit 1)
    && (if r.flags.testBit 0 then r.counter < 64 else r.counter == 0)
    && (r.params.zipIdx.all fun (v, i) => op.params.contains i || v == 0)
    && op.form r
    && !(pr.recompute.isSome && notInRecompute.contains r.opcode)

/-- Step 1 on the slots: required ones present, none undefined, every index below n_d. -/
def slotChecks (op : Op) (pr : Program) (r : Rec) : List (Nat × Bool) :=
  (List.range 8).map fun i =>
    (i, match r.slot i with
      | none => !(op.required r).contains i
      | some k => ((op.required r).contains i || (op.optional r).contains i) && k < pr.nD)

def loadedCodebook (d : Paddock) (slot gen : Nat) : Bool :=
  match d.codebooks.getD slot none with
  | some c => c.generation == gen
  | none => false

/-- The descriptors of a record, by slot. -/
def descs (s : State) (p : Nat) (pr : Program) (r : Rec) : List (Option (Option Desc)) :=
  (List.range 8).map fun i => (r.slot i).map fun _ => descOf s p pr r i

/-- What the checks of R95 answer: a failure with its status and slot, a no-op, or leave to run. -/
inductive Verdict where
  | fails (status slot : Nat)
  | noop
  | passes
  deriving DecidableEq, Repr

def orElseV (a : Option Nat) (st : Nat) (k : Unit → Verdict) : Verdict :=
  match a with
  | some slot => .fails st slot
  | none => k ()

/-- The slots that are inputs of the record. -/
def inputSlots (op : Op) (r : Rec) : List Nat :=
  (List.range 8).filter fun i =>
    (r.slot i).isSome && (!(op.outputs r).contains i || (op.reads r).contains i)

/-- The footprint of the tensor in a slot, as input or output. -/
def slotFoot (op : Op) (c : Ctx) (i : Nat) : Nat :=
  match c.t i with
  | none => 0
  | some t =>
    match op.foot c i with
    | some n => n
    | none => if (op.outputs c.r).contains i then t.footprint else t.footprintIn c.rd

def rangesMeet (a n b m : Nat) : Bool := 0 < n && 0 < m && a < b + m && b < a + n

/-- Step 5: no overlap between outputs, or between an output and an input (R95). -/
def overlapChecks (op : Op) (c : Ctx) : List (Nat × Bool) :=
  (op.outputs c.r).flatMap fun i => (List.range 8).map fun j =>
    (if (op.outputs c.r).contains j then i else j, i == j ||
      (match c.t i, c.t j with
       | some x, some y =>
         !rangesMeet x.addr (slotFoot op c i) y.addr (slotFoot op c j)
           || (c.r.slot i == c.r.slot j && op.inPlace c i j)
       | _, _ => true))

/-- Step 4 for what every operation shares: Churn format, CARRY8 and stochastic rounding only where
they are accepted (R39, R201, R470). -/
def sharedFormats (op : Op) (c : Ctx) : List (Nat × Bool) :=
  (List.range 8).map fun i =>
    (i, match c.t i with
      | none => true
      | some t =>
        (!t.churn || ((op.churn c.r).contains i
            && !(t.fmt == .f4b || t.fmt == .g16 || t.fmt == .carry8)))
          && (t.fmt != .carry8 || (op.carry c).contains i)
          && (!(op.outputs c.r).contains i || !t.stochastic
              || t.fmt == .f16 || t.fmt == .bf16 || t.fmt.isF8 || t.fmt == .f4b))

/-- A Churn-format descriptor has dense strides (R201). -/
def denseChecks (c : Ctx) : List (Nat × List Nat × Bool) :=
  (List.range 8).map fun i =>
    (i, [i], match c.t i with | some t => !t.churn || t.dense | none => true)

/-- The flash tier answers requests (R240). -/
def State.flashUp (s : State) : Bool := s.tiers.flashState == 2 || s.tiers.flashState == 3

/-- Step 6 (R95, R239). -/
def tierOk (s : State) (write : Bool) (a n : Nat) : Bool :=
  (!touches .cxl a n || s.tiers.cxlPresent)
    && (!touches .flash a n || (s.flashUp && !(write && s.tiers.flashState == 3)))

/-- Step 7 (R97, R218): outside every window, or within one live allocation that takes the access. -/
def allocOk (d : Paddock) (write : Bool) (t : Tensor) (n : Nat) : Bool :=
  !touchesAny t.addr n ||
    (match d.allocOf t.addr n with
     | none => false
     | some (_, a) => !write || (a.kind != 3 && (a.kind != 1 || t.flags.testBit 1)
         && !(d.dicts.any fun x => x.any fun x => rangesMeet t.addr n x.addr x.len)))

/-- A footprint in the flash window keeps to the paddock's range and rights as they stand (R236, R244). -/
def flashRangeOk (s : State) (p : Nat) (write : Bool) (a n : Nat) : Bool :=
  !touches .flash a n
    || (a + n ≤ flashBase + s.obj 0x4821 p && (if write then 2 else 1) ≤ s.obj 0x4822 p)

/-- An operand of a recompute program's output keeps to its allocation (R223). -/
def recomputeOk (d : Paddock) (pr : Program) (t : Tensor) (n : Nat) : Bool :=
  match pr.recompute with
  | none => true
  | some j => match d.allocOf t.addr n with | some (k, _) => k == j | none => false

/-- The slot at which step 1 of R95 fails: the record, its slots, each named descriptor. -/
def stepOne (op : Op) (pr : Program) (s : State) (p : Nat) (r : Rec) : Option Nat :=
  let ds := descs s p pr r
  if !recordOk op pr r then some 0xFFFF
  else (firstFail (slotChecks op pr r)).or (firstFail ((List.range 8).map fun i =>
    (i, match ds.getD i none with
      | none => true
      | some none => false
      | some (some x) => x.fieldsOk ((op.outputs r).contains i) (loadedCodebook (s.pad p))
          && (op.flash || windowOf x.addr != some .flash))))

/-- The checks of R95 in their order. -/
def verdict (op : Op) (pr : Program) (s : State) (p : Nat) (r : Rec) (c : Ctx) : Verdict :=
  let d := s.pad p
  let ds := descs s p pr r
  let out := fun i => (op.outputs r).contains i
  let ifD := fun (i : Nat) (f : Desc → Bool) =>
    match ds.getD i none with | some (some x) => f x | some none => false | none => true
  let ifT := fun (i : Nat) (f : Tensor → Bool) => match c.t i with | some t => f t | none => true
  let literal := fun (is : List Nat) => is.all fun i => ifD i Desc.literal
  orElseV (stepOne op pr s p r) 0x01 fun _ =>
    orElseV (firstFail ((denseChecks c ++ op.relate c).filterMap fun (i, is, ok) =>
      if literal is then some (i, ok) else none)) 0x01 fun _ =>
    orElseV (firstFail (((List.range 8).map fun i =>
      (i, ifD i fun x => x.bounds.all fun b => readBound s p b != .fails 0x05)
      ) ++ [(0xFFFF, (op.refs r).all fun b => readBound s p b != .fails 0x05)])) 0x05 fun _ =>
    orElseV (firstFail (((List.range 8).map fun i =>
      (i, ifD i fun x => x.bounds.all fun b => readBound s p b != .fails 0x02)
      ) ++ [(0xFFFF, (op.refs r).all fun b => readBound s p b != .fails 0x02)])) 0x02 fun _ =>
    orElseV (firstFail (op.lengths c)) 0x02 fun _ =>
    orElseV (firstFail ((List.range 8).map fun i => (i, !out i || ifT i Tensor.strideOk))) 0x01 fun _ =>
    orElseV (firstFail (((inputSlots op r).filter fun i => !(op.noHeader c).contains i).map fun i =>
      (i, ifT i fun t => t.isEmpty || t.churn || !t.hasRecord || t.headValid c.rd))) 0x01 fun _ =>
    orElseV (firstFail ((denseChecks c ++ op.relate c).map fun (i, _, ok) => (i, ok))) 0x01 fun _ =>
    orElseV (firstFail (sharedFormats op c)) 0x04 fun _ =>
    orElseV (firstFail (op.formats c)) 0x04 fun _ =>
    orElseV (firstFail (op.shapes c)) 0x03 fun _ =>
    orElseV (firstFail (overlapChecks op c)) 0x03 fun _ =>
    if op.noop c then .noop
    else
      orElseV (firstFail ((List.range 8).map fun i =>
        (i, ifT i fun t => tierOk s (out i) t.addr (slotFoot op c i)))) 0x11 fun _ =>
      orElseV (firstFail ((List.range 8).map fun i =>
        (i, ifT i fun t => allocOk d (out i) t (slotFoot op c i)
          && flashRangeOk s p (out i) t.addr (slotFoot op c i)
          && (!out i || recomputeOk d pr t (slotFoot op c i))))) 0x02 fun _ =>
      match (op.late c).find? fun x => !x.2.2 with
      | some (i, st, _) => .fails st i
      | none => .passes

/-! ### Counters, statistics and completion -/

/-- WAIT's condition (R98). -/
def reached (counter target : Nat) : Bool := (counter + 2 ^ 32 - target) % 2 ^ 32 < 2 ^ 31

/-- Advance an event counter. A SIGNAL, and no completion signal, is counted where it reaches the target of a
WAIT that has timed out (R98, R100). -/
def Paddock.advance (d : Paddock) (n inc : Nat) (signal : Bool := true) : Paddock :=
  let d := d.addObj 0xA002 n inc
  let late := d.lateWaits.any fun w => w.1 == n && reached (d.obj 0xA002 n) w.2
  let d := if signal && late then d.addObj 0xA006 0 1 else d
  { d with lateWaits := d.lateWaits.filter fun w => !(w.1 == n && reached (d.obj 0xA002 n) w.2) }

/-- Whether a statistics record is written under a record mode (R80). -/
def recordWanted (mode : Nat) (b : List Byte) : Bool :=
  match mode with
  | 0 => false
  | 1 => true
  | _ => (leField b 7 1 != 0) || leField b 0x20 8 != 0 || leField b 0x28 8 != 0 || leField b 0x30 8 != 0

/-- Put one record into the statistics ring (R80, R97). -/
def ringPut (s : State) (p : Nat) (b : List Byte) : State :=
  let d := s.pad p
  let size := d.obj 0x6402 0
  let wi := d.obj 0x6403 0
  if !recordWanted (d.obj 0x6400 0) b || size = 0 then s
  else if (wi + 2 ^ 32 - d.obj 0x6404 0) % 2 ^ 32 = size then
    s.modPad p fun d => d.addObj 0x6405 0 1
  else
    let base := d.obj 0x6401 0
    let s := if base + 128 * size ≤ hbmEnd then
        plainWrite s p (placeAt (base + 128 * (wi % size)) b)
      else s.countOutside p true
    s.modPad p fun d => d.addObj 0x6403 0 1

/-- The statuses of a flight and whether one of them stops its program. -/
def stopOf (flags : Nat) (sts : List Nat) : Option Nat :=
  let l := sts.filter fun x => stops flags false x || x == 0x151
  if l.isEmpty then none else some (if l.contains 0x151 then 0x51 else worst l)

/-- A status as the outside sees it: 0x151 stands inside the model for 0x51 with no spare left. -/
def plainStatus (x : Nat) : Nat := if x = 0x151 then 0x51 else x

/-- One instruction of a program returns its statuses (R87, R101). -/
def Program.returned (pr : Program) (sts : List Nat) (index opcode slot : Nat) : Program :=
  let sts := if sts.isEmpty then [0] else sts
  let st := worst (sts.map plainStatus)
  let st := match sts with | [x] => plainStatus x | _ => st
  { pr with
    completed := pr.completed + 1
    seen := pr.seen ++ [if st = 0x51 && sts.contains 0x151 then 0x151 else st]
    stop := match pr.stop with
      | some x => some x
      | none => (stopOf pr.flags sts).map fun x => ⟨x, index, opcode, slot⟩ }

/-- Completion of a flight: its statistics records, its completion signal, its status (R80, R98,
R101, R130, R223). A stop may start a recovery (R371). -/
def retire (s : State) (p : Nat) (f : Flight) : State :=
  match (s.pad p).program f.prog with
  | none =>
    s.modPad p fun d =>
      { d with
        flights := d.flights.filter fun x => x.serial != f.serial
        ops := d.ops.filter fun x => x.flight != f.serial }
  | some pr =>
    let quiet := pr.recompute.isSome
    let s := if quiet then s else f.records.foldl (fun s b => ringPut s p b) s
    let stopped := (stopOf pr.flags f.statuses).isSome
    let s := (s.pad p).readers.foldl (fun s x =>
      if x.flight = f.serial then leavePool s p x else s) s
    let s := s.modPad p fun d =>
      let d := { d with
        flights := d.flights.filter fun x => x.serial != f.serial
        ops := d.ops.filter fun x => x.flight != f.serial }
      let d := if quiet then d else noteDone d f
      let d := match f.signal with
        | some n => if stopped || quiet then d else d.advance n 1 (signal := false)
        | none => d
      d.modProgram f.prog fun pr => pr.returned f.statuses f.index f.opcode f.slot
    if quiet then s else s.noteStop p pr.stop (pr.returned f.statuses f.index f.opcode f.slot).stop

/-! ### Posting work lists (R121 to R126) -/

/-- Strip `i` of `k` takes this many of `w` units (R124). -/
def share (w k i : Nat) : Nat := w / k + (if i < w % k then 1 else 0)

/-- The first unit of strip `i`'s share. -/
def shareStart (w k i : Nat) : Nat := i * (w / k) + min i (w % k)

/-- A phase of strip `i`'s list (R122, R124). -/
def listPhase (w : Work) (k i : Nat) : ListPhase :=
  { work := w, skim := share w.skim k i, first := shareStart w.units k i, share := share w.units k i }

def freshRanges : List (Nat × Nat) := List.replicate 16 (0, 0)

/-- The mode of a gradient instruction with both lists: 1 paired, 2 alternating (R144). -/
def gradMode (k : Nat) (lists : List (List Work)) : Nat :=
  match lists with
  | [x :: _, w :: _] =>
    if x.cycles ≤ 2 * w.cycles && w.cycles ≤ 2 * x.cycles && 64 ≤ x.units / k && 64 ≤ w.units / k then 1
    else 2
  | _ => 0

/-- The contexts a strip takes for an instruction, one per list with work in it. -/
def stripContexts (p flight k i : Nat) (lists : List (List Work)) : List Context :=
  (lists.zipIdx.filterMap fun (phases, l) =>
    match phases.map fun w => listPhase w k i with
    | [] => none
    | f :: rest =>
      if (f :: rest).all fun x => x.total == 0 then none
      else some { paddock := p, flight := flight, list := l, next := 0, total := f.total,
                  ranges := freshRanges, done := 0, phase := f, later := rest, returned := [],
                  edge := phases.any (·.edge), mode := gradMode k lists })

/-- Post contexts in one strip, or hold them in its pending list (R129, R142). -/
def Strip.post (st : Strip) (cs : List Context) : Strip :=
  if cs.isEmpty then st
  else if st.waiting.isEmpty && st.contexts.length + cs.length ≤ 8 then
    { st with contexts := st.contexts ++ cs, parked := [] }
  else { st with waiting := st.waiting ++ cs }

/-- Post an instruction's lists in every strip of the paddock. -/
def postLists (s : State) (p flight : Nat) (lists : List (List Work)) : State :=
  let ks := s.stripsOf p
  ks.zipIdx.foldl (fun s (k, i) =>
    s.setStrip k ((s.strip k).post (stripContexts p flight ks.length i lists))) s

/-! ### Issue -/

/-- The accesses of an instruction, by slot (R215, R216, R219, R220). -/
def accessesOf (op : Op) (c : Ctx) : List Access :=
  (List.range 8).filterMap fun i => (c.t i).map fun t =>
    let out := (op.outputs c.r).contains i
    { span := { addr := t.addr, len := slotFoot op c i, read := !out || (op.reads c.r).contains i, write := out
                hint := t.hint }
      elem := if t.churn || !t.flags.testBit 1 then none else some (max 1 (t.fmt.bits / 8))
      fills := fun lo n => !(op.partly c).contains i && t.fills lo n }

/-- The byte ranges an instruction uses. -/
def spansOf (op : Op) (c : Ctx) : List Span := (accessesOf op c).map (·.span)

/-- Codebook slots named by the record's descriptors (R197). -/
def codebooksOf (c : Ctx) : List Nat :=
  c.ts.filterMap fun t => match t with
    | some t => if t.churn then some (bitField t.compr 5 4) else none
    | none => none

/-- Count the accesses outside the paddock (R97). -/
def countSpans (s : State) (p : Nat) (l : List Span) : State :=
  l.foldl (fun s x => if touchesAny x.addr x.len || x.len = 0 then s else s.countOutside p x.write) s

/-- Every bound slot that a record reads: those of its descriptors, and those its parameters name (R92, R251). -/
def boundSlots (ds : List (Option (Option Desc))) (refs : List Nat) : List Nat :=
  (ds.flatMap fun x => match x with | some (some d) => d.bounds | _ => []) ++ refs

/-- Count the bound words read outside the paddock (R97). -/
def countBounds (s : State) (p : Nat) (bs : List Nat) : State :=
  bs.foldl (fun s b => if boundOutside s p b then s.countOutside p false else s) s

/-- What a record counts at issue of its bound words, which it reads once step 1 has passed, and of its operands;
a recompute program adds to no count (R95, R97, R223). -/
def countReads (op : Op) (s : State) (p : Nat) (pr : Program) (r : Rec) : State :=
  if pr.recompute.isSome || (stepOne op pr s p r).isSome then s
  else countBounds s p (boundSlots (descs s p pr r) (op.refs r))

def countTouches (s : State) (p : Nat) (pr : Program) (l : List Span) : State :=
  if pr.recompute.isSome then s else countSpans s p l

/-- The effect of a recompute program's instruction without what it added to counts and norms (R223). -/
def hush (s : State) (p : Nat) (pr : Program) (t : State) : State :=
  if pr.recompute.isSome then ({ t with objs := s.objs }).modPad p fun d => { d with objs := (s.pad p).objs }
  else t

/-- The accesses that the blocks of R216, R219 and R220 are counted for: a recompute program writes into fresh
blocks of its own (R222). -/
def chargedAccesses (pr : Program) (l : List Access) : List Access :=
  if pr.recompute.isSome then l.filter fun x => !x.span.write else l

/-- A record has issued. -/
def noteIssue (s : State) (p g : Nat) : State :=
  s.modPad p fun d =>
    let d := if d.obj 0x9001 0 = 5 then d.setObj 0x9001 0 6 else d
    let quiet := (d.program g).any fun pr => pr.recompute.isSome
    ((if quiet then d else d.addObj 0xA007 0 1).modProgram g fun pr =>
      { pr with next := pr.next + 1, issued := pr.issued + 1, waitSince := none }).lookIn

/-- The record returns a status at issue (R95); a stop may start a recovery (R371). -/
def failIssue (s : State) (p g : Nat) (pr : Program) (opcode status slot : Nat) : State :=
  let s := (noteIssue s p g).modPad p fun d =>
    d.modProgram g fun x => x.returned [status] pr.next opcode slot
  if pr.recompute.isSome then s else s.noteStop p pr.stop (pr.returned [status] pr.next opcode slot).stop

/-- The context of a record at issue. -/
def ctxOf (s : State) (p : Nat) (pr : Program) (r : Rec) : Ctx :=
  { s := s, p := p, r := r, index := pr.next, seed := (s.pad p).seed, step := (s.pad p).obj 0x5821 0,
    ts := (descs s p pr r).map fun x => match x with
      | some (some d) => some (d.tensor (d.resolve s p))
      | _ => none }

/-- An access needs a block that is lost: it reads it, or writes it in part. -/
def meetsLost (a : Alloc) (x : Access) : Bool :=
  a.blocks.any fun b => b.place == .lost && blockMeets a b x.span.addr x.span.len && (x.span.read || !x.whole a b.index)

/-- The off-loadable allocations whose blocks in CXL its inputs wait for (R221, R222); and those whose lost blocks
a recompute program brings back (R234). -/
def waitsOf (d : Paddock) (l : List Access) : List Nat :=
  (l.filterMap fun x =>
    match d.allocOf x.span.addr x.span.len with
    | some (j, a) =>
      if a.kind == 1 && ((x.span.read && !a.arrived x.span.addr x.span.len) || meetsLost a x) then some j else none
    | none => none).eraseDups

/-- An access reads a lost mapping unit of flash, or writes it in part (R237, R241). -/
def meetsLostUnit (s : State) (p : Nat) (x : Access) : Bool :=
  let y := x.span
  !s.tiers.lostTargets.isEmpty && touches .flash y.addr y.len
    && (List.range (ceilDiv (s.flashOffset p y.addr % mappingUnit + y.len) mappingUnit)).any fun i =>
      let u := s.flashOffset p y.addr / mappingUnit + i
      s.unitLost u && (y.read || !x.fills (flashBase + mappingUnit * u - s.obj 0x4820 p) mappingUnit)

/-- The status of an instruction that reads what is lost: a block that no recompute program brings back, a unit of
flash, or bytes that cannot be trusted (R234, R241). -/
def lostStatus (s : State) (p : Nat) (l : List Access) : Option Nat :=
  let d := s.pad p
  l.findSome? fun x =>
    if (match d.allocOf x.span.addr x.span.len with
        | some (_, a) => a.recI == 0 && meetsLost a x
        | none => false) || meetsLostUnit s p x then some 0x11
    else if x.span.read then badStatus d x.span.addr x.span.len else none

/-- The bit of the event class in a control word (R121, R416). A reduction that takes dimension 0 is of
the row class. -/
def eventClass (r : Rec) : Nat :=
  let c := r.opcode
  if 0x0008 ≤ c && c ≤ 0x000C then 16
  else if c = 0x0010 || c = 0x0011 then 17
  else if c = 0x0021 then if (r.params.getD 0 0).testBit 0 then 19 else 18
  else if 0x0018 ≤ c && c ≤ 0x001B then 19
  else if c = 0x0048 || c = 0x0049 then 20
  else if c = 0x0028 || c = 0x0029 then 21
  else if [0x0001, 0x0002, 0x0020, 0x0022, 0x0039, 0x0038, 0x000D].contains c then 18
  else 0

/-- Make the flight of an issued instruction. -/
def fly (s : State) (p g : Nat) (pr : Program) (r : Rec) (op : Op) (c : Ctx) (e : Effect) : State :=
  let d := s.pad p
  let n := d.nextFlight
  let l := accessesOf op c
  let spans := l.map (·.span)
  let f : Flight :=
    { serial := n, prog := g, index := pr.next, opcode := r.opcode, cls := eventClass r,
      signal := if r.flags.testBit 0 then some r.counter else none, statuses := e.statuses,
      slot := e.slot, spans := spans, records := e.records,
      codebooks := codebooksOf c ++ e.codebooks, dict := op.dict c, loads := e.loads, hold := e.hold, area := e.area,
      due := decide (0 < e.area), dueSince := none,
      waits := waitsOf (e.s.pad p) l, stage := spans.flatMap partsOf,
      apply := e.apply, before := e.before }
  let s := e.s.modPad p fun d =>
    { d with
      flights := d.flights ++ [f], nextFlight := n + 1
      readers := match e.reader with
        | some (b, k, ep) => d.readers ++ [{ flight := n, pool := b, pages := k, epoch := ep }]
        | none => d.readers }
  postLists s p n e.lists

/-- The flight of an instruction that issues with a status and touches nothing more. -/
def flyBare (s : State) (p g : Nat) (pr : Program) (r : Rec) (op : Op) (c : Ctx) (status : Nat) : State :=
  (fly s p g pr r op c { s := s, statuses := [status] }).modPad p fun d =>
    { d with flights := modWhere d.flights (fun f => f.serial == (s.pad p).nextFlight) fun f =>
        { f with waits := [], stage := [], spans := [] } }

/-- The 64-byte aligned units that a range meets. -/
def unitsIn (a n : Nat) : List Nat := (List.range (ceilDiv (a % 64 + n) 64)).map fun i => 64 * (a / 64 + i)

/-- The units among the written operands that an instruction has changed, as they were before. -/
def unitsBefore (s t : State) (p : Nat) (l : List Span) : List (Nat × List Byte) :=
  ((l.filter (·.write)).flatMap fun x => unitsIn x.addr x.len).eraseDups.filterMap fun u =>
    let old := s.bytesAt p u 64
    if t.bytesAt p u 64 == old then none else some (u, old)

/-- Put a unit's bytes in place, of which nothing else is to be told. -/
def State.setUnit (s : State) (p : Nat) (u : Nat × List Byte) : State :=
  let t := (s.writeBytes p (placeAt u.1 u.2)).modPad p fun d => { d with bad := (s.pad p).bad }
  { t with tiers := { t.tiers with lostTargets := s.tiers.lostTargets } }

/-- The memory as an instruction sees it that is not ordered after the writers still in flight: each unit that one
of them has written holds the old or the new content, and a free value says which (R93, R99). -/
def State.unordered (s : State) (p : Nat) (us : List (Nat × List Byte)) : State :=
  us.foldr (fun u s => let (n, s) := s.draw; if n.testBit 0 then s.setUnit p u else s) s

/-- Take the choices of `unordered` back, from `v`, what the instruction saw, to `s`, what stands. A unit that the
instruction has written too is left with one writer's content (R99). -/
def State.reordered (t s v : State) (p : Nat) (us : List Nat) : State :=
  us.foldl (fun t u =>
    if t.bytesAt p u 64 == v.bytesAt p u 64 then t.setUnit p (u, s.bytesAt p u 64)
    else
      let (n, t) := t.draw
      if n.testBit 0 then t.setUnit p (u, s.bytesAt p u 64) else t) t

/-- Issue the next record of program `g` where it is one of this operation; otherwise nothing happens
(log entry 8). A record whose opcode is undefined, or whose bytes cannot be read, is malformed. -/
def issueNext (code : Nat) (mine : Rec → Bool) (op : Op) (p g : Nat) (s : State) : State :=
  match nextRec s p g with
  | none => s
  | some (pr, none) => failIssue s p g pr 0 0x01 0xFFFF
  | some (pr, some r) =>
    if !opcodes.contains r.opcode then failIssue s p g pr r.opcode 0x01 0xFFFF
    else if r.opcode != code || !mine r then s
    else
      let c := ctxOf s p pr r
      let s0 := countReads op s p pr r
      match verdict op pr s p r c with
      | .fails st slot => failIssue s0 p g pr r.opcode st slot
      | .noop =>
        let s1 := noteIssue s0 p g
        fly s1 p g pr r op c { s := op.skip { c with s := s1 } }
      | .passes =>
        let l := accessesOf op c
        let ls := spansOf op c
        let s1 := noteIssue (countTouches s0 p pr ls) p g
        if usesCxl ls && s.obj 0x4011 p < 16384 then flyBare s1 p g pr r op c 0x13
        else match lostStatus s1 p l with
        | some st => flyBare s1 p g pr r op c st
        | none =>
          match s1.makeRoom p (needFor s1 p (chargedAccesses pr l) + op.area c) ls with
          | none => flyBare s1 p g pr r op c 0x13
          | some s2 =>
            let e := op.run { c with s := s2 }
            let s4 := noteAccess (hush s2 p pr e.s) p (chargedAccesses pr l)
            let s3 := fly s4 p g pr r op c
              { e with s := s4, area := op.area c, before := unitsBefore s2 s4 p ls }
            if e.instant then
              match (s3.pad p).flights.getLast? with
              | some f => retire s3 p f
              | none => s3
            else s3.grant p

/-- The next record of a program is one of this operation. -/
def isNext (code : Nat) (mine : Rec → Bool) (s : State) (p g : Nat) : Bool :=
  match nextRec s p g with
  | some (_, some r) => r.opcode == code && mine r
  | _ => false

/-- Issue the next record over what it sees of the writers in flight (R99). -/
def issue (code : Nat) (mine : Rec → Bool) (op : Op) (p g : Nat) (s : State) : State :=
  let us := (s.pad p).flights.flatMap (·.before)
  if us.isEmpty || !isNext code mine s p g then issueNext code mine op p g s
  else
    let v := s.unordered p us
    (issueNext code mine op p g v).reordered s v p (us.map (·.1)).eraseDups

end Sys2Proof.Machine
end

