-- ==== Sys2Proof/Machine/Output.lean ====
section
/-! DEFINITION. What an operation does with what it wrote: bytes into memory, fallback slots, the
counting objects, statistics records, copies without conversion, and the units of R121. -/

namespace Sys2Proof.Machine
open Sys2Proof

/-! ### Statistics records (R77 to R79) -/

/-- The fields of one statistics record. -/
structure Stat where
  ident : Nat
  opcode : Nat
  format : Nat
  step : Nat
  index : Nat
  counts : Counts := {}
  rescaled : Nat := 0
  fallbacks : Nat := 0
  nonFinite : Bool := false
  exhausted : Bool := false
  norms : List (F32 × F32) := []
  t : Nat := 0
  emax : Int := -32768

def normBytes (l : List (F32 × F32)) (i : Nat) : List Byte :=
  match l[i]? with
  | some (a, b) => leBytes 4 a.toNat ++ leBytes 4 b.toNat
  | none => leBytes 8 0

/-- The 128 bytes of a record (R79). -/
def Stat.bytes (r : Stat) : List Byte :=
  let flag := fun (b : Bool) (k : Nat) => if b then k else 0
  leBytes 4 r.ident ++ leBytes 2 r.opcode ++ leBytes 1 r.format
    ++ leBytes 1 (flag (!r.norms.isEmpty) 1 + flag (0 < r.rescaled) 2 + flag (0 < r.fallbacks) 4
        + flag (r.nonFinite || 0 < r.counts.nonFinite) 8 + flag r.exhausted 16)
    ++ leBytes 8 r.step ++ leBytes 8 r.counts.total ++ leBytes 8 r.counts.zeros
    ++ leBytes 8 r.counts.saturations ++ leBytes 8 r.counts.underflows
    ++ leBytes 8 r.counts.nonFinite ++ leBytes 4 r.rescaled ++ leBytes 4 r.fallbacks
    ++ normBytes r.norms 0 ++ normBytes r.norms 1 ++ normBytes r.norms 2
    ++ leBytes 1 r.t ++ [0] ++ leBytes 2 (i16 r.emax) ++ leBytes 4 r.index ++ leBytes 32 0

/-- Formats whose conversions are counted (R77). -/
def counted (f : Fmt) : Bool :=
  match f with
  | .f32 | .g16 | .carry8 => false
  | _ => true

/-- The sum of squares and the largest magnitude of a list (R78). -/
def normOf (l : List F32) : F32 × F32 :=
  (vsumsq l, l.foldl (fun a x => F32.max a (F32.ofVal x.val.abs)) 0)

/-! ### Outputs -/

/-- One output that an instruction wrote. -/
structure Outlet where
  t : Tensor
  w : Written
  norms : List (F32 × F32) := []
  /-- Only copied: no record (R79). -/
  copied : Bool := false

/-- The record of an output, where R79 asks for one. -/
def Outlet.record (c : Ctx) (o : Outlet) : List (List Byte) :=
  if o.copied || (!counted o.t.fmt && o.norms.isEmpty) then []
  else
    [Stat.bytes {
      ident := o.t.ident, opcode := c.r.opcode, format := o.t.fmt.code,
      step := c.step, index := c.index, counts := countEvents o.w.events,
      rescaled := o.w.rescaled, fallbacks := o.w.fallbacks, nonFinite := o.w.nonFinite,
      exhausted := o.w.exhausted, norms := o.norms,
      t := if o.t.fmt.isNarrow then (if o.w.exhausted then 0xFF else o.w.t) else 0,
      emax := if o.t.fmt.isNarrow then o.w.emax else -32768 }]

/-- Object 0x6041 holds the largest number of fallback slots held at once (R82). -/
def Paddock.raisePeak (d : Paddock) (n : Nat) : Paddock :=
  if d.obj 0x6041 0 < n then d.setObj 0x6041 0 n else d

/-- Store what was written and keep the books of the fallback pool (R73, R82, R83). -/
def commitWritten (c : Ctx) (outs : List Outlet) (skimmed : Option Nat) : State :=
  let old := c.pool
  let pool := match outs.getLast? with | some o => o.w.pool | none => old
  let bs := outs.flatMap fun o => o.w.bytes
  let sum := fun (f : Outlet → Nat) => (outs.map f).foldl (· + ·) 0
  (c.s.writeBytes c.p bs).modPad c.p fun d =>
    let d := { d with fallback := releaseOver old pool bs }
    let d := d.raisePeak ((outs.map fun o => o.w.peak).foldl max 0)
    let d := if outs.any fun o => o.w.exhausted then d.addObj 0x6042 0 1 else d
    let r := sum fun o => o.w.rescaled
    let f := sum fun o => if o.copied then 0 else o.w.fallbacks
    let d := if r = 0 then d else d.addObj 0x6043 0 r
    let d := if f = 0 then d else d.addObj 0x6044 0 f
    match skimmed with
    | some n => (d.addObj 0x6406 0 1).addObj 0x6407 0 n
    | none => d

/-- The effect of an operation that wrote these outputs (R45, R72, R77, R79). -/
def outEffect (c : Ctx) (outs : List Outlet) (skimmed : Option Nat) (nonFinite : Bool)
    (lists : List (List Work)) : Effect :=
  let nf := nonFinite || outs.any fun o => o.norms.any fun x => !(x.1.finite && x.2.finite)
  { s := commitWritten c outs skimmed
    statuses := (if nf then [0x22] else []) ++
      outs.flatMap fun o => if o.copied then (if o.w.exhausted then [0x13] else []) else o.w.statuses
    records := outs.flatMap (Outlet.record c)
    lists := lists }

/-- The output of a slot takes a measured scale (R56, R59). -/
def measuredSlot (t : Tensor) : Bool := t.fmt.isNarrow && t.source == 1

/-- Bytes of a Skimmer pass over the operands of these slots: their footprints (DESIGN CHOICE, log entry 111). -/
def skimBytes (c : Ctx) (slots : List Nat) : Nat :=
  (slots.map fun i => match c.t i with
    | some t => t.footprintIn c.rd
    | none => 0).foldl (· + ·) 0

/-- A reader of bytes just written over another. -/
def overlay (bs : List (Nat × Byte)) (rd : Reader_) : Reader_ := fun a =>
  match bs.find? fun x => Nat.beq x.1 a with
  | some x => x.2
  | none => rd a

/-- The low halves of the swath words written, in swath order; nothing where the format has none. -/
def wordsOf (o : Tensor) (w : Written) : List Nat :=
  if o.fmt.isF8 then (List.range o.nSwath).map fun n => readLe (overlay w.bytes fun _ => 0) (o.wordAddr n) 4 else []

/-- The phases of a work list: where an output takes a measured scale, the same units measure first (R122). -/
def phasesOf (measure : Bool) (w : Work) : List Work := if measure then [{ w with measures := true }, w] else [w]

/-- One measured output: its Skimmer pass reads the operands of `ins`. -/
def measured (c : Ctx) (slot : Nat) (ins : List Nat) (rs : Array F32) (nonFinite : Bool)
    (phase : Work) : Effect :=
  let o := c.must slot
  let m := measuredSlot o
  outEffect c [{ t := o, w := writeOut o (c.outSpec .measured) rs c.pool }]
    (if m then some (skimBytes c ins) else none) nonFinite
    [phasesOf m phase]

/-- An input's first two extents equal the output's, and its batch extents do or are 1 (the operation
tables of chapter 04, before R102). -/
def batchFits (o x : Tensor) : Bool :=
  x.e 0 == o.e 0 && x.e 1 == o.e 1
    && (List.range 4).all fun k => x.e (k + 2) == o.e (k + 2) || x.e (k + 2) == 1

/-- The values of an input at every index of an output; an extent of 1 broadcasts. -/
def Ctx.spread (c : Ctx) (o : Tensor) (i : Nat) : Array F32 :=
  let t := c.must i
  let x := c.wide i
  if t.ext = o.ext then x
  else
    ((allIdx o.ext).map fun idx =>
      (x[logical t.ext (List.zipWith (fun e j => if e = 1 then 0 else j) t.ext idx)]?).getD 0).toArray

def anyNonFinite (a : Array F32) : Bool := a.any fun x => !x.finite

/-! ### Units (R121) -/

/-- Patches of an output: 256 by 16 at each higher index. -/
def patches (t : Tensor) : Nat :=
  match t.ext with
  | e0 :: e1 :: rest => ceilDiv e0 256 * ceilDiv e1 16 * rest.foldl (· * ·) 1
  | _ => 0

/-- Quads of an output: 2 by 2 swaths at each higher index. -/
def quads (t : Tensor) : Nat :=
  match t.ext with
  | e0 :: e1 :: rest => ceilDiv e0 128 * ceilDiv e1 128 * rest.foldl (· * ·) 1
  | _ => 0

/-- Row units: one row above 4,096 elements, else up to 16 consecutive rows. -/
def rowUnits (rows len : Nat) : Nat := if 4096 < len then rows else ceilDiv rows 16

/-- Work over the elements of an output, patch by patch, at so many lane operations each (R121, R471). -/
def patchWork (c : Ctx) (out : Nat) (ins : List Nat) (ops : Nat) : Work :=
  let o := c.must out
  { units := patches o
    shape := .patch (o.e 0) (o.e 1) (c.elemCost (ins.filter c.has) out ops (counted o.fmt)) }

/-- A row of up to 262,144 elements stays in the plot store; a longer one is read again for each further pass
(R121). -/
def rowReads (len passes : Nat) : Nat := if len ≤ 262144 then 1 else passes

/-! ### Copies without conversion (R56, R102, R470) -/

/-- Copy one scale group of a block format. -/
def copyGroup (rd : Reader_) (d s : Tensor) (k : Nat) (rest : List Nat) : List (Nat × Byte) :=
  let g := d.fmt.group
  let so := s.offset ((g * k) :: rest)
  let o := d.offset ((g * k) :: rest)
  let n := min g (d.e 0 - g * k)
  let cs := (List.range n).map fun i => s.code rd (so + i)
  let sb := (rd (s.scaleBase + so / g)).toNat
  if d.fmt = .f4b then f4bGroup d o cs sb
  else
    (List.range g).flatMap (fun i => codeBytes d (o + i) (cs.getD i 0))
      ++ [(d.scaleBase + o / g, BitVec.ofNat 8 sb)]

/-- Copy one swath of an F8A or F8G tensor; a fallback swath takes a slot of its own (R73). -/
def copySwath (rd : Reader_) (old : List Fallback) (size : Nat) (d s : Tensor) (w : Written)
    (c : List Nat) : Written :=
  let n := logical d.swathExt c
  let word := readLe rd (s.wordAddr n) 8
  let wa := d.wordAddr n
  let body := (d.swathIdx c).flatMap fun i => codeBytes d (d.offset i) (s.code rd (s.offset i))
  let held := if word.testBit 17 then
      old.find? fun f => f.slot == word >>> 32 && f.word == s.wordAddr n
    else none
  let rest := w.pool.filter fun f => f.word != wa
  match held with
  | none => { w with bytes := w.bytes ++ body ++ placeAt wa (leBytes 8 word), pool := rest }
  | some f =>
    match freeSlot size w.pool with
    | some k =>
      { w with
        bytes := w.bytes ++ body ++ placeAt wa (leBytes 8 (word % 2 ^ 32 + k * 2 ^ 32))
        fallbacks := w.fallbacks + 1
        peak := max w.peak (w.pool.length + 1)
        pool := { slot := k, word := wa, codes := f.codes } :: rest }
    | none =>
      { w with
        bytes := w.bytes ++ body ++ (List.range 8).map fun i => (wa + i, Config.freeByte (wa + i))
        exhausted := true
        pool := rest }

/-- The scale-record header of a copy. -/
def copyHeader (rd : Reader_) (d s : Tensor) (exhausted : Bool) : List (Nat × Byte) :=
  let h := (List.range 64).map fun i => rd (s.recordBase + i)
  placeAt d.recordBase (if exhausted then 0xFF#8 :: h.drop 1 else h)

/-- Copy a tensor into another of equal format and extents. -/
def copyTensor (rd : Reader_) (old : List Fallback) (size : Nat) (pool : List Fallback)
    (d s : Tensor) : Written :=
  if d.fmt.isF8 then
    let w := (allIdx d.swathExt).foldl (copySwath rd old size d s) (Written.none pool)
    { w with bytes := w.bytes ++ copyHeader rd d s w.exhausted }
  else if d.fmt.group > 1 then
    { Written.none pool with
      bytes := ((groups d d.fmt.group).flatMap fun (k, r) => copyGroup rd d s k r)
        ++ (if d.fmt = .f4b then copyHeader rd d s false else []) }
  else
    { Written.none pool with
      bytes := (allIdx d.ext).flatMap fun i => codeBytes d (d.offset i) (s.code rd (s.offset i)) }

/-- Copy where a footprint lies in flash: swath words go as they are (R102). -/
def copyBytes (rd : Reader_) (pool : List Fallback) (d s : Tensor) : Written :=
  let w := copyTensor rd [] 0 pool d s
  { w with pool := pool }

end Sys2Proof.Machine
end

