-- ==== Sys2Proof/Machine/Matrix.lean ====
section
/-! DEFINITION. MATMUL and MATMUL_GRAD, and what every matrix-family operation shares: operand
pairs, products in the order of R47, predicted scales (R43, R47, R61, R70, R133 to R146). -/

namespace Sys2Proof.Machine
open Sys2Proof

/-! ### Shared by the matrix family -/

/-- The chunk length and product window of an operand pair; nothing where the arrays refuse it (R43). -/
def pairOf (a b : Fmt) : Option (Nat × Option Nat) :=
  let half := fun (f : Fmt) => f == .f16 || f == .bf16
  if a = .f4b && b = .f4b then some (32, none)
  else if a.isF8 && b.isF8 then some (64, none)
  else if (half a && half b) || (a.isF8 && half b) || (half a && b.isF8) then some (32, some 50)
  else none

/-- Twice the array cycles that one T0 tile of an operand pair takes per value of k (R43, R111). -/
def arrayRate (a b : Fmt) : Nat := if a = .f4b && b = .f4b then 1 else if a.isF8 && b.isF8 then 2 else 4

/-- A format that the arrays take in some pair. -/
def arrayFmt (f : Fmt) : Bool := f == .f4b || f.isF8 || f == .f16 || f == .bf16

/-- The formats a matrix-family operation writes (R56, R133). -/
def matrixOut (f : Fmt) : Bool := f == .f32 || f == .f16 || f == .bf16 || f.isF8

def biasFmt (f : Fmt) : Bool := f == .f32 || f == .f16 || f == .bf16

/-- Segments of a reduced index (R47). -/
def segments (k : Nat) : Nat := ceilDiv k 4096

/-- The broadcast of the batch dimensions 2 to 5 (R133). -/
def batchOk (o x : Tensor) : Bool := (List.range 4).all fun k => x.e (k + 2) == o.e (k + 2) || x.e (k + 2) == 1

/-- One matrix product: a value for every output element from its reduced index (R47), then bias and
old value (R134). `terms` gives the products of an output index over the reduced index. -/
def matrixResult (pair : Nat × Option Nat) (terms : List Nat → List (Option Val))
    (bias old : List Nat → Option F32) (idx : List Nat) : F32 :=
  let r := dot pair.2 pair.1 (terms idx)
  let r := match bias idx with | some b => F32.add r b | none => r
  match old idx with | some x => F32.add r x | none => r

/-- The predicted exponent P of a product with its bias and old output (R61). -/
def predictedP (base : Int) (extra : List Int) : Int :=
  if extra.isEmpty then base else extra.foldl max base + 1

/-- `e_x` of the operand in a slot. -/
def expOf (c : Ctx) (i : Nat) (vs : Array Val) : Int :=
  operandExp (c.must i) c.rd fun _ => vs.toList

/-- A predicted operation with this output runs a Skimmer pass over the operands of `ins` that have
no header; their slots (R61). -/
def skimSlots (c : Ctx) (o : Tensor) (ins : List Nat) : List Nat :=
  if measuredSlot o then ins.filter fun i => c.has i && !(c.must i).fmt.isNarrow else []

/-- The Skimmer units of a predicted operation: their number is left open, and the same wherever what the plan
depends on is the same (R109, R122; log entry 2). -/
def skimUnits (c : Ctx) (slots : List Nat) : Nat :=
  if slots.isEmpty then 0 else Config.skimUnits (slots ++ c.planKey)

/-- The Skimmer units at the head of a list, which share the reads evenly: one comparison for each element (R61, R122,
R471). -/
def skimWork (c : Ctx) (slots : List Nat) : Work :=
  let n := skimUnits c slots
  let sum := fun (f : Nat → Nat) => ceilDiv ((slots.map f).foldl (· + ·) 0) (max 1 n)
  { skim := n, units := 0
    skimCost :=
      { loads := sum fun i => (c.must i).numel * c.bitsOf i
        cxl := sum fun i => if c.inCxl i then (c.must i).numel * c.bitsOf i else 0
        ops := sum fun i => (c.must i).numel } }

/-- Indices of the dimensions 2 to 5 together. -/
def higherOf (t : Tensor) : Nat := (t.ext.drop 2).foldl (· * ·) 1

/-! ### MATMUL -/

def matmulTerms (c : Ctx) (a b : Array Val) (idx : List Nat) : List (Option Val) :=
  let A := c.must 1
  let B := c.must 2
  let ta := c.r.modifier.testBit 1
  let tb := c.r.modifier.testBit 2
  let n := idx.getD 0 0
  let m := idx.getD 1 0
  let rest := idx.drop 2
  (List.range (if ta then A.e 1 else A.e 0)).map fun k =>
    some ((pick a .nan A.ext (if ta then m :: k :: rest else k :: m :: rest)).mul
      (pick b .nan B.ext (if tb then n :: k :: rest else k :: n :: rest)))

/-- The product as its plan takes it: A along m, B along n (R114, R135, R471). -/
def matmulProduct (c : Ctx) : Product :=
  let o := c.must 0
  let A := c.must 1
  let m := c.r.modifier
  let x := c.product 0 1 2 (o.e 0) (o.e 1) (if m.testBit 1 then A.e 1 else A.e 0) (higherOf o)
    (arrayRate A.fmt (c.must 2).fmt) (counted o.fmt)
  { x with
    aTurned := m.testBit 1, bTurned := m.testBit 2
    post := x.post + (if c.has 3 then 1 else 0) + (if m.testBit 0 then 1 else 0) }

def matmulRun (c : Ctx) : Effect :=
  let o := c.must 0
  let A := c.must 1
  let k := if c.r.modifier.testBit 1 then A.e 1 else A.e 0
  let a := c.exact 1
  let b := c.exact 2
  let bias := if c.has 3 then c.wide 3 else #[]
  let acc := c.r.modifier.testBit 0
  let old := if acc then c.wide 0 else #[]
  let skim := skimSlots c o [1, 2, 3]
  let pair := (pairOf A.fmt (c.must 2).fmt).getD (32, none)
  let rs := ((allIdx o.ext).map (matrixResult pair (matmulTerms c a b)
    (fun i => if c.has 3 then bias[i.getD 0 0]? else none)
    (fun i => if acc then old[logical o.ext i]? else none))).toArray
  let p := predictedP (expOf c 1 a + expOf c 2 b + lambda k)
    ((if c.has 3 then [expOf c 3 (bias.map F32.val)] else [])
      ++ (if acc then [expOf c 0 (old.map F32.val)] else []))
  let w := writeOut o (c.outSpec (.predicted p)) rs c.pool
  outEffect c [{ t := o, w := w }]
    (if skim.isEmpty then none else some (skimBytes c skim))
    (a.any Val.nonFinite || b.any Val.nonFinite || anyNonFinite bias || anyNonFinite old
      || anyNonFinite rs)
    [[{ skimWork c skim with
        units := quads o, segs := segments k, words := wordsOf o w, shape := .product (matmulProduct c) }]]

def matmulShapes (c : Ctx) : List (Nat × Bool) :=
  let o := c.must 0
  let A := c.must 1
  let B := c.must 2
  let ta := c.r.modifier.testBit 1
  let tb := c.r.modifier.testBit 2
  let k := if ta then A.e 1 else A.e 0
  [(1, (if ta then A.e 0 else A.e 1) == o.e 1 && batchOk o A && !(ta && A.fmt == .f4b)),
   (2, (if tb then B.e 1 else B.e 0) == k && (if tb then B.e 0 else B.e 1) == o.e 0 && batchOk o B
      && !(tb && B.fmt == .f4b)),
   (3, !c.has 3 || ((c.must 3).rank == 1 && (c.must 3).e 0 == o.e 0))]

/-- MATMUL (R133, R134). -/
def matmulOp : Op :=
  { required := fun _ => [0, 1, 2]
    optional := fun _ => [3]
    form := fun r => r.modifier < 8
    reads := fun r => if r.modifier.testBit 0 then [0] else []
    formats := fun c =>
      [(0, matrixOut (c.must 0).fmt), (1, arrayFmt (c.must 1).fmt),
       (2, (pairOf (c.must 1).fmt (c.must 2).fmt).isSome), (3, !c.has 3 || biasFmt (c.must 3).fmt)]
    shapes := matmulShapes
    run := matmulRun }

def execMatmul (p g : Nat) (s : State) : Host.Outcome State Fault Refusal :=
  .next (issue 0x0008 (fun _ => true) matmulOp p g s)

/-! ### MATMUL_GRAD -/

/-- Indices of the batch dimensions that a gradient's reduced index runs over (R137). -/
def batchReduced (o dy : Tensor) : List (List Nat) :=
  allIdx ((List.range 4).map fun k => if o.e (k + 2) = 1 then dy.e (k + 2) else 1)

/-- The reduced index of a gradient product: the inner index fastest, then the batch dimensions. -/
def gradReduced (inner : Nat) (o dy : Tensor) : List (Nat × List Nat) :=
  (batchReduced o dy).flatMap fun b => (List.range inner).map fun j => (j, b)

/-- `dX[k, m, …] = Σ W[k, n, …] × dY[n, m, …]`. -/
def dxTerms (c : Ctx) (dy w : Array Val) (idx : List Nat) : List (Option Val) :=
  let DY := c.must 2
  let W := c.must 4
  (gradReduced (DY.e 0) (c.must 0) DY).map fun (n, b) =>
    let rest := List.zipWith (· + ·) (idx.drop 2) b
    some ((pick w .nan W.ext (idx.getD 0 0 :: n :: rest)).mul
      (pick dy .nan DY.ext (n :: idx.getD 1 0 :: rest)))

/-- `dW[k, n, …] = Σ X[k, m, …] × dY[n, m, …]`. -/
def dwTerms (c : Ctx) (dy x : Array Val) (idx : List Nat) : List (Option Val) :=
  let DY := c.must 2
  let X := c.must 3
  (gradReduced (DY.e 1) (c.must 1) DY).map fun (m, b) =>
    let rest := List.zipWith (· + ·) (idx.drop 2) b
    some ((pick x .nan X.ext (idx.getD 0 0 :: m :: rest)).mul
      (pick dy .nan DY.ext (idx.getD 1 0 :: m :: rest)))

/-- The elements just written, widened, in ascending logical index (R78), those of a window packed together
(DESIGN CHOICE, log entry 117). -/
def storedWide (rd : Reader_) (o : Tensor) (w : Written) (live : List Nat → Bool) : List F32 :=
  let rd := overlay w.bytes rd
  ((allIdx o.ext).filter live).map fun i => F32.ofVal (o.valAt rd w.pool i)

/-- The record of a dW whose window is empty. Its fields T and e_max are not given: they are the same for the
same tensor at every run (R7, R80, R141; log entry 2). -/
def emptyWindow (o : Tensor) (pool : List Fallback) : Outlet :=
  { t := o
    w := { Written.none pool with
      t := Config.emptyRecord o.ident 0 % 256, emax := (Config.emptyRecord o.ident 1 % 65536 : Nat) }
    norms := [(0, 0)] }

/-- Write one gradient output (R138 to R141). -/
def gradOutlet (c : Ctx) (o : Tensor) (rs : Array F32) (p : Int) (live : List Nat → Bool)
    (norm : Bool) (pool : List Fallback) : Outlet :=
  let sp := { c.outSpec (.predicted p) with
    live := live, oldWord := fun n => readLe c.rd (o.wordAddr n) 8 }
  let w := writeOut o sp rs pool
  { t := o, w := w, norms := if norm then [normOf (storedWide c.rd o w live)] else [] }

/-- What one gradient product needs: its slots, its terms and its reduced length. -/
structure GradSide where
  slot : Nat
  other : Nat
  terms : List Nat → List (Option Val)
  len : Nat
  accumulate : Bool
  live : List Nat → Bool
  weights : Bool
  /-- Its product as the plan takes it; every quad of it is split (R180). -/
  product : Product
  split : Bool

/-- Form one product of a gradient instruction: the whole of it, of which the window alone is written and
accumulates (R141). -/
def gradSide (c : Ctx) (dySlot : Nat) (dy other : Array Val) (g : GradSide) (pool : List Fallback) :
    Outlet × Bool :=
  let o := c.must g.slot
  let pair := (pairOf (c.must dySlot).fmt (c.must g.other).fmt).getD (32, none)
  let old := if g.accumulate then c.wide g.slot else #[]
  let rs := ((allIdx o.ext).map fun i =>
    matrixResult pair g.terms (fun _ => none)
      (fun i => if g.accumulate && g.live i then old[logical o.ext i]? else none) i).toArray
  let p := predictedP (expOf c dySlot dy + expOf c g.other other + lambda g.len)
    (if g.accumulate then [expOf c g.slot (old.map F32.val)] else [])
  let oldLive := ((allIdx o.ext).filter g.live).any fun i =>
    match old[logical o.ext i]? with | some x => !x.finite | none => false
  (gradOutlet c o rs p g.live g.weights pool,
   dy.any Val.nonFinite || other.any Val.nonFinite || oldLive || anyNonFinite rs)

/-- Run the products of a gradient instruction with outputs D0 and D1 (R139, R142). Its Skimmer units stand at the head
of the first list (DESIGN CHOICE, log entry 118). -/
def gradRun (c : Ctx) (dySlot xSlot wSlot : Nat) (dx : Array Val → Array Val → GradSide)
    (dw : Array Val → Array Val → GradSide) (window : Bool) : Effect :=
  let m := c.r.modifier
  let dy := c.exact dySlot
  let outs := (if m.testBit 0 then [0] else []) ++ (if m.testBit 1 && window then [1] else [])
  let ins := [dySlot] ++ (if m.testBit 1 && window then [xSlot] else [])
    ++ (if m.testBit 0 then [wSlot] else [])
  let skim := (outs.flatMap fun o => skimSlots c (c.must o)
    (if o = 0 then [dySlot, wSlot] else [dySlot, xSlot])).eraseDups
  let skim := ins.filter fun i => skim.contains i
  let w := if m.testBit 0 then c.exact wSlot else #[]
  let x := if m.testBit 1 && window then c.exact xSlot else #[]
  let r0 := if m.testBit 0 then [gradSide c dySlot dy w (dx dy w) c.pool] else []
  let pool := match r0.getLast? with | some r => r.1.w.pool | none => c.pool
  let r1 := if m.testBit 1 && window then [gradSide c dySlot dy x (dw dy x) pool] else []
  let r1 := if m.testBit 1 && !window then [(emptyWindow (c.must 1) pool, false)] else r1
  let sides := (if m.testBit 0 then [dx dy w] else []) ++ (if m.testBit 1 && window then [dw dy x] else [])
  let list := fun (g : GradSide) (r : Outlet) =>
    let q := quads (c.must g.slot)
    let k := segments g.len
    { (if g.slot = 0 || !m.testBit 0 then skimWork c skim else { units := 0 } : Work) with
      units := if g.split then q * k else q
      segs := k, split := g.split, words := wordsOf r.t r.w, shape := .product g.product
      cycles := g.product.rate * (c.must g.slot).nSwath * g.len }
  outEffect c ((r0 ++ r1).map (·.1)) (if skim.isEmpty then none else some (skimBytes c skim))
    ((r0 ++ r1).any (·.2)) ((sides.zip (r0 ++ r1)).map fun (g, r) => [list g r.1])

/-- The written window of dW's dimension 1, clamped (R140). -/
def gradWindow (c : Ctx) : Nat × Nat := (c.r.p 0, min (c.r.p 1) ((c.must 1).e 1))

def writtenWindow (c : Ctx) (idx : List Nat) : Bool :=
  let (lo, hi) := gradWindow c
  Nat.ble lo (idx.getD 1 0) && Nat.blt (idx.getD 1 0) hi

def reducedLen (inner : Nat) (o dy : Tensor) : Nat := inner * (batchReduced o dy).length

/-- A gradient product as its plan takes it: d-output along m, the other operand along n (R138, R142). -/
def gradProduct (c : Ctx) (out other len : Nat) (accumulate : Bool) : Product :=
  let o := c.must out
  let x := c.product out 2 other (o.e 0) (o.e 1) len (higherOf o) (arrayRate (c.must 2).fmt (c.must other).fmt)
    (counted o.fmt)
  { x with post := x.post + if accumulate then 1 else 0 }

def matmulGradRun (c : Ctx) : Effect :=
  let DY := c.must 2
  let m := c.r.modifier
  gradRun c 2 3 4
    (fun dy w =>
      { slot := 0, other := 4, terms := dxTerms c dy w, len := reducedLen (DY.e 0) (c.must 0) DY,
        accumulate := m.testBit 3, live := fun _ => true, weights := false, split := false
        product := { gradProduct c 0 4 (reducedLen (DY.e 0) (c.must 0) DY) (m.testBit 3) with bTurned := true } })
    (fun dy x =>
      { slot := 1, other := 3, terms := dwTerms c dy x, len := reducedLen (DY.e 1) (c.must 1) DY,
        accumulate := m.testBit 2, live := writtenWindow c, weights := true, split := false
        product := { gradProduct c 1 3 (reducedLen (DY.e 1) (c.must 1) DY) (m.testBit 2) with
          aTurned := true, bTurned := true, lo := (gradWindow c).1, hi := (gradWindow c).2 } })
    ((gradWindow c).1 < (gradWindow c).2)

/-- Modifier and window parameters of the gradient instructions (R139, R140). -/
def gradForm (r : Rec) : Bool :=
  let m := r.modifier
  m < 16 && m % 4 != 0 && (!m.testBit 2 || m.testBit 1) && (!m.testBit 3 || m.testBit 0)

/-- R140 for a narrow dW. -/
def windowOk (c : Ctx) : Bool :=
  let w := c.must 1
  let (lo, hi) := gradWindow c
  !w.fmt.isF8 || (lo % 64 == 0 && (hi % 64 == 0 || hi == w.e 1))

def gradSlots (r : Rec) (always dwOnly dxOnly : List Nat) : List Nat :=
  (if r.modifier.testBit 0 then 0 :: dxOnly else []) ++ (if r.modifier.testBit 1 then 1 :: dwOnly else [])
    ++ always

def matmulGradShapes (c : Ctx) : List (Nat × Bool) :=
  let DY := c.must 2
  [(0, !c.has 0 || ((c.must 0).e 1 == DY.e 1 && batchOk DY (c.must 0))),
   (1, !c.has 1 || ((c.must 1).e 1 == DY.e 0 && batchOk DY (c.must 1) && windowOk c)),
   (2, DY.fmt != .f4b || !c.has 1),
   (3, !c.has 3 || ((c.must 3).e 0 == (c.must 1).e 0 && (c.must 3).e 1 == DY.e 1
      && batchOk DY (c.must 3) && (c.must 3).fmt != .f4b
      && (!c.has 0 || (c.must 0).ext == (c.must 3).ext))),
   (4, !c.has 4 || ((c.must 4).e 0 == (c.must 0).e 0 && (c.must 4).e 1 == DY.e 0
      && batchOk DY (c.must 4) && (c.must 4).fmt != .f4b
      && (!c.has 1 || (c.must 1).ext == (c.must 4).ext)))]

/-- MATMUL_GRAD (R137 to R141). -/
def matmulGradOp : Op :=
  { partly := fun c => if gradWindow c == (0, (c.must 1).e 1) then [] else [1]
    outputs := fun r => (if r.modifier.testBit 0 then [0] else []) ++ (if r.modifier.testBit 1 then [1] else [])
    required := fun r => gradSlots r [2] [3] [4]
    form := fun r => gradForm r && (r.modifier.testBit 1 || (r.p 0 == 0 && r.p 1 == 0))
    params := [0, 1]
    reads := gradReads
    formats := fun c =>
      [(0, !c.has 0 || matrixOut (c.must 0).fmt), (1, !c.has 1 || matrixOut (c.must 1).fmt),
       (2, arrayFmt (c.must 2).fmt),
       (3, !c.has 3 || (pairOf (c.must 2).fmt (c.must 3).fmt).isSome),
       (4, !c.has 4 || (pairOf (c.must 2).fmt (c.must 4).fmt).isSome)]
    shapes := matmulGradShapes
    run := matmulGradRun }

def execMatmulGrad (p g : Nat) (s : State) : Host.Outcome State Fault Refusal :=
  .next (issue 0x0009 (fun _ => true) matmulGradOp p g s)

end Sys2Proof.Machine
end

