-- ==== Sys2Proof/Machine/Attn.lean ====
section
/-! DEFINITION. ROTARY, ATTN_FWD and ATTN_BWD (R151 to R161). -/

namespace Sys2Proof.Machine
open Sys2Proof

/-! ### Rotation (R155) -/

structure Rot where
  base : F32
  nf : Nat
  halves : Bool

/-- Cosine and sine of the angle of pair `j` at a position. -/
def Rot.angle (r : Rot) (pos : Int) (j : Nat) : F32 × F32 :=
  let fr := F32.div (F32.ofNat (2 * j)) (F32.ofNat r.nf)
  let ang := F32.mul (F32.ofInt pos) (F32.exp2 (F32.mul (F32.neg fr) (F32.log2 r.base)))
  (F32.cos ang, F32.sin ang)

/-- Rotate a feature row at a position, or rotate it back. -/
def Rot.apply (r : Rot) (inverse : Bool) (pos : Int) (x : List F32) : List F32 :=
  let h := r.nf / 2
  let angles := (List.range h).map (r.angle pos)
  let at_ := fun (i : Nat) => x.getD i 0
  x.zipIdx.map fun (v, i) =>
    if r.nf ≤ i then v
    else
      let (j, second) := if r.halves then (i % h, Nat.ble h i) else (i / 2, i % 2 == 1)
      let (a, b) := if r.halves then (j, j + h) else (2 * j, 2 * j + 1)
      let (c, s) := angles.getD j (0, 0)
      match second, inverse with
      | false, false => F32.sub (F32.mul (at_ a) c) (F32.mul (at_ b) s)
      | false, true => F32.add (F32.mul (at_ a) c) (F32.mul (at_ b) s)
      | true, false => F32.add (F32.mul (at_ a) s) (F32.mul (at_ b) c)
      | true, true => F32.sub (F32.mul (at_ b) c) (F32.mul (at_ a) s)

/-- The patches of ROTARY: a pair of rotated features takes twelve lane operations, a feature beyond them none but its
conversion (R155, R471). -/
def rotaryWork (c : Ctx) : Work :=
  let o := c.must 0
  let e := c.elemCost [1] 0 0 (counted o.fmt)
  let w := max 1 (ceilDiv (o.e 0) 256)
  let h := max 1 (ceilDiv (o.e 1) 16)
  { units := patches o
    shape := .listed ((List.range (patches o)).map fun i =>
      let x := 256 * (i % w)
      let rows := min 16 (o.e 1 - 16 * (i / w % h))
      (e.scale (min 256 (o.e 0 - x) * rows)).plus { ops := 6 * min 256 (min (o.e 0) (c.r.p 0) - x) * rows }) }

def rotaryRun (c : Ctx) : Effect :=
  let o := c.must 0
  let x := c.spread o 1
  let n := o.e 0
  let rot : Rot := { base := c.r.pf 1, nf := c.r.p 0, halves := c.r.modifier == 1 }
  let pos := fun (i : Nat) =>
    match c.t 2 with
    | some t => Fmt.i32.intOf (t.code c.rd (t.offset [i]))
    | none => (i : Int)
  let rs := (allIdx (1 :: o.ext.drop 1)).flatMap fun i =>
    let row := (List.range n).map fun f => (x[logical o.ext (f :: i.drop 1)]?).getD 0
    rot.apply false (pos (i.getD 1 0)) row
  measured c 0 [1, 2] rs.toArray
    (anyNonFinite x || !(c.r.pf 1).finite || rs.any fun v => !v.finite) (rotaryWork c)

/-- ROTARY (R102, R155). -/
def rotaryOp : Op :=
  { required := fun _ => [0, 1]
    optional := fun _ => [2]
    form := fun r => r.modifier < 2 && r.p 0 % 2 == 0
    params := [0, 1]
    relate := fun c => [(1, [1], c.r.p 0 ≤ (c.must 1).e 0)]
    formats := fun c => [(2, !c.has 2 || (c.must 2).fmt == .i32)]
    shapes := fun c =>
      [(1, batchFits (c.must 0) (c.must 1)),
       (2, !c.has 2 || (c.must 2).ext == [(c.must 0).e 1, 1, 1, 1, 1, 1])]
    inPlace := fun _ _ j => j == 1
    run := rotaryRun }

def execRotary (p g : Nat) (s : State) : Host.Outcome State Fault Refusal :=
  .next (issue 0x0022 (fun _ => true) rotaryOp p g s)

/-! ### Sequences and masks (R153) -/

structure Seq where
  q : Nat
  k : Nat
  qAt : Nat
  kAt : Nat

/-- The length table: pairs of query and key length. -/
def lengthTable (rd : Reader_) (t : Tensor) : List (Int × Int) :=
  (List.range (t.e 1)).map fun b =>
    (Fmt.i32.intOf (t.code rd (t.offset [0, b])), Fmt.i32.intOf (t.code rd (t.offset [1, b])))

def packSeqs : Nat → Nat → List (Int × Int) → List Seq
  | _, _, [] => []
  | a, b, (q, k) :: r => ⟨q.toNat, k.toNat, a, b⟩ :: packSeqs (a + q.toNat) (b + k.toNat) r

def seqsOf (c : Ctx) (slot : Nat) : List Seq := packSeqs 0 0 (lengthTable c.rd (c.must slot))

/-- What the modifier and parameters of an attention instruction say (R152). -/
structure AttnForm where
  mask : Nat
  window : Nat
  scale : F32
  rot : Option Rot
  group : Nat

def attnForm (r : Rec) : AttnForm :=
  { mask := r.modifier % 4, window := r.p 2, scale := r.pf 0
    rot := if r.p 1 = 0 then none
      else some { base := r.pf 1, nf := r.p 3 % 65536, halves := (r.p 3).testBit 16 }
    group := r.p 5 }

/-- The valid keys of query `i`, as a range (R153). -/
def AttnForm.valid (f : AttnForm) (sq : Seq) (i : Nat) : Nat × Nat :=
  let pos : Int := (sq.k : Int) - sq.q + i
  let hi := if f.mask = 0 then sq.k else min sq.k (pos + 1).toNat
  let lo := if f.mask = 2 then (pos + 1 - f.window).toNat else 0
  (min lo hi, hi)

/-- An operand row as it enters the arrays: stored, or rotated and rounded to BF16 (R155). -/
def AttnForm.enter (f : AttnForm) (pos : Int) (x : List Val) : List Val :=
  match f.rot with
  | none => x
  | some r =>
    (r.apply false pos (x.map F32.ofVal)).map fun v =>
      Fmt.bf16.layout.decode (Fmt.bf16.layout.convert v.val .nearest).1

/-- The format an operand has in the arrays. -/
def AttnForm.fmt (f : AttnForm) (x : Fmt) : Fmt := if f.rot.isSome then .bf16 else x

def pairOr (a b : Fmt) : Nat × Option Nat := (pairOf a b).getD (32, some 50)

/-- A product sum over two lists, `none` where there is no product. -/
def dotOf (pair : Nat × Option Nat) (a b : List Val) : F32 :=
  dot pair.2 pair.1 (List.zipWith (fun x y => some (x.mul y)) a b)

/-! ### One row, forward (R156) -/

/-- Rounding to F16, nearest-even. -/
def toF16 (x : F32) : Val := Fmt.f16.layout.decode (Fmt.f16.layout.convert x.val .nearest).1

def toBF16 (x : F32) : Val := Fmt.bf16.layout.decode (Fmt.bf16.layout.convert x.val .nearest).1

/-- The running state of a row: whether a segment has been folded, M, L, O and the flag of R45. -/
structure RowState where
  first : Bool
  m : F32
  l : F32
  o : List F32
  bad : Bool

/-- A row's keys: scores of its valid range, and value rows by feature. -/
structure RowKeys where
  lo : Nat
  hi : Nat
  k : Nat
  d : Nat
  z : Nat → F32
  v : Nat → List Val
  pair : Nat × Option Nat

def badL (l : List F32) : Bool := l.any fun x => !x.finite

/-- Form key segment `s` of a row and fold it in. -/
def foldSegment (r : RowKeys) (st : RowState) (s : Nat) : RowState :=
  let n := min 512 (r.k - 512 * s)
  let js := (List.range n).map fun u => 512 * s + u
  let live := fun (j : Nat) => Nat.ble r.lo j && Nat.blt j r.hi
  match (js.filter live).map r.z with
  | [] => st
  | z0 :: zs =>
    let m := zs.foldl F32.max z0
    let e := js.map fun j => if live j then F32.exp (F32.sub (r.z j) m) else 0
    let h := e.map toF16
    let l := vsum (h.map F32.ofVal)
    let vs := (js.map fun j => if live j then r.v j else [])
    let o := (List.range r.d).map fun f =>
      dot r.pair.2 r.pair.1 ((js.zip (h.zip vs)).map fun (j, x, v) =>
        if live j then some (x.mul (v.getD f .nan)) else none)
    let bad := badL (z0 :: zs) || badL e || badL (l :: o)
      || (zs.any fun z => !(F32.sub z m).finite) || !(F32.sub z0 m).finite
    if st.first then { first := false, m := m, l := l, o := o, bad := st.bad || bad }
    else
      let mn := F32.max st.m m
      let da := F32.sub st.m mn
      let dc := F32.sub m mn
      let a := F32.exp da
      let cc := F32.exp dc
      let l' := F32.add (F32.mul a st.l) (F32.mul cc l)
      let o' := List.zipWith (fun x y => F32.add (F32.mul a x) (F32.mul cc y)) st.o o
      { first := false, m := mn, l := l', o := o'
        bad := st.bad || bad || badL [da, dc, a, cc, l'] || badL o' }

/-- The row after every segment; `first` still set where no key is valid. -/
def attnRow (r : RowKeys) : RowState :=
  (List.range (ceilDiv r.k 512)).foldl (foldSegment r) ⟨true, 0, 0, List.replicate r.d 0, false⟩

/-! ### Work units (R161) -/

/-- Segments that hold a key valid for one of the rows of a block, and whether the block's key range
spans more than one. -/
def blockSegments (f : AttnForm) (sq : Seq) (i0 i1 : Nat) : Nat :=
  let rs := ((List.range (i1 - i0)).map fun i => f.valid sq (i0 + i)).filter fun r => r.1 < r.2
  ((List.range (ceilDiv sq.k 512)).filter fun s =>
    rs.any fun r => Nat.blt r.1 (512 * (s + 1)) && Nat.blt (512 * s) r.2).length

/-- The segment count of each row-block unit, in enumeration order. -/
def rowBlocks (f : AttnForm) (seqs : List Seq) (hkv : Nat) : List Nat :=
  (seqs.filter fun sq => 0 < sq.q).flatMap fun sq =>
    let rows := sq.q * f.group
    let blocks := (List.range (ceilDiv rows 64)).map fun b =>
      blockSegments f sq (64 * b / f.group) ((min rows (64 * (b + 1)) + f.group - 1) / f.group)
    (List.range hkv).flatMap fun _ => blocks

/-- The split of R161: whole units, segment units, fold units. -/
def splitUnits (strips : Nat) (blocks : List Nat) : Nat × Nat × Nat :=
  if blocks.length < 64 * strips && blocks.any fun n => 1 < n then
    let cut := blocks.filter fun n => 1 < n
    (blocks.length - cut.length, cut.foldl (· + ·) 0, cut.length)
  else (blocks.length, 0, 0)

/-- A row block: its rows, the number of keys in its key range, and those of them in each key segment. -/
structure BlockRange where
  rows : Nat
  keys : Nat
  segs : List Nat

/-- The row blocks in enumeration order (R161). -/
def blockRanges (f : AttnForm) (seqs : List Seq) (hkv : Nat) : List BlockRange :=
  (seqs.filter fun sq => 0 < sq.q).flatMap fun sq =>
    let rows := sq.q * f.group
    let blocks := (List.range (ceilDiv rows 64)).map fun b =>
      let top := min rows (64 * (b + 1))
      let i0 := 64 * b / f.group
      let rs := ((List.range (ceilDiv top f.group - i0)).map fun i => f.valid sq (i0 + i)).filter fun r => r.1 < r.2
      let lo := (rs.map (·.1)).foldl min sq.k
      let hi := (rs.map (·.2)).foldl max 0
      let segs := ((List.range (ceilDiv sq.k 512)).filter fun s =>
        rs.any fun r => Nat.blt r.1 (512 * (s + 1)) && Nat.blt (512 * s) r.2).map fun s =>
          min hi (512 * (s + 1)) - max lo (512 * s)
      { rows := top - 64 * b, keys := hi - lo, segs := segs }
    (List.range hkv).flatMap fun _ => blocks

/-- What the units of an attention instruction cost depends on: the head dimension, twice the array cycles per value
of its pairs, the bits of a row and of a key, and of the outputs (R161). -/
structure AttnCost where
  d : Nat
  score : Nat
  value : Nat
  product : Nat := 4
  row : Nat
  key : Nat
  outBits : Nat
  counts : Bool
  out : Bool
  cxl : Bool
  keyBits : Nat := 0
  keyCounts : Nat := 0

namespace AttnCost

/-- A product of `rows` by `n` outputs over `k`: whole T0 tiles, at a pair's rate; a tile with a masked lane counts as
masked (R111, R120). -/
def tiles (rate rows n k : Nat) : Cost :=
  let one := ceilDiv (rate * k) 2
  let whole := rows / 64 * (n / 64)
  let all := ceilDiv rows 64 * ceilDiv n 64
  { array := all * one, rate := rate, tiles := all, masked := (all - whole) * one
    sixteen := if rate = 4 then all * one else 0 }

/-- Scores, exponentials, sums and value products of `n` keys for `rows` rows (R156). The vector unit's part is taken
as R471 counts it elsewhere (DEDUCED, log entry 135). -/
def block (a : AttnCost) (rows n : Nat) : Cost :=
  Cost.sum [tiles a.score rows n a.d, tiles a.value rows a.d n,
    { loads := rows * a.row + n * a.key, cxl := if a.cxl then rows * a.row + n * a.key else 0, ops := 6 * rows * n }]

/-- The segment fold of `n` segments, the division, and the conversion (R156). -/
def finish (a : AttnCost) (rows n : Nat) : Cost :=
  { ops := rows * ((n - 1) * (8 + 3 * a.d) + 2 * a.d + 2), stores := rows * a.d * a.outBits, out := a.out
    counted := if a.counts then rows * a.d else 0 }

/-- The units of a row block in the first phase (R161). -/
def forward (a : AttnCost) (split : Bool) (b : BlockRange) : List Cost :=
  if split && 1 < b.segs.length then
    b.segs.map fun n => (a.block b.rows n).plus { stores := 64 * (a.d + 2) * 32, part := true }
  else [(a.block b.rows b.keys).plus (a.finish b.rows b.segs.length)]

/-- The fold unit of a row block that was split. -/
def fold (a : AttnCost) (b : BlockRange) : List Cost :=
  if 1 < b.segs.length then
    [(a.finish b.rows b.segs.length).plus { loads := b.segs.length * 64 * (a.d + 2) * 32 }]
  else []

/-- A unit of phase A of ATTN_BWD (R159, R160). -/
def stats (a : AttnCost) (b : BlockRange) : Cost :=
  (a.block b.rows b.keys).plus { ops := b.rows * (b.segs.length * (8 + 3 * a.d) + 3 * a.d + 2), stores := 64 * b.rows }

/-- A row unit of the second phase: three products. -/
def rowUnit (a : AttnCost) (b : BlockRange) : Cost :=
  Cost.sum [tiles a.score b.rows b.keys a.d, tiles a.product b.rows b.keys a.d, tiles 4 b.rows a.d b.keys,
    { loads := b.rows * (a.row + 64) + b.keys * a.key, cxl := if a.cxl then b.rows * a.row + b.keys * a.key else 0
      ops := 7 * b.rows * b.keys + 2 * b.rows * a.d, stores := b.rows * a.d * a.outBits, out := a.out
      counted := if a.counts then b.rows * a.d else 0 }]

/-- The key units: 64 positions of one sequence and key-value head over its whole row list; four products. -/
def keyUnits (a : AttnCost) (f : AttnForm) (seqs : List Seq) (hkv : Nat) : List Cost :=
  seqs.flatMap fun sq => (List.range hkv).flatMap fun _ => (List.range (ceilDiv sq.k 64)).map fun i =>
    let n := min 64 (sq.k - 64 * i)
    let rows := sq.q * f.group
    Cost.sum [tiles a.score rows n a.d, tiles a.product rows n a.d, tiles a.value n a.d rows, tiles 4 n a.d rows,
      { loads := rows * (a.row + 64) + n * a.key, cxl := if a.cxl then rows * a.row + n * a.key else 0
        ops := 8 * rows * n + 2 * n * a.d, stores := n * a.d * a.keyBits, out := a.out, counted := n * a.d * a.keyCounts }]

end AttnCost

/-! ### ATTN_FWD -/

def paged (r : Rec) : Bool := r.modifier.testBit 2

/-- The page of a pool as one tensor, its scale record after its elements (R162, R167). -/
def pageTensor (pool : Tensor) (n : Nat) : Tensor :=
  { pool with addr := pageAddr pool.addr n, rank := 2, ext := [pool.e 0, 128, 1, 1, 1, 1],
              str := [1, pool.e 0, 0, 0, 0, 0] }

/-- A reader under which a page's record slot stands after its elements. -/
def pageReader (rd : Reader_) (pool : Tensor) (n : Nat) : Reader_ := fun a =>
  let e := pageAddr pool.addr n + 32768
  if a < e then rd a else rd (slotAddr pool.addr (pool.e 2) n + (a - e))

/-- Head groups: key-value heads in one page row (R162). -/
def headGroup (pool : Tensor) (d : Nat) : Nat := pool.e 0 / max 1 d

/-- The row of a cache page: the features of one key or value (R162, R166). -/
def pageRow (rd : Reader_) (pool : Tensor) (d n row slot : Nat) : List Val :=
  if pool.e 2 ≤ n then List.replicate d Val.zero
  else
    let t := pageTensor pool n
    (List.range d).map fun f => t.valAt (pageReader rd pool n) [] [slot * d + f, row]

/-- The key (`side` 0) or value (1) at position `j` of a sequence for one key-value head. -/
def cacheRow (rd : Reader_) (pool table : Tensor) (d b hkv side j : Nat) : List Val :=
  let g := headGroup pool d
  pageRow rd pool d (entryAt rd table (2 * (j / 128) + side) b (hkv / g)) (j % 128) (hkv % g)

/-- The feature row of a tensor of extents (d, tokens, heads). -/
def tokenRow (t : Tensor) (a : Array Val) (tok h : Nat) : List Val :=
  (List.range (t.e 0)).map fun f => (a[logical t.ext [f, tok, h]]?).getD .nan

/-- The rows of keys or values of one sequence and head, as they are stored. -/
def sideRows (c : Ctx) (kv : Array Val) (side : Nat) (slot d : Nat) (b : Nat) (sq : Seq) (hkv : Nat) :
    Array (List Val) :=
  ((List.range sq.k).map fun j =>
    if paged c.r then cacheRow c.rd (c.must 2) (c.must 6) d b hkv side j
    else tokenRow (c.must slot) kv (sq.kAt + j) hkv).toArray

/-- What one row of ATTN_FWD gives: token, head, features, log-sum-exp, flag. -/
structure RowResult where
  tok : Nat
  head : Nat
  out : List F32
  lse : F32
  bad : Bool

/-- Whether any value of a list of operand rows is NaN or an infinity. -/
def rowsBad (a : List (List Val)) : Bool := a.any fun r => r.any Val.nonFinite

/-- The rows of one sequence under one key-value head (R156, R157). -/
def attnHead (c : Ctx) (f : AttnForm) (q : Array Val) (ks vs : Array (List Val)) (kf vf : Fmt)
    (sq : Seq) (hkv : Nat) : List RowResult :=
  let Q := c.must 1
  let d := Q.e 0
  let kr := (ks.toList.zipIdx.map fun (x, j) => f.enter (j : Int) x).toArray
  (List.range sq.q).flatMap fun i => (List.range f.group).map fun h' =>
    let h := f.group * hkv + h'
    let raw := tokenRow Q q (sq.qAt + i) h
    let qr := f.enter ((sq.k : Int) - sq.q + i) raw
    let (lo, hi) := f.valid sq i
    let z := ((List.range (hi - lo)).map fun u =>
      F32.mul (dotOf (pairOr (f.fmt Q.fmt) (f.fmt kf)) qr (kr.getD (lo + u) [])) f.scale).toArray
    let r : RowKeys :=
      { lo := lo, hi := hi, k := sq.k, d := d, z := fun j => z.getD (j - lo) 0,
        v := fun j => vs.getD j [], pair := pairOr .f16 vf }
    let st := attnRow r
    if lo = hi then ⟨sq.qAt + i, h, List.replicate d 0, F32.negInf, false⟩
    else
      let zs := z.toList
      if zs.any (fun x => x.val.isNan || x == F32.posInf) || zs.all fun x => x == F32.negInf then
        ⟨sq.qAt + i, h, List.replicate d F32.nan, F32.nan, true⟩
      else
        let out := st.o.map fun x => F32.div x st.l
        let lg := F32.log st.l
        let lse := F32.add st.m lg
        let used := (List.range (hi - lo)).map fun u => lo + u
        ⟨sq.qAt + i, h, out, lse,
          st.bad || badL (lg :: lse :: out) || raw.any Val.nonFinite
            || rowsBad (used.map fun j => ks.getD j []) || rowsBad (used.map fun j => vs.getD j [])⟩

/-- Place row results in a tensor of extents (d, tokens, heads). -/
def placeRows (o : Tensor) (rows : List RowResult) : Array F32 :=
  rows.foldl (fun a r => r.out.zipIdx.foldl (fun a (x, f) =>
    a.setIfInBounds (logical o.ext [f, r.tok, r.head]) x) a) (Array.replicate o.numel 0)

def livetok (seqs : List Seq) (idx : List Nat) (dim : Nat) : Bool :=
  Nat.blt (idx.getD dim 0) ((seqs.map (·.q)).foldl (· + ·) 0)

/-- Some row of a sequence has a valid key among the positions from `lo` up to `hi`. -/
def AttnForm.needs (f : AttnForm) (sq : Seq) (lo hi : Nat) : Bool :=
  (List.range sq.q).any fun i => let r := f.valid sq i; Nat.blt (max r.1 lo) (min r.2 hi)

/-- The largest exponent of the values an operand brings (R61); for a pool, of the value pages that
the walk names for its rows (R168). DEDUCED, log entry 12. -/
def valueExp (c : Ctx) (f : AttnForm) (seqs : List Seq) (v : Array Val) (d hkv : Nat) : Int :=
  if paged c.r then
    let pool := c.must 2
    let table := c.must 6
    let g := headGroup pool d
    if pool.fmt.isF8 then
      let pages := seqs.zipIdx.flatMap fun (sq, b) =>
        let es := (List.range (ceilDiv sq.k 128)).filter fun e => f.needs sq (128 * e) (128 * (e + 1))
        (List.range (ceilDiv hkv (max 1 g))).flatMap fun gi =>
          es.map fun e => entryAt c.rd table (2 * e + 1) b gi
      (pages.filter fun n => n < pool.e 2).foldl (fun a n =>
        let e := (pageTensor pool n).headEmax (pageReader c.rd pool n)
        max a (if e = -32768 then -150 else e)) (-150)
    else
      let rows := seqs.zipIdx.flatMap fun (sq, b) =>
        let js := (List.range sq.k).filter fun j => f.needs sq j (j + 1)
        (List.range hkv).flatMap fun h => js.map fun j => cacheRow c.rd pool table d b h 1 j
      match (maxFiniteMag (rows.flatMap id)).expo with | some e => e | none => -150
  else expOf c 3 v

def attnFwdRun (c : Ctx) : Effect :=
  let f := attnForm c.r
  let o := c.must 0
  let Q := c.must 1
  let d := Q.e 0
  let hkv := Q.e 2 / f.group
  let seqs := seqsOf c 4
  let q := c.exact 1
  let k := if paged c.r then #[] else c.exact 2
  let v := if paged c.r then #[] else c.exact 3
  let vSlot := if paged c.r then 2 else 3
  let skim := if measuredSlot o && !(c.must vSlot).fmt.isNarrow then [vSlot] else []
  let rows := seqs.zipIdx.flatMap fun (sq, b) =>
    if sq.q = 0 then [] else (List.range hkv).flatMap fun h =>
      attnHead c f q (sideRows c k 0 2 d b sq h) (sideRows c v 1 3 d b sq h)
        (c.must 2).fmt (c.must vSlot).fmt sq h
  let live := fun i => livetok seqs i 1
  let w := writeOut o { c.outSpec (.predicted (valueExp c f seqs v d hkv)) with live := live }
    (placeRows o rows) c.pool
  let lse := if c.has 5 then
      let t := c.must 5
      let a := rows.foldl (fun a r => a.setIfInBounds (logical t.ext [r.tok, r.head]) r.lse)
        (Array.replicate t.numel (0 : F32))
      let w5 := writeOut t { c.outSpec .measured with live := fun i => livetok seqs i 0 } a w.pool
      [({ t := t, w := { w5 with nonFinite := false }, copied := true } : Outlet)]
    else []
  let (whole, segs, folds) := splitUnits (c.s.stripsOf c.p).length (rowBlocks f seqs hkv)
  let vFmt := (c.must vSlot).fmt
  let a : AttnCost :=
    { d := d, score := arrayRate (f.fmt Q.fmt) (f.fmt (c.must 2).fmt), value := arrayRate .f16 vFmt
      row := d * Q.fmt.bits, key := d * ((c.must 2).fmt.bits + vFmt.bits), outBits := o.fmt.bits
      counts := counted o.fmt, out := c.inCxl 0, cxl := c.inCxl 1 }
  let blocks := blockRanges f seqs hkv
  let split := folds != 0
  let e := outEffect c ({ t := o, w := w } :: lse)
    (if skim.isEmpty then none else some (skimBytes c skim)) (rows.any (·.bad))
    [{ skimWork c skim with
        units := whole + segs, words := wordsOf o w, shape := .listed (blocks.flatMap (a.forward split)) }
      :: (if split then [{ units := folds, words := wordsOf o w, shape := .listed (blocks.flatMap a.fold) }] else [])]
  if paged c.r then
    let pool := c.must 2
    let pl := openPool c.s c.p pool.addr (pool.e 2)
    { e with s := storePool e.s c.p pl, reader := some (pool.addr, pool.e 2, pl.epoch) }
  else e

/-- What R152 asks of an attention record's modifier and parameters. -/
def attnParamsOk (r : Rec) : Bool :=
  r.modifier % 4 != 3 && (r.pf 0).finite
    && (r.p 1 == 0 || ((r.pf 1).finite && F32.gt (r.pf 1) 0))
    && (if r.modifier % 4 = 2 then 1 ≤ r.p 2 && r.p 2 < 2 ^ 31 else r.p 2 == 0)
    && (if r.p 1 = 0 then r.p 3 == 0
        else r.p 3 < 2 ^ 17 && r.p 3 % 65536 % 2 == 0 && 2 ≤ r.p 3 % 65536)
    && 1 ≤ r.p 5

def attnIn (f : Fmt) : Bool := f.isF8 || f == .f16 || f == .bf16

def headDimOk (d : Nat) : Bool := 16 ≤ d && d ≤ 256 && d % 16 == 0

/-- The length table can be read: I32 of extents (2, S). -/
def tableReadable (t : Tensor) : Bool := t.fmt == .i32 && t.e 0 == 2

/-- Step 3 of a length table (R154): no negative length, and the sums within the tokens. -/
def lengthsFit (c : Ctx) (slot tq tk : Nat) : Bool :=
  let t := c.must slot
  !tableReadable t ||
    (let ls := lengthTable c.rd t
     ls.all (fun x => 0 ≤ x.1 && 0 ≤ x.2) &&
       (ls.map fun x => x.1.toNat).foldl (· + ·) 0 ≤ tq &&
       (ls.map fun x => x.2.toNat).foldl (· + ·) 0 ≤ tk)

/-- Paged lengths: within the table's row, and no more sequences than it holds (R154). -/
def pagedFit (c : Ctx) (slot tq : Nat) (table : Tensor) : Bool :=
  let t := c.must slot
  !tableReadable t ||
    (let ls := lengthTable c.rd t
     ls.all (fun x => 0 ≤ x.1 && 0 ≤ x.2 && x.2.toNat ≤ 64 * table.e 0) &&
       (ls.map fun x => x.1.toNat).foldl (· + ·) 0 ≤ tq && ls.length ≤ table.e 1)

/-- The pool descriptor's shape (R162, R163). -/
def poolShape (t : Tensor) : Bool :=
  let b := t.fmt.bits / 8
  t.rank == 3 && t.ext == [256 / b, 128, t.e 2, 1, 1, 1] && t.str == [1, 256 / b, 32768 / b, 0, 0, 0]
    && 1 ≤ t.e 2 && t.e 2 ≤ 16777216 && t.addr % 32768 == 0 && !t.flags.testBit 1
    && windowOf t.addr == some .hbm

def headBytesOk (pool : Tensor) (d : Nat) : Bool :=
  [16, 32, 64, 128, 256].contains (d * (pool.fmt.bits / 8))

/-- The pool header is read and names the pool's extent (R165). -/
def poolHeaderOk (c : Ctx) (pool : Tensor) : Bool :=
  readLe c.rd (poolHeader pool.addr (pool.e 2)) 4 == pool.e 2

/-- The page table's base and header (R166), given the pool it must name and the heads it must hold. A head of
no size that R162 allows has no group, and fails at step 4 instead. -/
def tableHeaderOk (c : Ctx) (table pool : Tensor) (d hkv : Nat) : Bool :=
  let base := tablePool c.rd table
  table.addr % 256 == 0 && base % 32768 == 0 && base == pool.addr
    && ((c.s.pad c.p).allocOf (poolHeader base (pool.e 2)) 64).isSome
    && (!headBytesOk pool d || hkv ≤ table.e 2 * headGroup pool d)

def attnFwdShapes (c : Ctx) : List (Nat × Bool) :=
  let Q := c.must 1
  let d := Q.e 0
  let hq := Q.e 2
  let g := c.r.p 5
  let flat := fun (t : Tensor) => [t.e 3, t.e 4, t.e 5] == [1, 1, 1]
  [(0, (c.must 0).ext == Q.ext && flat Q), (1, headDimOk d && hq % g == 0)]
    ++ (if paged c.r then
        [(2, poolShape (c.must 2) && headBytesOk (c.must 2) d)]
      else
        [(2, (c.must 2).e 0 == d && (c.must 2).e 2 * g == hq && flat (c.must 2)),
         (3, (c.must 3).ext == (c.must 2).ext)])
    ++ [(4, (c.must 4).e 0 == 2 && (c.must 4).ext.drop 2 == [1, 1, 1, 1]),
        (5, !c.has 5 || (c.must 5).ext == [Q.e 1, hq, 1, 1, 1, 1]),
        (6, !c.has 6 || ((c.must 6).rank == 3 && (c.must 6).e 0 % 2 == 0))]

/-- Bytes of the partial area of R161. -/
def partialArea (c : Ctx) : Nat :=
  let f := attnForm c.r
  let d := (c.must 1).e 0
  let (_, segs, _) := splitUnits (c.s.stripsOf c.p).length
    (rowBlocks f (seqsOf c 4) ((c.must 1).e 2 / max 1 f.group))
  ceilDiv (segs * 64 * (d + 2) * 4) 32768

/-- ATTN_FWD (R151 to R158). -/
def attnFwdOp : Op :=
  { partly := fun _ => [0, 5]
    required := fun r => if paged r then [0, 1, 2, 4, 6] else [0, 1, 2, 3, 4]
    optional := fun _ => [5]
    form := fun r => r.modifier < 8 && attnParamsOk r
    params := [0, 1, 2, 3, 5]
    noHeader := fun c => if paged c.r then [2] else []
    foot := fun c i =>
      if paged c.r && i = 2 then some (poolFoot ((c.must 2).e 2))
      else if i = 6 then (c.t 6).map tableFoot else none
    relate := fun c =>
      let d := (c.must 1).e 0
      [(1, [1], c.r.p 5 ≤ (c.must 1).e 2 && (c.r.p 1 == 0 || c.r.p 3 % 65536 ≤ d))]
      ++ (if paged c.r then
          [(2, [2], poolHeaderOk c (c.must 2)),
           (6, [1, 2, 6], tableHeaderOk c (c.must 6) (c.must 2) d ((c.must 1).e 2 / max 1 (c.r.p 5)))]
        else [])
    lengths := fun c =>
      [(4, if paged c.r then pagedFit c 4 ((c.must 1).e 1) (c.must 6)
        else lengthsFit c 4 ((c.must 1).e 1) ((c.must 2).e 1))]
    formats := fun c =>
      [(0, matrixOut (c.must 0).fmt), (1, attnIn (c.must 1).fmt), (2, attnIn (c.must 2).fmt),
       (3, !c.has 3 || attnIn (c.must 3).fmt), (4, (c.must 4).fmt == .i32),
       (5, !c.has 5 || (c.must 5).fmt == .f32), (6, !c.has 6 || (c.must 6).fmt == .u32)]
    shapes := attnFwdShapes
    area := partialArea
    run := attnFwdRun }

def execAttnFwd (p g : Nat) (s : State) : Host.Outcome State Fault Refusal :=
  .next (issue 0x0010 (fun _ => true) attnFwdOp p g s)

/-! ### ATTN_BWD (R159, R160) -/

/-- What the backward pass knows of one query row of a (sequence, key-value head) row list. -/
structure BackRow where
  i : Nat
  head : Nat
  lo : Nat
  hi : Nat
  qr : List Val
  dO : List Val
  ph : Array Val
  ds : Array Val
  bad : Bool

/-- Phase A and the products of one row (R159). -/
def backRow (f : AttnForm) (Q K V DO : Tensor) (q dO : Array Val) (kr vs : Array (List Val))
    (sq : Seq) (hkv i h' : Nat) : BackRow :=
  let d := Q.e 0
  let h := f.group * hkv + h'
  let raw := tokenRow Q q (sq.qAt + i) h
  let qr := f.enter ((sq.k : Int) - sq.q + i) raw
  let go := tokenRow DO dO (sq.qAt + i) h
  let (lo, hi) := f.valid sq i
  let js := (List.range (hi - lo)).map fun u => lo + u
  let z := (js.map fun j =>
    F32.mul (dotOf (pairOr (f.fmt Q.fmt) (f.fmt K.fmt)) qr (kr.getD j [])) f.scale).toArray
  let st := attnRow
    { lo := lo, hi := hi, k := sq.k, d := d, z := fun j => z.getD (j - lo) 0,
      v := fun j => vs.getD j [], pair := pairOr .f16 V.fmt }
  let out := st.o.map fun x => F32.div x st.l
  let lse := F32.add st.m (F32.log st.l)
  let t := List.zipWith (fun a b => F32.mul (F32.ofVal a) b) go out
  let D := vsum t
  let ws := js.map fun j =>
    let e := F32.sub (z.getD (j - lo) 0) lse
    let p := F32.exp e
    let dp := dotOf (pairOr DO.fmt V.fmt) go (vs.getD j [])
    let u := F32.sub dp D
    let x := F32.mul p u
    (toF16 p, toBF16 x, badL [e, p, dp, u, x])
  { i := i, head := h, lo := lo, hi := hi, qr := qr, dO := go
    ph := (ws.map (·.1)).toArray, ds := (ws.map (·.2.1)).toArray
    bad := lo < hi && (st.bad || badL (lse :: D :: out) || badL t || (ws.any (·.2.2))
      || raw.any Val.nonFinite || go.any Val.nonFinite || rowsBad (js.map fun j => vs.getD j [])
      || rowsBad (js.map fun j => kr.getD j [])) }

/-- Scale a gradient row by P0 and rotate it back; +0 where nothing contributed. -/
def finishGrad (f : AttnForm) (any : Bool) (pos : Int) (sum : List F32) : List F32 :=
  if !any then sum.map fun _ => 0
  else
    let x := sum.map fun v => F32.mul f.scale v
    match f.rot with | none => x | some r => r.apply true pos x

/-- A gradient row: its token, head, and features. -/
abbrev GradRow := Nat × Nat × List F32

def placeGrad (o : Tensor) (rows : List GradRow) : Array F32 :=
  rows.foldl (fun a r => r.2.2.zipIdx.foldl (fun a (x, f) =>
    a.setIfInBounds (logical o.ext [f, r.1, r.2.1]) x) a) (Array.replicate o.numel 0)

/-- dQ, dK, dV of one sequence and key-value head, and the flag. -/
def backHead (f : AttnForm) (Q K V DO : Tensor) (q k v dO : Array Val) (sq : Seq) (hkv : Nat) :
    List GradRow × List GradRow × List GradRow × Bool :=
  let d := Q.e 0
  let ks := ((List.range sq.k).map fun j => tokenRow K k (sq.kAt + j) hkv)
  let kr := (ks.zipIdx.map fun (x, j) => f.enter (j : Int) x).toArray
  let vs := ((List.range sq.k).map fun j => tokenRow V v (sq.kAt + j) hkv).toArray
  let rows := (List.range sq.q).flatMap fun i => (List.range f.group).map fun h' =>
    backRow f Q K V DO q dO kr vs sq hkv i h'
  let isIn := fun (r : BackRow) (j : Nat) => Nat.ble r.lo j && Nat.blt j r.hi
  let sumR := fun (pair : Nat × Option Nat) (j : Nat) (a : BackRow → Val) (b : BackRow → Val) =>
    dot pair.2 pair.1 (rows.map fun r => if isIn r j then some ((a r).mul (b r)) else none)
  let dv := (List.range sq.k).map fun j =>
    (sq.kAt + j, hkv, (List.range d).map fun fe =>
      sumR (pairOr .f16 DO.fmt) j (fun r => r.ph.getD (j - r.lo) .nan) (fun r => r.dO.getD fe .nan))
  let dk := (List.range sq.k).map fun j =>
    (sq.kAt + j, hkv, finishGrad f (rows.any fun r => isIn r j) (j : Int)
      ((List.range d).map fun fe =>
        sumR (pairOr .bf16 (f.fmt Q.fmt)) j (fun r => r.ds.getD (j - r.lo) .nan)
          (fun r => r.qr.getD fe .nan)))
  let dq := rows.map fun r =>
    (sq.qAt + r.i, r.head, finishGrad f (r.lo < r.hi) ((sq.k : Int) - sq.q + r.i)
      ((List.range d).map fun fe =>
        let pair := pairOr .bf16 (f.fmt K.fmt)
        dot pair.2 pair.1 ((List.range sq.k).map fun j =>
          if isIn r j then some ((r.ds.getD (j - r.lo) .nan).mul ((kr.getD j []).getD fe .nan)) else none)))
  let bad := (rows.any (·.bad)) || (dq ++ dk ++ dv).any fun r => badL r.2.2
  (dq, dk, dv, bad)

def attnBwdRun (c : Ctx) : Effect :=
  let f := attnForm c.r
  let DO := c.must 3
  let Q := c.must 4
  let K := c.must 5
  let V := c.must 6
  let q := c.exact 4
  let k := c.exact 5
  let v := c.exact 6
  let dO := c.exact 3
  let seqs := seqsOf c 7
  let hkv := Q.e 2 / f.group
  let parts := seqs.flatMap fun sq => (List.range hkv).map fun h => backHead f Q K V DO q k v dO sq h
  let maxK := seqs.foldl (fun a sq => max a sq.k) 0
  let eO := expOf c 3 dO
  let pV := eO + lambda maxK
  let pQ := eO + expOf c 6 v + max (expOf c 4 q) (expOf c 5 k) + lambda maxK
  let skim := [3, 4, 5, 6].filter fun i =>
    !(c.must i).fmt.isNarrow &&
      ((i == 3 && measuredSlot (c.must 2)) || measuredSlot (c.must 0) || measuredSlot (c.must 1))
  let kTok := (seqs.map (·.k)).foldl (· + ·) 0
  let put := fun (i : Nat) (p : Int) (live : List Nat → Bool) (rows : List GradRow)
      (pool : List Fallback) =>
    let o := c.must i
    ({ t := o, w := writeOut o { c.outSpec (.predicted p) with live := live } (placeGrad o rows) pool }
      : Outlet)
  let o0 := put 0 pQ (fun i => livetok seqs i 1) (parts.flatMap (·.1)) c.pool
  let o1 := put 1 pQ (fun i => Nat.blt (i.getD 1 0) kTok) (parts.flatMap (·.2.1)) o0.w.pool
  let o2 := put 2 pV (fun i => Nat.blt (i.getD 1 0) kTok) (parts.flatMap (·.2.2.1)) o1.w.pool
  let ranges := blockRanges f seqs hkv
  let blocks := ranges.length
  let a : AttnCost :=
    { d := Q.e 0, score := arrayRate (f.fmt Q.fmt) (f.fmt K.fmt), value := arrayRate .f16 V.fmt
      product := arrayRate DO.fmt V.fmt, row := Q.e 0 * (Q.fmt.bits + DO.fmt.bits), key := Q.e 0 * (K.fmt.bits + V.fmt.bits)
      outBits := (c.must 0).fmt.bits, counts := counted (c.must 0).fmt, out := c.inCxl 0, cxl := c.inCxl 4
      keyBits := (c.must 1).fmt.bits + (c.must 2).fmt.bits
      keyCounts := (if counted (c.must 1).fmt then 1 else 0) + if counted (c.must 2).fmt then 1 else 0 }
  let keys := hkv * (seqs.map fun sq => ceilDiv sq.k 64).foldl (· + ·) 0
  outEffect c [o0, o1, o2] (if skim.isEmpty then none else some (skimBytes c skim))
    (parts.any (·.2.2.2))
    [[{ skimWork c skim with units := blocks, shape := .listed (ranges.map a.stats) },
      { units := keys + blocks, words := wordsOf o0.t o0.w ++ wordsOf o1.t o1.w ++ wordsOf o2.t o2.w
        shape := .listed (a.keyUnits f seqs hkv ++ ranges.map a.rowUnit) }]]

/-- ATTN_BWD (R159, R160): its row-statistics area takes 8 bytes per row. -/
def attnBwdOp : Op :=
  { partly := fun _ => [0, 1, 2]
    required := fun _ => [0, 1, 2, 3, 4, 5, 6, 7]
    form := fun r => r.modifier < 4 && attnParamsOk r
    params := [0, 1, 2, 3, 5]
    relate := fun c =>
      [(4, [4], c.r.p 5 ≤ (c.must 4).e 2 && (c.r.p 1 == 0 || c.r.p 3 % 65536 ≤ (c.must 4).e 0))]
    lengths := fun c => [(7, lengthsFit c 7 ((c.must 4).e 1) ((c.must 5).e 1))]
    formats := fun c =>
      ((List.range 3).map fun i => (i, matrixOut (c.must i).fmt))
        ++ ((List.range 4).map fun i => (i + 3, attnIn (c.must (i + 3)).fmt))
        ++ [(7, (c.must 7).fmt == .i32)]
    shapes := fun c =>
      let Q := c.must 4
      let K := c.must 5
      let flat := fun (t : Tensor) => [t.e 3, t.e 4, t.e 5] == [1, 1, 1]
      [(0, (c.must 0).ext == Q.ext), (1, (c.must 1).ext == K.ext), (2, (c.must 2).ext == K.ext),
       (3, (c.must 3).ext == Q.ext), (4, headDimOk (Q.e 0) && flat Q),
       (5, K.e 0 == Q.e 0 && K.e 2 * c.r.p 5 == Q.e 2 && flat K), (6, (c.must 6).ext == K.ext),
       (7, (c.must 7).e 0 == 2 && (c.must 7).ext.drop 2 == [1, 1, 1, 1])]
    area := fun c =>
      ceilDiv (8 * ((seqsOf c 7).map (·.q)).foldl (· + ·) 0 * (c.must 4).e 2) 32768
    run := attnBwdRun }

def execAttnBwd (p g : Nat) (s : State) : Host.Outcome State Fault Refusal :=
  .next (issue 0x0011 (fun _ => true) attnBwdOp p g s)

end Sys2Proof.Machine
end

