-- ==== Sys2Proof/Machine/Engines.lean ====
section
/-! DEFINITION. The engines of a plot: their queues, what a cycle does, the classes of slots, and the work of a unit
up to a point (R111 to R113, R116, R117, R412 to R415). -/

namespace Sys2Proof.Machine
open Sys2Proof

/-! ### What is counted -/

/-- Events that a unit adds to the counters of its plot: the code, how often, and the bits of its master and its
window in a control word (R415, R416). -/
structure Tally where
  unit : Started
  code : Nat
  n : Nat
  master : Option Nat := none
  window : Option Nat := none
  deriving DecidableEq, Repr

/-- The window bit of an access: HBM or CXL. -/
def windowBit (cxl : Bool) : Nat := if cxl then 15 else 14

def Load.tallies (u : Started) (l : Load) : List Tally :=
  let w := fun (n : Nat) => ceilDiv l.bytes n
  [if l.turned then { unit := u, code := 0x17, n := w 32, master := some 10, window := some (windowBit l.cxl) }
    else { unit := u, code := 0x16, n := w 64, master := some 10, window := some (windowBit l.cxl) },
   { unit := u, code := 0x24, n := if l.cxl then w 64 else 0, master := some 10 }]

/-- The event of array cycles in a pair (R43). -/
def pairEvent (rate : Nat) : Nat := if rate = 4 then 0x11 else if rate = 2 then 0x12 else 0x13

namespace PlotJob

/-- What a job adds as it leaves an engine: 0 load, 1 expander, 2 array, 3 vector unit, 4 compactor, 5 store. -/
def tallies (j : PlotJob) (engine : Nat) : List Tally :=
  let t := fun (code n : Nat) => ({ unit := j.unit, code := code, n := n } : Tally)
  match engine with
  | 0 => j.loads.flatMap (Load.tallies j.unit)
  | 1 => [t 0x30 (j.blocks.getD 0 0), t 0x31 (j.blocks.getD 1 0), t 0x32 (j.blocks.getD 2 0)]
  | 2 =>
    [t 0x10 j.tiles, t (pairEvent j.rate) (j.array - j.sixteen), t 0x11 j.sixteen, t 0x14 j.masked,
     t 0x48 (if j.endsSlice then 1 else 0)]
  | 4 => [t 0x33 (j.blocks.getD 3 0)]
  | 5 =>
    j.stores.map fun n =>
      { unit := j.unit, code := 0x18, n := ceilDiv n 64, master := some (if 0 < j.compact then 13 else 11)
        window := some (windowBit j.out) }
  | _ => []

/-- Cycles of the load engine: 64 bytes a cycle, 32 transposed, or those of a gather (R111, R177). -/
def loadCycles (j : PlotJob) : Nat :=
  j.wait + (j.loads.map fun l =>
    if 0 < l.gather then l.gather else if l.turned then ceilDiv l.bytes 32 else ceilDiv l.bytes 64).foldl (· + ·) 0

def storeCycles (j : PlotJob) : Nat := (j.stores.map fun n => ceilDiv n 64).foldl (· + ·) 0

/-- Cycles of an engine. -/
def cycles (j : PlotJob) (engine : Nat) : Nat :=
  match engine with
  | 0 => j.loadCycles
  | 1 => j.expand
  | 2 => j.array
  | 3 => j.vector
  | 4 => j.compact
  | _ => j.storeCycles

/-- The engine that paces the job. -/
def pacer (j : PlotJob) : Nat := match j.pace with | 0 => 2 | 1 => 3 | 2 => 4 | _ => 1

end PlotJob

/-! ### One engine -/

namespace Engine

def push (e : Engine) (j : Option PlotJob) : Engine :=
  match j with
  | some j => { e with queue := e.queue ++ [j] }
  | none => e

/-- One cycle of an engine: what it is after it, the job that leaves it, and whether it worked. It begins its head
only where there is room behind it. -/
def step (e : Engine) (cost : PlotJob → Nat) (room : PlotJob → Bool) : Engine × Option PlotJob × Bool :=
  match e.queue, e.left with
  | [], _ => (e, none, false)
  | j :: r, none =>
    if !room j then (e, none, false)
    else if cost j ≤ 1 then (⟨r, none⟩, some j, cost j == 1)
    else (⟨j :: r, some (cost j - 1)⟩, none, true)
  | j :: r, some k => if k ≤ 1 then (⟨r, none⟩, some j, true) else (⟨j :: r, some (k - 1)⟩, none, true)

/-- Requests that stand in the queue. -/
def requests (e : Engine) (f : PlotJob → Nat) : Nat := (e.queue.map f).foldl (· + ·) 0

def keep (e : Engine) (ok : Started → Bool) : Engine :=
  { queue := e.queue.filter fun j => ok j.unit
    left := if e.queue.head?.any (fun j => ok j.unit) then e.left else none }

end Engine

/-! ### Runs -/

/-- The segment stack takes one more segment value: equal sizes join (R117). -/
def stackPush : List Nat → List Nat
  | [] => [1]
  | l => join (1 :: l) l.length
where
  /-- Join the two topmost entries while their sizes are equal. -/
  join : List Nat → Nat → List Nat
    | a :: b :: r, n + 1 => if a = b then join ((a + b) :: r) n else a :: b :: r
    | l, _ => l

namespace Run

/-- The vector unit has taken a job: accumulators are saved between k-slices, and a segment that ends enters the
stack (R116, R117). -/
def drained (r : Run) (j : PlotJob) : Run :=
  if j.unit != r.unit || j.rate = 0 then r
  else
    { r with
      saved := if j.endsSegment then r.saved.erase j.swath else if r.saved.contains j.swath then r.saved else r.saved ++ [j.swath]
      stack := if j.endsSegment && j.endsSlice then stackPush r.stack else r.stack }

/-- The pacing engine has worked on a job of the unit. -/
def worked (r : Run) (j : PlotJob) (n : Nat) : Run :=
  if j.unit != r.unit then r else if j.live then { r with live := r.live + n } else { r with dead := r.dead + n }

end Run

namespace Engines

def modRuns (e : Engines) (f : Run → Run) : Engines := { e with runs := e.runs.map f }

/-- The engines in their order. -/
def stage (e : Engines) (i : Nat) : Engine :=
  match i with
  | 0 => e.load
  | 1 => e.expand
  | 2 => e.array
  | 3 => e.vector
  | 4 => e.compact
  | _ => e.store

/-! ### One cycle -/

/-- What a plot's units may do: their operands are there; their outputs have room (R219, R222). -/
structure Gate where
  data : Started → Bool
  space : Started → Bool

/-- What a cycle gives: the engines, what it counts, and the units that end. -/
structure Tick where
  plot : Engines
  tallies : List Tally
  ended : List Started

/-- Why the pacing engine is starved from behind: no room for outputs, the store queue full, or an accumulator bank
that has not drained (R415). -/
def backCause (e : Engines) (g : Gate) : Nat :=
  match e.store.queue with
  | [] => 0x1E
  | j :: _ => if !g.space j.unit then 0x21 else if 16 ≤ e.store.requests fun j => j.stores.length then 0x1D else 0x1E

/-- Why it is starved from the front: a block that is still to come, the expander, transposed delivery, a gather, or
anything else. -/
def frontCause (e : Engines) (g : Gate) : Nat :=
  match e.load.queue with
  | [] => if e.expand.queue.isEmpty then 0x1C else 0x34
  | j :: _ =>
    if !g.data j.unit then 0x20
    else if !e.expand.queue.isEmpty then 0x34
    else if j.loads.any (·.turned) then 0x1A
    else if j.loads.any fun l => decide (0 < l.gather) then 0x1B
    else 0x1C

/-- The queue behind the pacing engine is full. -/
def backFull (e : Engines) (pacer : Nat) : Bool :=
  match pacer with
  | 1 => decide (2 ≤ e.array.queue.length)
  | 2 => decide (2 ≤ e.vector.queue.length)
  | 3 => decide (8 ≤ e.compact.queue.length)
  | _ => decide (16 ≤ e.store.requests fun j => j.stores.length)

/-- The class of a slot: the worked cycle of a job, or starved with its cause (R412). A worked cycle is retired or
wasted when its unit is written or abandoned (R414). -/
def slot (e : Engines) (g : Gate) (busy : Nat → Option PlotJob) : Engines × List Tally :=
  match e.runs with
  | [] => (e, [])
  | r :: _ =>
    let pacer := match r.pace with | 0 => 2 | 1 => 3 | 2 => 4 | _ => 1
    let at_ := fun (i : Nat) => match busy i with | some j => if j.pacer = i then some j else none | none => none
    match (at_ 2).or ((at_ 3).or ((at_ 4).or (at_ 1))) with
    | some j =>
      (e.modRuns fun r => r.worked j 1,
       [{ unit := j.unit, code := 0x01, n := 1 }, { unit := j.unit, code := 0x50, n := if j.skims then 1 else 0 }])
    | none =>
      let back := e.backFull pacer
      (e, [{ unit := r.unit, code := 0x01, n := 1 },
           { unit := r.unit, code := if back then 0x05 else 0x04, n := 1 },
           { unit := r.unit, code := if back then e.backCause g else e.frontCause g, n := 1 }])

/-- One cycle of the plot clock, from the store engine to the load engine, so that no job passes two engines in one
cycle. -/
def cycle (e : Engines) (g : Gate) : Tick :=
  let head := fun (x : Engine) (b : Bool) => if b then x.queue.head? else none
  let out := fun (j : PlotJob) => j.stores.length
  let (st, d5, b5) := e.store.step PlotJob.storeCycles fun j => g.space j.unit
  let (cm, d4, b4) := e.compact.step (·.compact) fun j => st.queue.isEmpty || st.requests out + out j ≤ 16
  let (vu, d3, b3) := e.vector.step (·.vector) fun _ => cm.queue.length < 8
  let (ar, d2, b2) := e.array.step (·.array) fun _ => vu.queue.length < 2
  let (ex, d1, b1) := e.expand.step (·.expand) fun _ => ar.queue.length < 2
  let (ld, d0, b0) := e.load.step PlotJob.loadCycles fun j => g.data j.unit && ex.queue.length < 8
  let was := e
  let e := { e with
    load := ld, expand := ex.push d0, array := ar.push d1, vector := vu.push d2, compact := cm.push d3, store := st.push d4 }
  let e := match d3 with | some j => e.modRuns fun r => r.drained j | none => e
  let busy := fun (i : Nat) => match i with
    | 0 => head was.load b0 | 1 => head was.expand b1 | 2 => head was.array b2 | 3 => head was.vector b3
    | 4 => head was.compact b4 | _ => head was.store b5
  let (e, slots) := e.slot g busy
  let left := fun (i : Nat) (d : Option PlotJob) => match d with | some j => j.tallies i | none => []
  { plot := e
    tallies := slots ++ left 0 d0 ++ left 1 d1 ++ left 2 d2 ++ left 4 d4 ++ left 5 d5
      ++ (match busy 3 with | some j => [{ unit := j.unit, code := 0x15, n := 1 }] | none => [])
    ended := match d5 with | some j => if j.endsUnit then [j.unit] else [] | none => [] }

/-! ### The Furrow sends work (R112, R118, R143) -/

/-- The run whose job goes next: the oldest with one left, or in alternating mode one of the other list than last. -/
def nextRun (e : Engines) (alternates : Started → Bool) : Option Run :=
  let open_ := e.runs.filter fun r => decide (r.sent < r.jobs)
  match open_.find? fun r => alternates r.unit && r.unit.list != e.turn with
  | some r => some r
  | none => open_.head?

/-- The load engine runs at most two k-slices ahead of the array. -/
def near (e : Engines) (j : PlotJob) : Bool :=
  match e.array.queue ++ e.expand.queue ++ e.load.queue with
  | [] => true
  | h :: _ =>
    if h.unit = j.unit then decide (j.slice ≤ h.slice + 2)
    else if h.unit.list != j.unit.list then true
    else decide (j.slice ≤ 1)

/-- Send the next job to the load queue, where it holds at most 32 requests. -/
def send (e : Engines) (alternates : Started → Bool) (job : Started → Nat → PlotJob) : Engines :=
  match e.nextRun alternates with
  | none => e
  | some r =>
    let j := { job r.unit r.sent with wait := Config.loadWait r.seed r.sent }
    if e.load.requests (fun j => j.loads.length) + j.loads.length ≤ 32 && e.near j then
      { e.modRuns fun x => if x.unit = r.unit then { x with sent := x.sent + 1 } else x with
        turn := r.unit.list
        load := e.load.push (some j) }
    else e

/-! ### The work of a unit up to a point -/

/-- A job that stands in engine `i`, with the cycles its head has left, runs to its end: what it counts, and its run. -/
def finishJob (e : Engines) (i : Nat) (left : Option Nat) (j : PlotJob) : Engines × List Tally :=
  let cost := fun (k : Nat) => if k = i then left.getD (j.cycles k) else if i < k then j.cycles k else 0
  let e := e.modRuns fun r => (if i ≤ 3 then r.drained j else r).worked j (cost j.pacer)
  (e, ((List.range 6).filter (i ≤ ·)).flatMap j.tallies
    ++ [{ unit := j.unit, code := 0x15, n := cost 3 }, { unit := j.unit, code := 0x01, n := cost j.pacer },
        { unit := j.unit, code := 0x50, n := if j.skims then cost j.pacer else 0 }])

/-- Every job in the engines runs to its end, oldest first. -/
def flush (e : Engines) : Tick :=
  let js := (List.range 6).reverse.flatMap fun i =>
    (e.stage i).queue.zipIdx.map fun (j, k) => (i, if k = 0 then (e.stage i).left else none, j)
  let bare := { Engines.idle with runs := e.runs, turn := e.turn }
  js.foldl (fun (t : Tick) x =>
    let (e, l) := t.plot.finishJob x.1 x.2.1 x.2.2
    { plot := e, tallies := t.tallies ++ l, ended := t.ended ++ if x.2.2.endsUnit then [x.2.2.unit] else [] })
    { plot := bare, tallies := [], ended := [] }

/-- The next `n` jobs of a run go through the engines. -/
def runJobs (t : Tick) (u : Started) (job : Started → Nat → PlotJob) : Nat → Tick
  | 0 => t
  | n + 1 =>
    match t.plot.runs.find? fun r => r.unit = u && r.sent < r.jobs with
    | none => t
    | some r =>
      let j := job u r.sent
      let (e, l) := (t.plot.modRuns fun x => if x.unit = u then { x with sent := x.sent + 1 } else x).finishJob 0 none j
      runJobs { plot := e, tallies := t.tallies ++ l, ended := t.ended ++ if j.endsUnit then [u] else [] } u job n

/-- A unit begins on a plot. -/
def start (e : Engines) (u : Started) (f : ListPhase) (pace seed : Nat) : Engines :=
  { e with runs := e.runs ++
      [{ unit := u, seed := seed, jobs := f.jobCount u.unit, sent := 0, asks := f.asks u.unit, pace := pace, saved := [],
         stack := [], live := 0, dead := 0 }] }

/-- Units leave a plot. -/
def keep (e : Engines) (ok : Started → Bool) : Engines :=
  { e with
    runs := e.runs.filter fun r => ok r.unit
    load := e.load.keep ok, expand := e.expand.keep ok, array := e.array.keep ok, vector := e.vector.keep ok
    compact := e.compact.keep ok, store := e.store.keep ok }

/-- A unit is abandoned and begins again (R131). -/
def restart (e : Engines) (u : Started) : Engines :=
  { (e.keep (· != u)) with
    runs := e.runs.map fun r =>
      if r.unit = u then { r with sent := 0, saved := [], stack := [], live := 0, dead := 0 } else r }

end Engines

end Sys2Proof.Machine
end

