-- ==== Sys2Proof/Machine/Allocs.lean ====
section
/-! DEFINITION. Allocation entries: their values, the conditions of a write, creation, release and the
end of a release (R213 to R216, R227, R230). -/

namespace Sys2Proof.Machine
open Sys2Proof

/-! ### The 64-byte value (R213) -/

/-- An allocation as a written value describes it; retention is for fixed ones only. -/
def allocOfBytes (b : List Byte) : Alloc :=
  { base := leField b 0 8, len := leField b 8 8, kind := leField b 0x10 1, releasing := false,
    flags := leField b 0x12 2 % 2, recI := leField b 0x14 4, recAddr := leField b 0x18 8,
    recD := leField b 0x20 4, recCost := leField b 0x24 4, lastAccess := 0, zeroing := false,
    hint := 0, spent := false, lastBy := none, blocks := [], heldSlot := none, written := false, retained := 0,
    homeLost := [],
    wanted := false, saved := none }

/-- Stored bytes in CXL of the off-loaded blocks. -/
def Alloc.storedBytes (a : Alloc) : Nat :=
  ((a.blocks.filter fun b => b.place == .offloaded || b.place == .fetching).map Block.stored).foldl
    (· + ·) 0

def Alloc.bytes (a : Alloc) : List Byte :=
  let resident := if a.kind = 1 then blockSize * a.residentBlocks else if a.kind = 0 then a.len else 0
  leBytes 8 a.base ++ leBytes 8 a.len ++ leBytes 1 a.kind ++ leBytes 1 (if a.releasing then 2 else 1)
    ++ leBytes 2 a.flags ++ leBytes 4 a.recI ++ leBytes 8 a.recAddr ++ leBytes 4 a.recD
    ++ leBytes 4 a.recCost ++ leBytes 8 resident
    ++ leBytes 8 (if a.kind = 1 then a.storedBytes else 0) ++ leBytes 8 a.lastAccess

/-- What entry `j` reads as. -/
def Paddock.entryBytes (d : Paddock) (j : Nat) : List Byte :=
  match d.alloc j with
  | some a => a.bytes
  | none => List.replicate 64 0

/-! ### Conditions of creation (R214) -/

/-- The recompute fields of an entry. -/
def recomputeFieldsOk (d : Paddock) (a : Alloc) : Bool :=
  a.recI == 0 || (a.recAddr % 64 == 0 && a.recAddr + 64 * (a.recI + a.recD) ≤ hbmEnd
    && 1 ≤ a.recCost && (a.kind != 1 || d.inFixed a.recAddr (64 * (a.recI + a.recD))))

/-- No allocation of a paddock overlaps a range. -/
def Paddock.clear (d : Paddock) (a n : Nat) : Bool :=
  d.allocs.all fun e => !rangesMeet a n e.2.base e.2.len

/-- A write may create this allocation. -/
def createOk (s : State) (p : Nat) (a : Alloc) : Bool :=
  let d := s.pad p
  let aligned := fun (n : Nat) => a.base % n == 0 && a.len % n == 0
  let cxlRoom := d.cxlCharged + a.len ≤ s.obj 0x4410 p
  let inHbm := a.base + a.len ≤ hbmEnd
  d.clear a.base a.len && recomputeFieldsOk d a && (a.flags == 0 || a.kind == 0) &&
  match a.kind with
  | 0 => inHbm && aligned 32768 && s.committed p + a.len / blockSize ≤ s.quota p
  | 1 => inHbm && aligned 32768 && s.tiers.cxlPresent && cxlRoom
  | 2 => cxlBase ≤ a.base && a.base + a.len ≤ min cxlEnd (cxlBase + s.obj 0x4404 0) && aligned 32768 && cxlRoom
  | 3 => flashBase ≤ a.base && a.base + a.len ≤ flashBase + s.obj 0x4821 p && aligned 4096
      && 1 ≤ s.obj 0x4822 p
  | 4 => flashBase ≤ a.base && a.base + a.len ≤ flashBase + s.obj 0x4821 p && aligned 4096
      && s.obj 0x4822 p == 2
  | _ => false

/-! ### Creation and the end of a release (R215, R216) -/

/-- Insert an entry, keeping the numbers in rising order. -/
def insertAlloc (l : List (Nat × Alloc)) (j : Nat) (a : Alloc) : List (Nat × Alloc) :=
  match l with
  | [] => [(j, a)]
  | e :: r => if j < e.1 then (j, a) :: e :: r else if j = e.1 then (j, a) :: r else e :: insertAlloc r j a

/-- Create an allocation: its bytes read as zero, and those of a fixed or a CXL one are still being
zeroed. -/
def Paddock.create (d : Paddock) (j us : Nat) (a : Alloc) : Paddock :=
  let a := { a with zeroing := a.kind == 0 || a.kind == 2, lastAccess := us }
  { d with
    allocs := insertAlloc d.allocs j a
    hbm := if a.kind = 0 || a.kind = 1 then memClear d.hbm a.base a.len else d.hbm
    bad := if a.kind = 0 || a.kind = 1 then d.bad.flatMap fun r => cutRange r a.base a.len else d.bad
    cxl := if a.kind = 2 then memClear d.cxl a.base a.len else d.cxl }

/-- An entry becomes unused: its memory is zeroed and freed, its codebook references, its fallback
slots and its recompute program go. -/
def Paddock.free (d : Paddock) (j : Nat) : Paddock :=
  match d.alloc j with
  | none => d
  | some a =>
    let gone := (d.programs.filter fun x => x.recompute == some j).map (·.serial)
    { d with
      allocs := d.allocs.filter fun e => e.1 != j
      hbm := if a.kind = 0 || a.kind = 1 then memClear d.hbm a.base a.len else d.hbm
      bad := if a.kind = 0 || a.kind = 1 then d.bad.flatMap fun r => cutRange r a.base a.len else d.bad
      cxl := if a.kind = 2 then memClear d.cxl a.base a.len else d.cxl
      fallback := d.fallback.filter fun f => !(a.base ≤ f.word && f.word < a.base + a.len)
      programs := d.programs.filter fun x => x.recompute != some j
      flights := d.flights.filter fun f => !gone.contains f.prog }

/-- The instruction that something in a strip store belongs to. -/
def StoreItem.flight (x : StoreItem) : Nat × Nat :=
  match x with
  | .slice p n .. => (p, n)
  | .segment p n .. => (p, n)

/-- Contexts and units of instructions that are no longer in flight leave the strips. -/
def State.sweep (s : State) (p : Nat) : State :=
  let live := (s.pad p).flights.map (·.serial)
  let keep := fun (q f : Nat) => q != p || live.contains f
  { s with strips := s.strips.map fun st =>
      { st with
        contexts := st.contexts.filter fun c => keep c.paddock c.flight
        waiting := st.waiting.filter fun c => keep c.paddock c.flight
        started := st.started.filter fun x => keep x.paddock x.flight
        plots := st.plots.map fun e => e.keep fun x => keep x.paddock x.flight
        store := st.store.filter fun x => keep x.flight.1 x.flight.2 } }

end Sys2Proof.Machine
end

