-- ==== Sys2Proof/Machine/Counters.lean ====
section
/-! DEFINITION. The performance counters of the plots: what an event adds, overflow, sampling and the
sample ring (R409 to R420, R423). -/

namespace Sys2Proof.Machine
open Sys2Proof

/-- The paddock that holds a strip. -/
def State.holder (s : State) (k : Nat) : Option Nat :=
  (List.range 8).find? fun p => (s.pad p).phase != .absent && (s.stripMask p).testBit k

/-- What an event carries, as bits of a control word: its privilege, its class, its master and its window (R416). -/
structure Attrs where
  /-- 8 for program work, 9 for device work (R416). -/
  priv : Option Nat := none
  cls : Option Nat := none
  master : Option Nat := none
  window : Option Nat := none
  deriving DecidableEq, Repr

/-- An enabled control word selects an event and passes its attributes. -/
def passes (word code : Nat) (x : Attrs) : Bool :=
  let has := fun (o : Option Nat) => match o with | some b => b != 0 && word.testBit b | none => true
  word.testBit 22 && word % 256 == code && has x.priv && has x.cls && has x.master
    && has x.window

/-- The control words of a plot that are not 0: counter number and word. -/
def State.controlWords (s : State) (k q : Nat) : List (Nat × Nat) :=
  (s.objs.filter fun e => e.1 / 256 == 0x8040 + k && e.1 % 256 / 8 == q).map fun e => (e.1 % 8, e.2)

/-- The counters of a strip take events: its paddock has not frozen them (R417). -/
def State.counting (s : State) (k : Nat) : Bool :=
  match s.holder k with
  | some p => (s.pad p).obj 0x8105 0 == 0
  | none => true

/-- The unit that a plot holds: its last started one. -/
def Strip.held (st : Strip) (q : Nat) : Option Started := (st.started.filter fun x => x.plot == q).getLast?

/-- The cycle counter of every plot. -/
def Power.cycleCount (w : Power) : Nat := w.cycles / 1000 % 2 ^ 64

/-- The sample record of a counter (R418, R419): it names the instruction whose unit the plot holds. -/
def counterRecord (s : State) (p k q c code : Nat) : List Byte :=
  let head := leBytes 8 s.now ++ leBytes 8 s.power.cycleCount ++ leBytes 1 k ++ leBytes 1 q ++ leBytes 1 c
    ++ leBytes 1 code
  let tail := leBytes 8 ((s.pad p).obj 0x5821 0) ++ List.replicate 16 0
  let parked := leBytes 4 0xFFFFFFFF ++ leBytes 4 0xFFFFFFFF ++ leBytes 2 0 ++ leBytes 2 0 ++ leBytes 8 0
  let body := match (s.strip k).held q with
    | none => parked
    | some x =>
      match (s.pad x.paddock).flights.find? fun f => f.serial == x.flight with
      | none => parked
      | some f =>
        let pr := (s.pad x.paddock).program f.prog
        let device := pr.any fun y => y.recompute.isSome
        leBytes 4 (match pr with | some y => y.ident | none => 0xFFFFFFFF) ++ leBytes 4 f.index
          ++ leBytes 2 f.opcode ++ leBytes 1 (if device then 3 else 1) ++ leBytes 1 0 ++ leBytes 8 x.unit
  head ++ body ++ tail

/-- Put a record into the sample ring (R420). A ring partly outside the HBM window receives nothing,
which counts as an access outside the paddock (R97). -/
def samplePut (s : State) (p : Nat) (b : List Byte) : State :=
  let d := s.pad p
  let size := d.obj 0x8101 0
  let wi := d.obj 0x8102 0
  if size = 0 then s
  else if (wi + 2 ^ 32 - d.obj 0x8103 0) % 2 ^ 32 = size then s.modPad p fun d => d.addObj 0x8104 0 1
  else
    let base := d.obj 0x8100 0
    let s := if base + 64 * size ≤ hbmEnd then plainWrite s p (placeAt (base + 64 * (wi % size)) b)
      else s.countOutside p true
    s.modPad p fun d => (d.addObj 0x8102 0 1).addObj 0x8106 0 1

/-- Where a counter with sampling restarts. -/
def reloadValue (word : Nat) : Nat :=
  let k := bitField word 29 24
  if k = 0 then 0 else 2 ^ 48 - 2 ^ k

/-- Counter `c` takes `n` events (R411, R418). -/
def State.bumpCounter (s : State) (k q c word n : Nat) : State :=
  let i := 8 * q + c
  let v := s.obj (0x8020 + k) i + n
  if v < 2 ^ 48 then s.setObj (0x8020 + k) i v
  else
    let s := s.setObj (0x8060 + k) q (s.obj (0x8060 + k) q ||| 2 ^ c)
    if word.testBit 23 then
      let s := s.setObj (0x8020 + k) i (reloadValue word)
      match s.holder k with
      | some p => samplePut s p (counterRecord s p k q c (word % 256))
      | none => s
    else s.setObj (0x8020 + k) i (v % 2 ^ 48)

/-- Every counter of a plot that selects an event takes it `n` times, in rising counter number. -/
def State.count (s : State) (k q code n : Nat) (x : Attrs) : State :=
  if n = 0 || !s.counting k then s
  else (s.controlWords k q).foldl (fun s cw =>
    if passes cw.2 code x then s.bumpCounter k q cw.1 cw.2 n else s) s

/-- The attributes of a unit of an instruction in flight. -/
def State.attrsOf (s : State) (x : Started) : Attrs :=
  let d := s.pad x.paddock
  match d.flights.find? fun f => f.serial == x.flight with
  | some f =>
    { priv := some (if (d.program f.prog).any fun y => y.recompute.isSome then 9 else 8)
      cls := some f.cls }
  | none => { priv := some 8, cls := some 0 }

/-! ### Events of the work counters (R126, R127, R143, R415) -/

/-- Units that a plot's range holds, over every context. -/
def Strip.heldUnits (st : Strip) (q : Nat) : Nat :=
  (st.contexts.map fun c => (c.ranges.getD q (0, 0)).2 - (c.ranges.getD q (0, 0)).1).foldl (· + ·) 0

/-- The context of a unit. -/
def Strip.contextOf (st : Strip) (x : Started) : Option Context :=
  st.contexts.find? fun c => c.paddock == x.paddock && c.flight == x.flight && c.list == x.list

/-- Count what a plot's engines have done. -/
def State.countTally (s : State) (k q : Nat) (t : Tally) : State :=
  s.count k q t.code t.n { s.attrsOf t.unit with master := t.master, window := t.window }

def State.countTallies (s : State) (k q : Nat) (l : List Tally) : State := l.foldl (fun s t => s.countTally k q t) s

/-- A unit is one segment of a quad or of an attention unit (R125, R161, R180). -/
def ListPhase.isSegment (f : ListPhase) (u : Nat) : Bool :=
  match f.kindOf u, f.work.shape with
  | .segment .., _ => true
  | .whole i, .listed l => (l.getD i {}).part
  | _, _ => false

/-- The events of swaths: rescaled, fallen back, recomputed, elements converted. -/
def swathTallies (u : Started) (w : Work) (x : Product) (q : Product.Quad) : List Tally :=
  (x.swaths q).flatMap fun s =>
    let v := w.words.getD (x.swathNumber q s) 0
    let t := fun (code n : Nat) => ({ unit := u, code := code, n := n } : Tally)
    [t 0x51 (if wordRescaled v then 1 else 0), t 0x52 (if wordFallback v then 1 else 0), t 0x53 (wordRetries v),
     t 0x55 (if x.counted then x.written s else 0)]

/-- A unit of a recompute program owes its cycles until its race is decided: they are retired if the recompute output is
used, and wasted if it is discarded (R222, R413; log entry 138). -/
def State.oweOrCount (s : State) (k q : Nat) (u : Started) (n : Nat) : State :=
  let d := s.pad u.paddock
  match d.flights.find? fun f => f.serial == u.flight with
  | some f =>
    if d.programs.any fun pr => pr.serial == f.prog && pr.recompute.isSome then
      s.modPad u.paddock fun d => d.modProgram f.prog fun pr =>
        { pr with owed := pr.owed ++ [{ strip := k, plot := q, cls := f.cls, cycles := n }] }
    else s.countTally k q { unit := u, code := 0x02, n := n }
  | none => s.countTally k q { unit := u, code := 0x02, n := n }

/-- Count a unit that has been written: its retired and wasted slots, and what became of its swaths (R414, R415).
Which unit of an attention instruction completes a swath is not stated, so there these are free (log entry 136). -/
def State.countEnd (s : State) (k q : Nat) (r : Run) (f : ListPhase) (completes : Bool) : State :=
  let t := fun (code n : Nat) => ({ unit := r.unit, code := code, n := n } : Tally)
  let s := (s.oweOrCount k q r.unit r.live).countTally k q (t 0x03 r.dead)
  match f.kindOf r.unit.unit, f.work.shape with
  | .skim, _ => s
  | .whole i, .product x => s.countTallies k q (swathTallies r.unit f.work x (x.quadAt i))
  | .segment i _, .product x =>
    if completes then s.countTallies k q (swathTallies r.unit f.work x (x.quadAt i)) else s
  | .whole i, x =>
    if f.work.measures then s
    else
      let s := s.countTally k q (t 0x55 (x.cost i).counted)
      if f.work.words.isEmpty then s
      else s.draw.2.countTallies k q ([0x51, 0x52, 0x53].map fun code => t code (Config.stall s.draw.1 code))
  | .segment .., _ => s

/-- Count what a plot's request did: the strip before and after it say whether the plot started a unit,
took it from the counter, stole it, or parked. -/
def countRequest (k q : Nat) (old : Strip) (s : State) : State :=
  let new := s.strip k
  if new.parked.contains q && !old.parked.contains q then s.count k q 0x44 1 { priv := some 8 }
  else match new.held q with
    | none => s
    | some x =>
      if old.started.contains x then s
      else
        let a := s.attrsOf x
        let s := s.count k q 0x40 1 a
        let before := old.contextOf x
        let s := match before with
          | some b => if b.phase.isSegment x.unit then s.count k q 0x47 1 a else s
          | none => s
        let s := match before, new.contextOf x with
          | some b, some c =>
            let range := b.ranges.getD q (0, 0)
            if range.1 < range.2 then s
            else if b.next < b.total then s.count k q 0x41 1 a
            else
              let s := s.count k q 0x42 1 a
              match (List.range 16).find? fun v => v != q && b.ranges.getD v (0, 0) != c.ranges.getD v (0, 0) with
              | some v =>
                let was := b.ranges.getD v (0, 0)
                let is := c.ranges.getD v (0, 0)
                s.count k v 0x43 ((was.2 - was.1) - (is.2 - is.1)) a
              | none => s
          | _, _ => s
        match before with
        | some b => if b.mode = 1 then s.count k q 0x45 1 a else if b.mode = 2 then s.count k q 0x46 1 a else s
        | none => s

/-! ### Free counters -/

/-- The words that a plot's loads take from HBM and from the strip store: a word read once serves several plots, and
which of their counters takes it is not stated. A counter that selects one of these events holds a free value (R114,
R415; log entry 36). -/
def timed (code : Nat) : Bool := code == 0x22 || code == 0x23

/-- A counter of a strip is running on an event that the model does not count. -/
def State.runsFree (s : State) (k i : Nat) : Bool :=
  let w := s.obj (0x8040 + k) i
  w.testBit 22 && timed (w % 256) && s.counting k

/-- Give such a counter a value before its word or the freeze changes. -/
def State.fixCounter (s : State) (k i : Nat) : State :=
  if s.runsFree k i then
    let (v, s) := s.draw
    s.setObj (0x8020 + k) i (v % 2 ^ 48)
  else s

/-- A counter that counts cycles overflows: it takes the cycles that bring it there (R418). -/
def execOverflowSample (strip plot counter : Nat) (s : State) : Host.Outcome State Fault Refusal :=
  let i := 8 * plot + counter
  let w := s.obj (0x8040 + strip) i
  .next (
    if 24 ≤ strip || 16 ≤ plot || 8 ≤ counter || !s.power.running || !w.testBit 22 || !s.counting strip
        || (0x40 ≤ w % 256 && w % 256 ≤ 0x46) then s
    else s.bumpCounter strip plot counter w (2 ^ 48 - s.obj (0x8020 + strip) i))

end Sys2Proof.Machine
end

