-- ==== Sys2Proof/Machine/Ports.lean ====
section
/-! DEFINITION. Queue pairs and logical ports: their entries, what they send, and how they fail
(R333 to R341, R350, R352). -/

namespace Sys2Proof.Machine
open Sys2Proof

/-! ### Entries (R335, R336) -/

def QueuePair.blank (q : Nat) : QueuePair :=
  { index := q, state := 0, fields := List.replicate 64 0, received := 0, sent := 0, outgoing := [], held := [],
    retries := 0, rnrRetries := 0, rate := 1000000, cnpAt := none }

def State.qp (s : State) (q : Nat) : QueuePair :=
  (s.qps.find? fun x => Nat.beq x.index q).getD (QueuePair.blank q)

/-- Replace one entry, keeping the table in rising order. -/
def putQp (l : List QueuePair) (x : QueuePair) : List QueuePair :=
  match l with
  | [] => [x]
  | y :: r =>
    if x.index < y.index then x :: y :: r else if x.index = y.index then x :: r else y :: putQp r x

def State.setQp (s : State) (x : QueuePair) : State := { s with qps := putQp s.qps x }

def State.modQp (s : State) (q : Nat) (f : QueuePair → QueuePair) : State := s.setQp (f (s.qp q))

namespace QueuePair

def paddock (x : QueuePair) : Nat := leField x.fields 2 1
def port (x : QueuePair) : Nat := leField x.fields 3 1
def rkey (x : QueuePair) : Nat := leField x.fields 0x20 4
def retryCount (x : QueuePair) : Nat := leField x.fields 0x26 1
def rnrRetry (x : QueuePair) : Nat := leField x.fields 0x27 1
def depth (x : QueuePair) : Nat := leField x.fields 0x28 2
def ready (x : QueuePair) : Bool := x.state == 1

/-- The kind its use fixes (R335). -/
def kind (q : Nat) : Nat := if q < 2 then 1 else if q < 66 then 2 else 0

/-- The 64 bytes that the dictionary returns (R336): all zero for an entry never written (R354). -/
def bytes (x : QueuePair) : List Byte :=
  if x.state = 0 && x.fields.all (· == 0) then List.replicate 64 0
  else leBytes 1 x.state ++ leBytes 1 (kind x.index) ++ (x.fields.drop 2).take 46
    ++ leBytes 8 x.received ++ leBytes 8 x.sent

end QueuePair

/-! ### Logical ports (R333) -/

/-- A logical port's host port is in its targeted test, and takes no work (R352, R359). -/
def State.portTesting (s : State) (n : Nat) : Bool :=
  s.faults.testing.any fun x => x.unit.1 == .hostPort && x.unit.2 / 2 == n / 2

def State.portUp (s : State) (n : Nat) : Bool := decide (n < 8) && s.obj 0x3801 n == 2 && !s.portTesting n

/-- The logical ports of a host port in its current mode. -/
def State.logicalOf (s : State) (h : Nat) : List Nat :=
  if s.obj 0x3800 h = 0 then [2 * h] else [2 * h, 2 * h + 1]

/-- Line rate of a logical port in Gb/s. -/
def State.lineRate (s : State) (n : Nat) : Nat := if s.obj 0x3800 (n / 2) = 0 then 800 else 400

/-- Packets of a message at the path MTU (R334). -/
def packets (n : Nat) : Nat := max 1 ((n + 4095) / 4096)

def State.framesIn (s : State) (port n : Nat) : State := s.addObj 0x380B port n
def State.framesOut (s : State) (port n : Nat) : State := s.addObj 0x380C port n

/-- A packet reaches a queue pair: the port is up and the entry is ready. -/
def State.reaches (s : State) (q : Nat) : Bool := s.portUp (s.qp q).port && (s.qp q).ready

/-! ### Pauses and the transmit order (R341) -/

def State.pausedAt (s : State) (port prio : Nat) : Bool :=
  (s.obj 0x3805 port).testBit prio
    && s.pauses.any fun x => x.1 == port && x.2.1 == prio && decide (s.power.upNs < x.2.2)

/-- A packet leaves. -/
def State.launch (s : State) (x : Packet) : State :=
  { s.emit x.e with rcTurns := if x.cls = 3 then s.rcTurns.setIfInBounds x.port x.q else s.rcTurns }.framesOut
    x.port x.frames

/-- The rank of a packet in the transmit order: its class, and for RC the queue pairs in turn after the last. -/
def State.turnOf (s : State) (x : Packet) : Nat :=
  if x.cls = 3 then 3 + (x.q + 4095 - (s.rcTurns[x.port]?).getD 0 % 4096) % 4096 else x.cls

/-- The packet of a port that goes next, of those that no pause holds: the oldest of the first rank. -/
def State.nextPacket (s : State) (port : Nat) : Option Packet :=
  (s.outbox.filter fun x => x.port == port && !s.pausedAt port x.prio).foldl (fun best x =>
    match best with
    | none => some x
    | some y => if s.turnOf x < s.turnOf y then some x else some y) none

/-- Send what no pause holds. -/
def State.drainPort (port : Nat) : Nat → State → State
  | 0, s => s
  | n + 1, s =>
    match s.nextPacket port with
    | none => s
    | some x => State.drainPort port n ({ s with outbox := s.outbox.erase x }.launch x)

/-- A packet goes out on its port, or is held while its priority is paused; a port that is not up sends nothing. -/
def State.sendPacket (s : State) (x : Packet) : State :=
  if !s.portUp x.port then s
  else if s.outbox.isEmpty && !s.pausedAt x.port x.prio then s.launch x
  else State.drainPort x.port (s.outbox.length + 1) { s with outbox := s.outbox ++ [x] }

/-- The priority of a queue pair's packets: its DSCP's. -/
def State.prioOf (s : State) (q : Nat) : Nat := Config.priorityOf (leField (s.qp q).fields 0x24 1) % 8

/-- Send one packet, or the packets of one message, of a class on a queue pair's port. -/
def State.post (s : State) (q cls frames : Nat) (e : Emission) : State :=
  s.sendPacket { port := (s.qp q).port, prio := s.prioOf q, cls := cls, q := q, frames := frames, e := e }

/-- A CE-marked packet has come: a CNP, at most one per queue pair every 50 µs (R341). -/
def State.answerMark (x : Arrival) (s : State) : State :=
  let soon := match (s.qp x.q).cnpAt with | some t => decide (s.power.upNs < t + 50000) | none => false
  if !x.marked || s.obj 0x3807 0 = 0 || soon then s
  else
    let d := s.obj 0x3808 0
    (s.modQp x.q fun y => { y with cnpAt := some s.power.upNs }).sendPacket
      { port := (s.qp x.q).port, prio := Config.priorityOf d % 8, cls := 1, q := x.q, frames := 1, e := .cnp x.q d }

/-! ### Sending as requester (R340, R342) -/

/-- What one outgoing message is on the wire. -/
def outgoingEmission (q : Nat) (o : Outgoing) : Emission :=
  match o with
  | .completion b imm => .send q imm b
  | .notice b => .send q (leField b 4 4) b
  | .carriage m => .carriage q m

def outgoingBytes (o : Outgoing) : Nat :=
  match o with
  | .completion b _ => b.length
  | .notice b => b.length
  | .carriage m => 64 + m.payload.length

/-- Put one message on the wire where the port is up. -/
def State.transmit (s : State) (q : Nat) (o : Outgoing) : State :=
  if s.portUp (s.qp q).port then s.post q 3 (packets (outgoingBytes o)) (outgoingEmission q o) else s

/-- Queue one message on a ready queue pair and send it. -/
def State.sendOn (s : State) (q : Nat) (o : Outgoing) : State :=
  (s.transmit q o).modQp q fun x =>
    { x with outgoing := x.outgoing ++ [o], sent := (x.sent + 1) % 2 ^ 64 }

/-- Send again everything that is not acknowledged. -/
def State.resend (s : State) (q : Nat) : State :=
  (s.qp q).outgoing.foldl (fun s o => s.transmit q o) s

/-- Drop one outgoing message (R340): a completion or a notice counts in its paddock. -/
def dropOutgoing (p : Nat) (s : State) (o : Outgoing) : State :=
  match o with
  | .completion _ _ =>
    if (s.pad p).present then s.modPad p fun d => d.addObj 0xA00C 0 1 else s
  | _ => s

/-- The messages that other queue pairs can still carry (R352). -/
def carriages (l : List Outgoing) : List FabMsg :=
  l.filterMap fun o => match o with
    | .carriage m => some m
    | _ => none

/-- A queue pair enters error: its outstanding completions are dropped (R340). -/
def State.failQp (s : State) (q : Nat) : State :=
  let x := s.qp q
  let s := x.outgoing.foldl (dropOutgoing x.paddock) s
  { s with outbox := s.outbox.filter fun y => !(y.q == q && y.cls == 3) }.modQp q fun x => { x with state := 2, outgoing := [], held := [], retries := 0, rnrRetries := 0 }

/-- Answer a request with a NAK that puts its queue pair into error. -/
def State.nakAndFail (s : State) (q : Nat) (e : Emission) : State :=
  (s.post q 0 1 e).failQp q

/-- Acknowledge a request. -/
def State.ackOn (s : State) (q : Nat) : State := s.post q 0 1 (.ack q)

end Sys2Proof.Machine
end

