-- ==== Sys2Proof/Machine/Fabric.lean ====
section
/-! DEFINITION. Messages on the chip links: their headers, the cabling, the routes, and the sending
side of the link layer (R276 to R292, R342, R350). -/

namespace Sys2Proof.Machine
open Sys2Proof

/-! ### Addresses (R6) and cabling (R287, R288) -/

def slotOf (a : Nat) : Nat := a % 16
def fieldOf (a : Nat) : Nat := a / 16 % 256
def farmOf (a : Nat) : Nat := a / 4096 % 64
def addrOf (farm field slot : Nat) : Nat := 4096 * farm + 16 * field + slot

/-- The physical address in force. -/
def State.address (s : State) : Nat := s.power.address % 2 ^ 18

/-- The device and link that link `n` of address `a` is cabled to. -/
def cabled (a n : Nat) : Nat × Nat :=
  let k := farmOf a
  let f := fieldOf a
  let s := slotOf a
  if n < 30 then
    if n % 2 = 0 then (addrOf k f ((s + n / 2 + 1) % 16), n + 1)
    else (addrOf k f ((s + 15 - n / 2) % 16), n - 1)
  else if n < 46 then
    let j := 16 * s + (n - 30)
    if j = 255 then (addrOf k ((f + 128) % 256) 15, 45)
    else
      let b := 254 - j
      (addrOf k ((f + j + 1) % 256) (b / 16), 30 + b % 16)
  else if n = 46 then (addrOf k f ((s + 1) % 16), 47)
  else (addrOf k f ((s + 15) % 16), 46)

/-- The other link of a Headland pair (R276). -/
def pairMate (n : Nat) : Nat := if n % 2 = 0 then n + 1 else n - 1

/-- Whether a peer is the one the cabling gives, directly or through devices in bypass (R286, R289). -/
def cabledTo : Nat → Nat → Nat → Nat → Nat → Bool
  | 0, _, _, _, _ => false
  | k + 1, a, n, b, m =>
    let (x, y) := cabled a n
    (x == b && y == m) || cabledTo k x (pairMate y) b m

/-- A spare link: 46, 47, and link 45 of slot 15 (R276, R288). -/
def spareLink (a n : Nat) : Bool := 46 ≤ n || (n == 45 && slotOf a == 15)

/-! ### Headers (R279) -/

structure MsgHeader where
  type : Nat
  flags : Nat
  lane : Nat
  hops : Nat
  dest : Nat
  source : Nat
  slots : Nat
  seq : Nat
  ack : Nat
  epoch : Nat
  step : Nat
  flow : Nat
  number : Nat
  offset : Nat
  word : Nat
  crc : Nat
  deriving DecidableEq, Repr

def parseMsg (b : List Byte) : MsgHeader :=
  { type := leField b 0 1, flags := leField b 1 1, lane := leField b 2 1, hops := leField b 3 1,
    dest := leField b 4 4, source := leField b 8 4, slots := leField b 0xC 2, seq := leField b 0xE 2,
    ack := leField b 0x10 2, epoch := leField b 0x14 4, step := leField b 0x18 8,
    flow := leField b 0x20 4, number := leField b 0x24 4, offset := leField b 0x28 8,
    word := leField b 0x30 4, crc := leField b 0x34 4 }

def withCrc (b : List Byte) : List Byte := b.take 60 ++ leBytes 4 (Crypto.crc32c (b.take 60))

def MsgHeader.bytes (h : MsgHeader) : List Byte :=
  withCrc (leBytes 1 h.type ++ leBytes 1 h.flags ++ leBytes 1 h.lane ++ leBytes 1 h.hops
    ++ leBytes 4 h.dest ++ leBytes 4 h.source ++ leBytes 2 h.slots ++ leBytes 2 h.seq
    ++ leBytes 2 h.ack ++ leBytes 2 0 ++ leBytes 4 h.epoch ++ leBytes 8 h.step ++ leBytes 4 h.flow
    ++ leBytes 4 h.number ++ leBytes 8 h.offset ++ leBytes 4 h.word ++ leBytes 4 h.crc ++ leBytes 4 0)

def headerCrcOk (b : List Byte) : Bool := leField b 0x3C 4 == Crypto.crc32c (b.take 60)

/-- The CRC of a payload; 0 for a message without one. -/
def payloadCrc (b : List Byte) : Nat := if b.isEmpty then 0 else Crypto.crc32c b

/-- Reserved fields that are not zero (R279, R280). -/
def reservedSet (b : List Byte) : Bool :=
  leField b 1 1 ≥ 4 || leField b 4 4 ≥ 2 ^ 18 || leField b 8 4 ≥ 2 ^ 18 || leField b 0x12 2 != 0
    || leField b 0x38 4 != 0

/-- Fill the last slot of a payload with zeros. -/
def padSlots (b : List Byte) : List Byte := b ++ List.replicate ((64 - b.length % 64) % 64) 0

/-! ### Lanes and credits (R283) -/

/-- A message of the priority class. -/
def MsgHeader.priority (h : MsgHeader) : Bool := h.type == 4 || h.type == 6 || h.flags.testBit 0

/-- The lane of a class at a phase. -/
def laneOf (priority : Bool) (phase : Nat) : Nat := (if priority then 1 else 4) + min 2 phase

/-- The phase that a lane stands for. -/
def phaseOf (lane : Nat) : Nat := if lane = 0 then 0 else (lane - 1) % 3

/-- Receive slots of a lane. -/
def laneSlots (lane : Nat) : Nat := if lane = 0 then 128 else if lane < 4 then 640 else 2048

def bump (l : List Nat) (i n : Nat) : List Nat := l.modify i fun x => (x + n) % 65536

def Link.credits (l : Link) (lane : Nat) : Nat :=
  laneSlots lane - (l.used.getD lane 0 + 65536 - l.returned.getD lane 0) % 65536

/-- Bytes in the replay buffer. -/
def Link.buffered (l : Link) : Nat :=
  (l.unacked.map fun x => 64 + x.2.payload.length).foldl (· + ·) 0

def FabMsg.slots (m : FabMsg) : Nat := 1 + m.payload.length / 64
def FabMsg.head (m : FabMsg) : MsgHeader := parseMsg m.header

/-- A message may start: credits for every slot that its header names, and room in the replay buffer unless it is a
message of lane 0, which is not sequenced (R282, R283). -/
def Link.mayStart (l : Link) (m : FabMsg) : Bool :=
  let n := 1 + m.head.slots
  n ≤ l.credits m.head.lane && (m.head.lane == 0 || l.buffered + 64 * n ≤ 262144)

/-- The sequence number up to which every message has come whole. -/
def Link.ackValue (l : Link) : Nat :=
  ((match l.arriving with
    | x :: _ => leField x.header 0xE 2
    | [] => l.rxSeq) + 65535) % 65536

/-- Take a message into the replay buffer, with its sequence number and the acknowledgement it carries; `sent` slots
of it go out. A message of lane 0 goes as it is. -/
def State.enterLink (s : State) (n : Nat) (m : FabMsg) (sent : Nat) : State × FabMsg :=
  let l := s.link n
  let h := m.head
  let s := s.addObj 0x5007 n sent
  if h.lane = 0 then (s.setLink n { l with used := bump l.used 0 sent }, m)
  else
    let m : FabMsg := { m with header := MsgHeader.bytes { h with
      seq := l.txSeq, ack := l.ackValue, flags := h.flags % 2 + 2 } }
    (s.setLink n { l with
      txSeq := (l.txSeq + 1) % 65536
      unacked := l.unacked ++ [(l.txSeq, m)]
      used := bump l.used h.lane sent
      ackDue := false }, m)

/-- Put one message on a link that may start it. -/
def State.putOnLink (s : State) (n : Nat) (m : FabMsg) : State :=
  let x := s.enterLink n m m.slots
  x.1.emit (.linkMessage n x.2)

/-- The classes of lanes: 0 lane 0, 1 priority, 2 bulk (R283). -/
def laneClass (lane : Nat) : Nat := if lane = 0 then 0 else if lane < 4 then 1 else 2

/-- The position of the oldest message of a class that heads its lane and may start. -/
def Link.firstReady (l : Link) (cls : Nat) : Option Nat :=
  (l.waiting.zipIdx.find? fun x => laneClass x.1.head.lane == cls && l.mayStart x.1
    && !(l.waiting.take x.2).any fun y => y.head.lane == x.1.head.lane).map (·.2)

/-- Send waiting messages: lane 0 first; then priority ones, at most one slot in four while a bulk message can go
(R283). `debt` counts the bulk slots owed; `rest` is the payload still to come of a bulk message that priority ones
suspend (R284). -/
def State.drain (n : Nat) : Nat → Nat → List Byte → State → State
  | 0, _, rest, s => if rest.isEmpty then s else s.emit (.linkResume n rest)
  | k + 1, debt, rest, s =>
    let l := s.link n
    let without := fun (i : Nat) => s.setLink n { l with waiting := l.waiting.eraseIdx i }
    let send := fun (i debt : Nat) =>
      match l.waiting[i]? with
      | some m => State.drain n k debt rest ((without i).putOnLink n m)
      | none => s
    let slots := fun (i : Nat) => match l.waiting[i]? with | some m => m.slots | none => 0
    match l.firstReady 0, l.firstReady 1, l.firstReady 2 with
    | some i, _, _ => send i debt
    | none, some i, b =>
      if rest.isEmpty && b.isNone then send i debt
      else if debt = 0 then send i (3 * slots i)
      else if !rest.isEmpty then
        let g := min debt (rest.length / 64)
        State.drain n k (debt - g) (rest.drop (64 * g)) (s.emit (.linkResume n (rest.take (64 * g))))
      else
        match b with
        | none => s
        | some j =>
          match l.waiting[j]? with
          | none => s
          | some m =>
            if m.slots ≤ debt then State.drain n k (debt - m.slots) [] ((without j).putOnLink n m)
            else
              let x := (without j).enterLink n m m.slots
              State.drain n k 0 (m.payload.drop (64 * (debt - 1))) (x.1.emit (.linkBegin n x.2 (debt - 1)))
    | none, none, b =>
      if !rest.isEmpty then State.drain n k 0 [] (s.emit (.linkResume n rest))
      else match b with
        | some j => send j (debt - slots j)
        | none => s

def State.drainLink (s : State) (n : Nat) : State := State.drain n (3 * (s.link n).waiting.length) 0 [] s

/-- Hand one message to a link. -/
def State.sendLink (s : State) (n : Nat) (m : FabMsg) : State :=
  (s.modLink n fun l => { l with waiting := l.waiting ++ [m] }).drainLink n

/-! ### Link control (R285) -/

/-- A link-control message of a link: its flags, the sequence expected, and the running totals. -/
def controlHeader (s : State) (n flags expected : Nat) : List Byte :=
  let l := s.link n
  let dest := match l.peer with | some (a, _) => a | none => 0
  let ack := if flags.testBit 1 then l.ackValue else 0
  withCrc (leBytes 1 0x10 ++ leBytes 1 flags ++ leBytes 2 0 ++ leBytes 4 dest ++ leBytes 4 s.address
    ++ leBytes 4 0 ++ leBytes 2 ack ++ leBytes 2 expected
    ++ ((List.range 6).flatMap fun i => leBytes 2 (l.freed.getD (i + 1) 0))
    ++ leBytes 2 (l.freed.getD 0 0) ++ leBytes 26 0)

def State.sendControl (s : State) (n flags expected : Nat) : State :=
  let s := (s.emit (.linkControl n (controlHeader s n flags expected))).addObj 0x5007 n 1
  if flags.testBit 1 then s.modLink n fun l => { l with ackDue := false } else s

/-! ### Routes (R290, R291) -/

def Link.isUp (l : Link) : Bool := l.state == .up

/-- The chip links that a paddock's traffic may use: those of its rights, and spares in use (R350). -/
def State.allowed (s : State) (p : Option Nat) (n : Nat) : Bool :=
  match p with
  | none => true
  | some p => (s.linkRights p).testBit n ||
      ((s.link n).inUse && (List.range 48).any fun m =>
        (s.link m).state == .retired && (s.linkRights p).testBit m)

/-- The up links that a paddock may use and whose peer passes a test. -/
def State.linksTo (s : State) (p : Option Nat) (ok : Nat → Bool) : List Nat :=
  (List.range 48).filter fun n =>
    (s.link n).isUp && s.allowed p n && match (s.link n).peer with | some (a, _) => ok a | none => false

/-- Links to a slot of the own field. -/
def State.toSlot (s : State) (p : Option Nat) (q : Nat) : List Nat :=
  s.linksTo p fun a => farmOf a == farmOf s.address && fieldOf a == fieldOf s.address && slotOf a == q

/-- Links that lead straight into another field. -/
def State.toField (s : State) (p : Option Nat) (f : Nat) : List Nat :=
  s.linksTo p fun a => farmOf a == farmOf s.address && fieldOf a == f

/-- First-hop links to a slot of the own field: direct, else through an intermediate slot. -/
def State.fieldRoute (s : State) (p : Option Nat) (q : Nat) : List Nat :=
  if q = slotOf s.address then []
  else if !(s.toSlot p q).isEmpty then s.toSlot p q
  else s.toField p (fieldOf s.address)

/-- First-hop links toward a field: minimal, else through an intermediate field or slot. -/
def State.farmRoute (s : State) (p : Option Nat) (f : Nat) : List Nat :=
  let me := s.address
  if f = fieldOf me then []
  else
    let j := (f + 255 - fieldOf me) % 256
    let own := s.toField p f
    let gate := s.toSlot p (j / 16)
    if !own.isEmpty then own
    else if j / 16 != slotOf me && !gate.isEmpty then gate
    else
      let global := s.linksTo p fun a => farmOf a == farmOf me && fieldOf a != fieldOf me
      if !global.isEmpty then global else s.toField p (fieldOf me)

/-- First-hop links to a destination of the own farm (R290, R350). -/
def State.routeTo (s : State) (p : Option Nat) (dest : Nat) : List Nat :=
  if fieldOf dest = fieldOf s.address then s.fieldRoute p (slotOf dest) else s.farmRoute p (fieldOf dest)

def maskOf (l : List Nat) : Nat := l.foldl (fun a n => a ||| 2 ^ n) 0

/-- Entries without a route (object 0x5407). -/
def State.unreachable (s : State) : Nat :=
  ((List.range 16).filter fun q => q != slotOf s.address && (s.fieldRoute none q).isEmpty).length
    + ((List.range 256).filter fun f => f != fieldOf s.address && (s.farmRoute none f).isEmpty).length

/-- The route tables are rebuilt (R290). -/
def State.rebuild (s : State) : State := s.addObj 0x5403 0 1

/-- The link that a flow takes to a destination of the own farm. -/
def State.pick (s : State) (p : Option Nat) (dest source flow : Nat) : Option Nat :=
  let l := s.routeTo p dest
  l[Config.pathHash source dest flow % max 1 l.length]?

/-- Whether the hop over link `n` raises the phase: a global hop, or the hop that leaves the
intermediate slot of a route inside the sender's own field. -/
def State.raises (s : State) (n : Nat) (h : MsgHeader) : Bool :=
  let me := s.address
  match (s.link n).peer with
  | some (a, _) =>
    fieldOf a != fieldOf me || (h.hops == 1 && fieldOf h.source == fieldOf me
      && fieldOf h.dest == fieldOf me && farmOf h.source == farmOf me && h.source != me)
  | none => false

/-! ### Carriage between farms (R342) -/

/-- The fabric queue pair to a farm that a paddock may use. -/
def State.fabricQp (s : State) (p : Option Nat) (farm : Nat) : Option Nat :=
  let x := s.qp (2 + farm)
  if x.ready && (match p with
      | none => true
      | some p => (s.linkRights p).testBit (48 + x.port)) then some (2 + farm) else none

/-- The link to the lowest slot of the field that can be reached, for step 2 of R342. -/
def State.lowestSlot (s : State) (p : Option Nat) : Option Nat :=
  ((List.range 16).flatMap fun q => s.toSlot p q)[0]?

/-! ### Routing one message -/

/-- Where a message goes next: nothing where no route exists. -/
def State.nextHop (s : State) (m : FabMsg) : Option (Nat ⊕ Nat) :=
  let h := m.head
  if farmOf h.dest = farmOf s.address then (s.pick m.pad h.dest h.source h.flow).map .inl
  else
    match s.fabricQp m.pad (farmOf h.dest) with
    | some q => some (.inr q)
    | none => if h.hops < 5 then (s.lowestSlot m.pad).map .inl else none

/-- A message as it goes over a chip link: one hop more, on the lane of its phase. -/
def FabMsg.hopped (m : FabMsg) : FabMsg := { m with header := MsgHeader.bytes { m.head with hops := m.head.hops + 1 } }

/-- Send a message on its next hop: a chip link, or a queue pair to another farm. Formation and recovery control
messages cross to it as datagrams (R342, R382); a plan too long for one goes the reliable way (DESIGN CHOICE, log
entry 144). -/
def State.hop (s : State) (x : Nat ⊕ Nat) (m : FabMsg) : State :=
  match x with
  | .inl n => s.sendLink n m.hopped
  | .inr q =>
    if m.head.type = 4 || (m.head.type = 6 && m.payload.length ≤ 4032) then
      if (s.qp 1).ready then
        (s.post 1 2 1 (.datagram (farmOf m.head.dest) m)).modQp 1 fun x => { x with sent := (x.sent + 1) % 2 ^ 64 }
      else s
    else s.sendOn q (.carriage m)

/-- Route a message that stands in this device: dropped past 5 hops, and where no route stays within phase 2 (R291). -/
def State.routeMsg (s : State) (m : FabMsg) : State :=
  if 5 ≤ m.head.hops then s.addObj 0x5406 0 1
  else
    match s.nextHop m with
    | none => s
    | some (.inl n) =>
      if 2 < phaseOf m.head.lane + (if s.raises n m.head then 1 else 0) then s else s.hop (.inl n) m
    | some (.inr q) => s.hop (.inr q) m

/-- A message that has come over a link, on the phase that it has after that hop: a global hop raises it once it is
taken, on the lane of the phase before (the route of chapter 12, after R298; DEDUCED, log entry 130). -/
def State.arrived (s : State) (n : Nat) (m : FabMsg) : FabMsg :=
  match (s.link n).peer with
  | some (a, _) =>
    if fieldOf a != fieldOf s.address && m.head.lane != 0 then
      { m with header := MsgHeader.bytes { m.head with lane := laneOf m.head.priority (phaseOf m.head.lane + 1) } }
    else m
  | none => m

/-- What an operation asks the fabric to carry. -/
structure Send where
  type : Nat
  dest : Nat
  epoch : Nat := 0
  step : Nat := 0
  flow : Nat := 0
  number : Nat := 0
  offset : Nat := 0
  word : Nat := 0
  payload : List Byte := []
  deriving DecidableEq, Repr

/-- The message of a request, as its source makes it. -/
def Send.msg (s : State) (x : Send) : FabMsg :=
  let b := padSlots x.payload
  let h : MsgHeader :=
    { type := x.type, flags := 0, lane := 0, hops := 0, dest := x.dest, source := s.address,
      slots := b.length / 64, seq := 0, ack := 0, epoch := x.epoch, step := x.step, flow := x.flow,
      number := x.number, offset := x.offset, word := x.word, crc := payloadCrc b }
  { header := MsgHeader.bytes { h with lane := laneOf h.priority 0 }, payload := b }

/-- Whether a destination can be reached within a paddock's rights (R291, R350). -/
def State.canReach (s : State) (p dest : Nat) : Bool :=
  (s.nextHop { Send.msg s { type := 1, dest := dest } with pad := some p }).isSome

/-- Send one message for a paddock. Messages of types 0x04 to 0x06, whose flow the spec leaves open, are numbered in
one flow of their own (DESIGN CHOICE, log entry 15). -/
def State.send (s : State) (p : Nat) (x : Send) : State :=
  if x.type < 4 then s.routeMsg { Send.msg s x with pad := some p }
  else
    let x := { x with flow := 2 ^ 32 - 1, number := s.controlNumber % 2 ^ 32 }
    { s with controlNumber := s.controlNumber + 1 }.routeMsg { Send.msg s x with pad := some p }

/-! ### Delivery (R292) -/

/-- Reserved fields of a partner copy's operation word and of a recovery control message's payload (R10, R381,
R382). -/
def FabMsg.bodyReserved (m : FabMsg) : Bool :=
  (m.head.type == 5 && m.head.word / 64 % 1024 != 0) || (m.head.type == 6 && leField m.payload 0x3C 4 != 0)

/-- Deliver a message once per source, flow identifier and message number. -/
def State.deliver (s : State) (m : FabMsg) : State :=
  let h := m.head
  let k := (h.source, h.flow, h.number)
  if s.seen.contains k then s
  else if m.bodyReserved then { s with seen := s.seen ++ [k] }.addObj 0x5404 0 1
  else
    { s with
      seen := s.seen ++ [k]
      inbox := s.inbox ++
        [{ kind := h.type, source := h.source, epoch := h.epoch, step := h.step, flow := h.flow,
           number := h.number, offset := h.offset, word := h.word, payload := m.payload }] }

/-- A message that stands in this device and is whole: delivered here, or routed on. -/
def State.accept (s : State) (m : FabMsg) : State :=
  if m.head.dest = s.address then s.deliver m else s.routeMsg m

/-- The sequence numbers of a group start again at its formation, and with them its flows: what had been delivered
from its members in that slot is no duplicate of what comes (R292, R314; DESIGN CHOICE, log entry 15). -/
def State.forgetFlows (s : State) (slot : Nat) (members : List Nat) : State :=
  { s with seen := s.seen.filter fun k => !(k.2.1 / 2 ^ 28 == slot && members.contains k.1) }

end Sys2Proof.Machine
end

