-- ==== Sys2Proof/Machine/Furrow.lean ====
section
/-! DEFINITION. The strip work counters: claims, steals, parking, release of contexts, the phase
barrier, and the completion of an instruction (R122, R126 to R130, R142, R143, R184). -/

namespace Sys2Proof.Machine
open Sys2Proof

/-! ### One request in one context (R126) -/

/-- Units that a fetch-and-add takes when `r` are unclaimed. -/
def claimSize (r : Nat) : Nat := if 1024 < r then 8 else if 256 < r then 4 else if 32 < r then 2 else 1

def rangeOf (c : Context) (q : Nat) : Nat × Nat := c.ranges.getD q (0, 0)

/-- The plot with the most unstarted units in its range, the lowest on a tie. -/
def victim (c : Context) : Option Nat :=
  (List.range 16).foldl (fun best q =>
    let n := (rangeOf c q).2 - (rangeOf c q).1
    match best with
    | none => if 0 < n then some q else none
    | some v => if (rangeOf c v).2 - (rangeOf c v).1 < n then some q else some v) none

def setRange (c : Context) (q : Nat) (r : Nat × Nat) : Context := { c with ranges := c.ranges.set q r }

/-- `request` of R126: a unit, or nothing to park, and the context after it. -/
def request (c : Context) (q : Nat) : Option Nat × Context :=
  let (b, e) := rangeOf c q
  if b < e then (some b, setRange c q (b + 1, e))
  else
    let r := c.total - c.next
    let g := claimSize r
    let x := c.next
    let c := { c with next := c.next + g }
    if x < c.total then (some x, setRange c q (x + 1, min (x + g) c.total))
    else
      match victim c with
      | none =>
        match c.returned with
        | [] => (none, c)
        | u :: r => (some u, { c with returned := r })
      | some v =>
        let (vb, ve) := rangeOf c v
        let h := (ve - vb + 1) / 2
        let start := ve - h
        (some start, setRange (setRange c v (vb, start)) q (start + 1, ve))

def Context.unclaimed (c : Context) : Bool := c.next < c.total
def Context.unstarted (c : Context) : Bool :=
  c.unclaimed || !c.returned.isEmpty || c.ranges.any fun r => decide (r.1 < r.2)

/-! ### Which context a plot serves (R129, R143, R184) -/

/-- Plots leave an edge context to the strip's edge engine while it is available. -/
def Strip.serves (st : Strip) (q : Nat) (c : Context) : Bool :=
  if q = 16 then c.edge && st.edge == .available else !(c.edge && st.edge == .available)

def Context.of (c : Context) (x : Started) : Bool :=
  c.paddock == x.paddock && c.flight == x.flight && c.list == x.list

def Context.sameFlight (c d : Context) : Bool := c.paddock == d.paddock && c.flight == d.flight

/-- Units of a list that a plot runs. -/
def Engines.of (e : Engines) (c : Context) : List Run := e.runs.filter fun r => c.of r.unit

/-- Jobs that a plot's unit of a list has left before it asks for the next one; nothing where it runs none. -/
def Engines.leftOf (e : Engines) (c : Context) : Option Nat := (e.of c).getLast?.map fun r => r.asks - r.sent

/-- The list that a plot of a gradient instruction serves: by parity in paired mode; in alternating mode the one in
which it runs no unit, else the one whose unit enters its last k-slice first (R143). -/
def wantedList (st : Strip) (q : Nat) (c : Context) : Nat :=
  if c.mode = 1 then q % 2
  else if c.mode = 2 then
    let e := st.plot q
    match e.leftOf { c with list := 0 }, e.leftOf { c with list := 1 } with
    | none, _ => 0
    | some _, none => 1
    | some x, some y => if x ≤ y then 0 else 1
  else c.list

/-- The position of the context that a plot's request goes to, of those that are open. -/
def chooseContext (st : Strip) (open_ : Context → Bool) (q : Nat) : Option Nat :=
  let cs := st.contexts.zipIdx.filter fun x => st.serves q x.1 && open_ x.1
  let own := cs.find? fun x => decide ((rangeOf x.1 q).1 < (rangeOf x.1 q).2)
  let prefer := fun (x : Context × Nat) =>
    match cs.find? fun y => x.1.sameFlight y.1 && y.1.list == wantedList st q x.1 && y.1.unstarted with
    | some y => y.2
    | none => x.2
  match own with
  | some x => if x.1.mode = 2 then some (prefer x) else some x.2
  | none =>
    match cs.find? fun x => x.1.unclaimed with
    | some x => some (prefer x)
    | none =>
      match cs.find? fun x => x.1.unstarted with
      | some x => some (prefer x)
      | none => none

/-! ### Completion and release (R130) -/

/-- A context whose last unit of its last phase has completed. -/
def Context.over (c : Context) : Bool := c.total ≤ c.done && c.later.isEmpty

/-- Post waiting contexts, those of one instruction together, while there is room (R129, R142). -/
def postWaiting : Nat → Strip → Strip
  | 0, st => st
  | n + 1, st =>
    match st.waiting with
    | [] => st
    | w :: _ =>
      let mine := st.waiting.filter w.sameFlight
      if st.contexts.length + mine.length ≤ 8 then
        postWaiting n { st with
          contexts := st.contexts ++ mine
          waiting := st.waiting.filter fun x => !w.sameFlight x
          parked := [] }
      else st

/-- Release the contexts that are over. -/
def Strip.settle (st : Strip) : Strip :=
  let st := { st with contexts := st.contexts.filter fun c => !c.over }
  postWaiting st.waiting.length st

/-- A started unit completes and is written. -/
def Strip.finish (st : Strip) (x : Started) : Strip :=
  { st with
    started := st.started.erase x
    contexts := modWhere st.contexts (fun c => c.of x) fun c => { c with done := c.done + 1 } }

/-- A started unit, as its plot takes it. -/
def Strip.begin (st : Strip) (q : Nat) (c : Context) (u : Nat) : Strip :=
  { st with started := st.started ++
      [{ plot := q, paddock := c.paddock, flight := c.flight, list := c.list, unit := u }] }

/-- Give a plot its next unit, or park it. A plot that parks asks the oldest context it may serve once more (R126;
DESIGN CHOICE, log entry 116). -/
def Strip.serve (st : Strip) (open_ : Context → Bool) (q : Nat) : Strip :=
  let ask := fun (i : Nat) =>
    match st.contexts[i]? with
    | none => { st with parked := st.parked ++ [q] }
    | some c =>
      let (u, c') := request c q
      let st := { st with contexts := st.contexts.set i c' }
      match u with
      | some u => st.begin q c u
      | none => { st with parked := st.parked ++ [q] }
  match chooseContext st open_ q with
  | some i => ask i
  | none => ask ((st.contexts.findIdx? fun c => st.serves q c && open_ c).getD st.contexts.length)

/-- The edge engine claims the next swath of its oldest context (R184). -/
def Strip.serveEdge (st : Strip) (open_ : Context → Bool) : Strip :=
  match st.contexts.zipIdx.find? fun x => x.1.edge && x.1.unclaimed && open_ x.1 with
  | some (c, i) => { st with contexts := st.contexts.set i { c with next := c.next + 1 } }.begin 16 c c.next
  | none => st

/-- Whether a logical plot of a strip is served by a plot. -/
def Strip.live (st : Strip) (q : Nat) : Bool :=
  if q = 16 then st.edge == .available else ((st.map[q]?).getD none).isSome

/-- A plot under test takes no new work (R359). -/
def State.plotTesting (s : State) (k q : Nat) : Bool :=
  match ((s.strip k).map[q]?).getD none with
  | some phys => s.faults.testing.any fun x => x.unit == (UnitClass.plot, 17 * k + phys)
  | none => false

/-! ### What an instruction waits for -/

/-- A byte range lies partly in an allocation that is still being zeroed (R216). -/
def waitsForZero (d : Paddock) (x : Span) : Bool :=
  d.allocs.any fun e => e.2.zeroing && rangesMeet x.addr x.len e.2.base e.2.len

/-- A write that meets a block that is still to come or to be granted (R219, R220). -/
def waitsForFetch (d : Paddock) (x : Span) : Bool :=
  x.write && d.allocs.any fun e => e.2.kind == 1 && (e.2.reads x.addr x.len .fetching
    || e.2.reads x.addr x.len .offloaded || e.2.reads x.addr x.len .awaited)

/-- A writer waits for the fetches of blocks it covers in part; a recompute program has blocks of its own
(R220, R222). -/
def writerWaits (d : Paddock) (f : Flight) : Bool :=
  !((d.program f.prog).any fun pr => pr.recompute.isSome) && f.spans.any (waitsForFetch d)

/-- An instruction names a slot whose load is still under way (R198, R272). -/
def loadsFor (d : Paddock) (f : Flight) : List Nat :=
  (d.flights.filter fun g => g.serial < f.serial && match g.loads with
    | some k => f.codebooks.contains k || (match f.dict with | some n => n + 4 == k | none => false)
    | none => false).map (·.serial)

/-- Units of an instruction may be taken: no load of a slot that it names is under way. -/
def State.opens (s : State) (c : Context) : Bool :=
  match (s.pad c.paddock).flights.find? fun f => f.serial == c.flight with
  | some f => (loadsFor (s.pad c.paddock) f).isEmpty
  | none => true

/-- A property of the instruction of a unit. -/
def State.unitTest (s : State) (u : Started) (f : Paddock → Flight → Bool) : Bool :=
  match (s.pad u.paddock).flights.find? fun x => x.serial == u.flight with
  | some x => f (s.pad u.paddock) x
  | none => true

/-- What holds a plot's engines back: operands that are still to come, outputs without room. -/
def State.gate (s : State) : Engines.Gate :=
  { data := fun u => s.unitTest u fun d f => f.waits.isEmpty && !(f.spans.any (waitsForZero d))
    space := fun u => s.unitTest u fun d f => (needsOf d f).isEmpty && !writerWaits d f }

def State.unitRuns (s : State) (u : Started) : Bool := s.gate.data u && s.gate.space u

/-! ### The engines of a plot run (R111, R112, R117) -/

/-- PlotJob `j` of a unit. -/
def State.jobOf (s : State) (k : Nat) (u : Started) (j : Nat) : PlotJob :=
  match (s.strip k).contextOf u with
  | none => { PlotJob.blank u 0 with endsUnit := true }
  | some c =>
    match (s.pad u.paddock).flights.find? fun f => f.serial == u.flight with
    | some f => c.phase.job u f.cls f.opcode j
    | none => c.phase.job u 0 0 j

def State.modPlot (s : State) (k q : Nat) (f : Engines → Engines) : State :=
  s.setStrip k ((s.strip k).setPlot q (f ((s.strip k).plot q)))

/-- The values of the segments of a quad in the strip store (R117). -/
def segmentItem (u : Started) (quad seg : Nat) : StoreItem := .segment u.paddock u.flight u.list quad seg

/-- The step of R117 at the plot that completes a quad's last segment unit: it combines, converts and writes. -/
def combineJob (u : Started) (w : Work) (x : Product) (quad : Nat) : PlotJob :=
  let ss := x.swaths (x.quadAt quad)
  let adds := ((List.range x.nseg).map (Product.joins 32)).foldl (· + ·) 0 + (Product.ending 32 x.nseg - 1)
  let tries := (ss.map fun s => 1 + wordRetries (w.words.getD (x.swathNumber (x.quadAt quad) s) 0)).foldl (· + ·) 0
  { PlotJob.blank u 0 with
    vector := 16 * tries * (adds + x.post)
    stores := (ss.filter fun s => 0 < x.written s).flatMap fun s => requestsOf (x.written s * x.outBits / 8)
    out := x.outCxl, endsUnit := true, combines := true }

/-- A unit completes and is written. -/
def State.closeUnit (s : State) (k q : Nat) (u : Started) (c : Context) (completes : Bool) : State :=
  let s := match ((s.strip k).plot q).runs.find? fun r => r.unit == u with
    | some r => s.countEnd k q r c.phase completes
    | none => s
  let s := s.modPlot k q fun e => e.keep (· != u)
  s.setStrip k ((s.strip k).finish u).settle

/-- The last job of a unit is over. A segment unit leaves its values in the strip store, and the last one of its quad
completes the quad. The segments of a quad that R180 splits may have run in several strips. -/
def State.endUnit (k q : Nat) (combined : Bool) (s : State) (u : Started) : State :=
  match (s.strip k).contextOf u with
  | none => s.modPlot k q fun e => e.keep (· != u)
  | some c =>
    match c.phase.kindOf u.unit, c.phase.work.shape with
    | .segment i g, .product x =>
      if combined then s.closeUnit k q u c true
      else
        let store := (s.strip k).store ++ [segmentItem u i g]
        let all := (List.range x.nseg).map (segmentItem u i)
        let s := s.setStrip k { s.strip k with store := store }
        if all.all fun y => s.strips.any fun st => st.store.contains y then
          ({ s with strips := s.strips.map fun st =>
              { st with store := st.store.filter fun y => !all.contains y } } : State).modPlot k q fun e =>
            { e with vector := e.vector.push (some (combineJob u c.phase.work x i)) }
        else s.closeUnit k q u c false
    | _, _ => s.closeUnit k q u c true

/-- Which of a plot's units that end do so after they have combined their quad. -/
def combining (e : Engines) (u : Started) : Bool :=
  (e.store.queue ++ e.compact.queue ++ e.vector.queue).any fun j => j.unit == u && j.combines

/-- Put what the engines have done into the state. -/
def State.tickPlot (s : State) (k q : Nat) (t : Engines.Tick) : State :=
  let was := (s.strip k).plot q
  let s := (s.modPlot k q fun _ => t.plot).countTallies k q t.tallies
  t.ended.foldl (fun s u => State.endUnit k q (combining was u) s u) s

/-- Every job in a plot's engines runs to its end, and what that completes is completed. -/
def State.flushPlot (s : State) (k q : Nat) : State :=
  let s := s.tickPlot k q ((s.strip k).plot q).flush
  s.tickPlot k q ((s.strip k).plot q).flush

/-- The next `n` jobs of a plot's unit run. -/
def State.runUnit (k q n : Nat) (s : State) (u : Started) : State :=
  (s.tickPlot k q (Engines.runJobs { plot := (s.strip k).plot q, tallies := [], ended := [] } u (s.jobOf k) n)).flushPlot k q

/-- The starved slots of a plot while its units ran, by cause: free values (log entry 136). -/
def State.starve (s : State) (k q : Nat) (u : Started) : State :=
  let v := s.draw.1
  let sum := fun (l : List Nat) => (l.map (Config.stall v)).foldl (· + ·) 0
  let front := [0x20, 0x34, 0x1A, 0x1B, 0x1C]
  let back := [0x21, 0x1D, 0x1E]
  s.draw.2.countTallies k q ((front ++ back).map (fun c => { unit := u, code := c, n := Config.stall v c })
    ++ [{ unit := u, code := 0x04, n := sum front }, { unit := u, code := 0x05, n := sum back },
        { unit := u, code := 0x01, n := sum (front ++ back) }])

/-- A plot's units before one run to their end, and that one's next `n` jobs run; in alternating mode the unit of the
other list runs as many. -/
def State.runPlot (s : State) (k q : Nat) (u : Started) (n : Nat) : State :=
  let s := (s.starve k q u).flushPlot k q
  let e := (s.strip k).plot q
  let pair := fun (r : Run) =>
    r.unit.flight == u.flight && r.unit.paddock == u.paddock && r.unit.list != u.list
      && (s.strip k).contexts.any fun c => c.of r.unit && c.mode == 2
  let before := (e.runs.takeWhile fun r => r.unit != u).filter fun r => !pair r
  let s := before.foldl (fun s r => State.runUnit k q (r.jobs - r.sent) s r.unit) s
  let s := match e.runs.find? pair with
    | some r => State.runUnit k q (min n (r.jobs - r.sent)) s r.unit
    | none => s
  State.runUnit k q n s u

/-- The k-slices that the strip store holds: for each unit of a product on a plot, the one it reads and the next
(R114, R118). -/
def Strip.slicesOf (st : Strip) : List StoreItem :=
  (st.plots.toList.flatMap fun e => e.runs.flatMap fun r =>
    match st.contextOf r.unit with
    | none => []
    | some c =>
      match c.phase.work.shape, c.phase.kindOf r.unit.unit with
      | .product x, kind =>
        match kind with
        | .skim => []
        | .whole i | .segment i _ =>
          let q := x.quadAt i
          let ss := max 1 (x.swaths q).length
          let t := r.sent / ss
          ((List.range 2).filter fun d => t + d < ceilDiv r.jobs ss).map fun d =>
            .slice r.unit.paddock r.unit.flight r.unit.list q.t2.1 q.t2.2 q.higher (t + d)
              ((x.t2.1 * x.bBits + x.t2.2 * x.aBits) * x.slice / 8)
      | _, _ => []).eraseDups

def StoreItem.isSegment (x : StoreItem) : Bool :=
  match x with
  | .segment .. => true
  | _ => false

def State.refill (s : State) (k : Nat) : State :=
  let st := s.strip k
  s.setStrip k { st with store := st.store.filter StoreItem.isSegment ++ st.slicesOf }

/-! ### A request (R112, R126 to R130) -/

/-- The unit that must enter its last k-slice before a plot asks for more: its last one, in alternating mode of the
list that it asks. -/
def Strip.target (st : Strip) (open_ : Context → Bool) (q : Nat) : Option Run :=
  let e := st.plot q
  match (chooseContext st open_ q).bind fun i => st.contexts[i]? with
  | some c =>
    if c.mode = 2 && e.runs.any fun r => r.unit.paddock == c.paddock && r.unit.flight == c.flight then (e.of c).getLast?
    else e.runs.getLast?
  | none => e.runs.getLast?

/-- A plot's new unit begins in its engines. -/
def State.beginRun (s : State) (k q : Nat) (old : Strip) : State :=
  match (s.strip k).held q with
  | none => s
  | some u =>
    if q = 16 || old.started.contains u then s
    else match (s.strip k).contextOf u with
      | none => s
      | some c =>
        let pace := match (s.pad u.paddock).flights.find? fun f => f.serial == u.flight with
          | some f => paceOf f.cls f.opcode (c.phase.kindOf u.unit == .skim)
          | none => 0
        s.draw.2.modPlot k q fun e => e.start u c.phase pace s.draw.1

/-- The work counter answers a plot: a unit, or it parks. -/
def State.answer (s : State) (k q : Nat) : State :=
  let old := s.strip k
  let s := s.setStrip k (old.serve s.opens q)
  ((countRequest k q old s).beginRun k q old).refill k

/-- One request to a strip's work counter. A plot sends it as its current unit enters its last k-slice or issues its
last read: where it is not that far, the time until then passes for the plot (R112, R132; DESIGN CHOICE, log entry
136). Plot 16 stands for the strip's edge engine (log entry 14). -/
def execWorkRequest (strip plot : Nat) (s : State) : Host.Outcome State Fault Refusal :=
  let st := s.strip strip
  .next (
    if 24 ≤ strip || 16 < plot || s.plotTesting strip plot || !st.live plot || st.parked.contains plot then s
    else if plot = 16 then
      let st := match st.started.find? fun x => x.plot == 16 with
        | some x => (st.finish x).settle
        | none => st
      s.setStrip strip (st.serveEdge s.opens)
    else match st.target s.opens plot with
      | none => s.answer strip plot
      | some r =>
        if ((st.plot plot).runs.takeWhile fun x => x.unit != r.unit).all (fun x => s.unitRuns x.unit) && s.gate.data r.unit then
          (s.runPlot strip plot r.unit (r.asks - r.sent)).answer strip plot
        else s)

/-- Every started unit of an instruction runs to its end, where no unit of its lists is left unstarted. -/
def State.finishUnits (s : State) (p n : Nat) : State :=
  let mine := fun (u : Started) => u.paddock == p && u.flight == n
  if s.strips.toList.any fun st => (st.contexts ++ st.waiting).any fun c =>
      c.paddock == p && c.flight == n && c.unstarted then s
  else (List.range 24).foldl (fun s k =>
    let s := ((s.strip k).started.filter fun u => u.plot == 16 && mine u).foldl (fun s u =>
      s.setStrip k ((s.strip k).finish u).settle) s
    (List.range 16).foldl (fun s q =>
      let l := ((s.strip k).plot q).runs
      match (l.filter fun r => mine r.unit).getLast? with
      | none => s
      | some r =>
        if s.plotTesting k q || !(l.all fun x => s.unitRuns x.unit) then s
        else
          let s := (l.filter fun x => mine x.unit && x.unit != r.unit).foldl (fun s x =>
            s.runPlot k q x.unit (x.jobs - x.sent)) s
          s.runPlot k q r.unit (r.jobs - r.sent)) s) s

/-! ### The phase barrier (R122) -/

/-- The contexts of a flight in every strip. -/
def State.contextsOf (s : State) (p n : Nat) : List Context :=
  s.strips.toList.flatMap fun st =>
    (st.contexts ++ st.waiting).filter fun c => c.paddock == p && c.flight == n

/-- Open the next phase of a context. -/
def Context.advance (c : Context) : Context :=
  match c.later with
  | [] => c
  | f :: r => { c with next := 0, total := f.total, done := 0, ranges := freshRanges, phase := f, later := r }

/-- The next phase of an instruction is handed out once every unit of the one before has completed
in every strip of the paddock. Parked plots wake (DESIGN CHOICE, log entry 115). -/
def execPhaseBarrier (p n : Nat) (s : State) : Host.Outcome State Fault Refusal :=
  let s := s.finishUnits p n
  let cs := s.contextsOf p n
  .next (
    if cs.isEmpty || cs.any (fun c => c.done < c.total) || cs.all (fun c => c.later.isEmpty) then s
    else
      { s with strips := s.strips.map fun st =>
          if st.contexts.any fun c => c.paddock == p && c.flight == n then
            { st with
              parked := []
              contexts := modWhere st.contexts (fun c => c.paddock == p && c.flight == n)
                Context.advance }.settle
          else st })

/-! ### Completion of an instruction (R130) -/

/-- A link or a queue pair still holds messages of a flow (R321). -/
def State.flowHeld (s : State) (flow : Nat) : Bool :=
  let mine := fun (m : FabMsg) =>
    leField m.header 0x20 4 == flow && leField m.header 8 4 == s.power.address % 2 ^ 18
      && leField m.header 0 1 < 4
  (s.links.toList.any fun l => (l.unacked.any fun x => mine x.2) || l.waiting.any mine)
    || s.qps.any fun q => q.outgoing.any fun o => match o with
      | .carriage m => mine m
      | _ => false

/-- The flow identifier of an operation (R317). -/
def FabOp.flow (o : FabOp) : Nat := o.group * 2 ^ 28 + o.seq

/-- A send completes once its messages are acknowledged (R321). -/
def sendsAcked (s : State) (p : Nat) (f : Flight) : Bool :=
  !((s.pad p).ops.any fun o => o.flight == f.serial && o.kind == 4 && s.flowHeld o.flow)

/-- A send whose path has further hops: nothing here says when its last hop is acknowledged (R321, log entry 133). -/
def farSend (s : State) (p : Nat) (o : FabOp) : Bool :=
  let dest := ((s.pad p).group o.group).members.getD (o.r.p 2) 0
  o.kind == 4 && match s.pick (some p) dest s.address o.flow with
    | some n => (match (s.link n).peer with | some (a, _) => a != dest | none => true)
    | none => true

/-- Whether a flight is a send over more than one hop. -/
def farFlight (s : State) (p n : Nat) : Bool := (s.pad p).ops.any fun o => o.flight == n && farSend s p o

/-- A unit under test holds work of the instruction that runs again after the test (R360). -/
def waitsForTest (s : State) (p n : Nat) : Bool :=
  s.faults.testing.any fun x => x.victim == some (p, n)

/-- Every strip has released its context, and nothing else of the instruction is under way. -/
def canRetire (s : State) (p : Nat) (f : Flight) : Bool :=
  (s.contextsOf p f.serial).isEmpty && f.hold == .none && f.waits.isEmpty && f.stage.isEmpty
    && sendsAcked s p f && !(f.spans.any (waitsForZero (s.pad p)))
    && !writerWaits (s.pad p) f && (needsOf (s.pad p) f).isEmpty && !waitsForTest s p f.serial
    && (loadsFor (s.pad p) f).isEmpty

/-- An instruction completes; a send over several hops does so where a free value says that its last hop has been
acknowledged. -/
def execInstructionComplete (p n : Nat) (s : State) : Host.Outcome State Fault Refusal :=
  let s := s.finishUnits p n
  .next (match (s.pad p).flights.find? fun f => f.serial == n with
    | some f =>
      if !canRetire s p f then s
      else if farFlight s p n then
        (if s.draw.1 % 2 = 1 then (retire s.draw.2 p f).grant p else s.draw.2)
      else (retire s p f).grant p
    | none => s)

end Sys2Proof.Machine
end

