-- ==== Sys2Proof/Machine/Links.lean ====
section
/-! DEFINITION. The link layer of the chip links: receipt, acknowledgement, replay, bring-up, loss,
retirement and spares, and the Headland's bypass (R281 to R289, R292 to R295, R302). -/

namespace Sys2Proof.Machine
open Sys2Proof

/-! ### Acknowledgement (R282) -/

/-- How many of the oldest unacknowledged messages an acknowledged sequence covers. -/
def ackedCount (l : Link) (a : Nat) : Nat :=
  match l.unacked.findIdx? fun x => x.1 == a with
  | some i => i + 1
  | none => 0

/-- A cumulative acknowledgement arrives: what it covers leaves the replay buffer. -/
def State.acked (s : State) (n a : Nat) : State :=
  let l := s.link n
  let k := ackedCount l a
  if k = 0 then s
  else (s.setLink n { l with unacked := l.unacked.drop k, replays := 0 }).drainLink n

/-- The credit totals of a link-control message arrive (R285). -/
def State.credited (s : State) (n : Nat) (b : List Byte) : State :=
  (s.modLink n fun l => { l with
    returned := leField b 0x20 2 :: (List.range 6).map fun i => leField b (0x14 + 2 * i) 2 }).drainLink n

/-! ### Going down (R292, R293) -/

/-- A group of a running job has a route over a link: to one of its members (R295, R303). -/
def State.linkBusy (s : State) (n : Nat) : Bool :=
  (List.range 8).any fun p => (s.pad p).groups.toList.any fun g =>
    (g.state == .formed || g.state == .forming)
      && g.members.any fun a => a != s.address && farmOf a == farmOf s.address && (s.routeTo (some p) a).contains n

/-- A link with its link layer at the start: sequences at 0 and buffers empty (R302). -/
def Link.restart (l : Link) (st : LinkState) : Link :=
  { Link.fresh with
    state := st, lastDown := l.lastDown, spareErrors := l.spareErrors, inUse := l.inUse
    cabling := l.cabling }

/-- Log the retirement of a link (R293, R360). -/
def State.logRetired (s : State) (n : Nat) (spare : Bool) (detection : Nat) : State :=
  s.log { status := 0x51, cls := .chipLink, unit := n, detection := detection,
          outcome := if spare then 2 else 3, detail := n }

/-- A spare that idles without errors and can be brought into use for a retired link (R276, R288, R293). -/
def State.freeSpare (s : State) (n : Nat) : Option Nat :=
  ([46, 47] ++ (if 30 ≤ n && n < 46 && slotOf s.address = 15 then [45] else [])).find? fun k =>
    k != n && (s.link k).state == LinkState.spareIdle && (s.link k).spareErrors == 0 && !(s.link k).inUse

/-- Retired links that a spare is to replace: those of this device that are no spares (R293, log entry 131). -/
def State.retiredLinks (s : State) : List Nat :=
  (List.range 46).filter fun n => (s.link n).state == .retired && !spareLink s.address n

/-- Bring spares into use until there is one for each retired link, as far as they go. -/
def State.useSpares (s : State) : State :=
  let used := ((List.range 48).filter fun k => (s.link k).inUse).length
  (s.retiredLinks.drop used).foldl (fun s n =>
    match s.freeSpare n with
    | some k => s.modLink k fun l => { l with state := .up, inUse := true }
    | none => s) s

/-- Retire a link (R293). -/
def State.retireLink (s : State) (n detection : Nat) : State :=
  let spare := !spareLink s.address n && (s.freeSpare n).isSome
  (((s.modLink n fun l => { l.restart .retired with inUse := false }).logRetired n spare detection).addObj
    0x9011 0 1).useSpares |>.rebuild

/-- A message as it stood before it was handed to a link: the hop is undone. -/
def FabMsg.unhopped (m : FabMsg) : FabMsg :=
  { m with header := MsgHeader.bytes { m.head with hops := m.head.hops - 1 } }

/-- What a link has not delivered, as it stood before that link. -/
def State.undelivered (s : State) (n : Nat) : List FabMsg :=
  ((((s.link n).unacked.map (·.2)) ++ (s.link n).waiting).filter fun m => m.head.type < 7).map FabMsg.unhopped

/-- Move what a link has not delivered to other paths, where they exist (R292). -/
def State.moveAway (s : State) (l : List FabMsg) : State := l.foldl State.routeMsg s

/-- A link goes down: it retrains at once, or is retired at a second fall within 1 s (R293). What it
had not delivered moves to other paths. -/
def State.fallLink (s : State) (n : Nat) (counted : Bool) : State :=
  let l := s.link n
  let old := s.undelivered n
  let again := match l.lastDown with | some t => s.now < t + 1000000000 | none => false
  let s := if counted then s.addObj 0x5006 n 1 else s
  let l' := { l.restart .training with
    lastDown := if counted then some s.now else l.lastDown
    testPending := counted, cabling := s.obj 0x5402 0 == 1 }
  let s := s.setLink n l'
  let s := if counted && again then s.retireLink n 2 else s.rebuild
  s.moveAway old

/-! ### Receipt (R281, R282, R284) -/

/-- Ask for a replay from the sequence expected. -/
def State.nak (s : State) (n : Nat) : State :=
  (s.modLink n fun l => { l with nakSent := true }).sendControl n 1 (s.link n).rxSeq

/-- The abort of a message. -/
def abortOf (h : MsgHeader) : FabMsg :=
  { header := MsgHeader.bytes { h with type := 0x13, flags := 0, slots := 0, crc := 0, word := 0 }, payload := [] }

/-- What had gone on to another link of a message that turns out errored: its header, where its CRC held, and some of
its payload slots; how many is a free value. An abort takes the place of the rest (R281). -/
def State.cutShort (s : State) (n : Nat) (header payload : List Byte) : State :=
  let h := parseMsg header
  if h.dest = s.address || !(1 ≤ h.type && h.type ≤ 6) || 5 ≤ h.hops || reservedSet header then s
  else
    let m := (s.arrived n { header := header, payload := [] })
    match s.nextHop m with
    | some (.inl k) =>
      let m := m.hopped
      let l := s.link k
      if !l.mayStart m || l.waiting.any fun y => y.head.lane == m.head.lane then s
      else
        let (v, s) := s.draw
        let j := v % (min h.slots (payload.length / 64) + 1)
        let x := s.enterLink k { m with payload := payload.take (64 * j) } (1 + j)
        (x.1.emit (.linkBegin k x.2 j)).sendLink k (abortOf m.head)
    | _ => s

/-- Free the receive slots of a message and send the running totals (R283, R285). -/
def State.freeSlots (s : State) (n lane slots : Nat) : State :=
  (s.modLink n fun l => { l with freed := bump l.freed lane slots }).sendControl n 0 0

/-- A message on its lane is over; sequences taken meanwhile are noted while an earlier one is still coming. -/
def Link.ended (l : Link) (seq : Nat) : Link :=
  if l.arriving.isEmpty then { l with taken := [] } else { l with taken := l.taken ++ [seq] }

/-- A message of which every slot has come: it is checked, and used (R280, R281). A payload error gives back its
sequence number. -/
def State.wholeMessage (s : State) (n : Nat) (bad : Bool) (header payload : List Byte) : State :=
  let h := parseMsg header
  if bad || payload.length != 64 * h.slots || payloadCrc payload != h.crc then
    ((s.cutShort n header payload).modLink n fun l => { l with rxSeq := h.seq }).nak n
  else
    let s := s.modLink n fun l => { l.ended h.seq with ackDue := true }
    let s := s.freeSlots n h.lane (1 + h.slots)
    if reservedSet header then s.addObj 0x5404 0 1
    else if 1024 < h.slots || (h.flags.testBit 0 && 4 < h.slots) then s
    else s.accept (s.arrived n { header := header, payload := payload })

/-- A message may begin on a link while others are still coming: a priority one within a bulk one (R284). -/
def Link.mayBegin (l : Link) (lane : Nat) : Bool :=
  match l.arriving with
  | [] => true
  | [x] => 4 ≤ (parseMsg x.header).lane && laneClass lane == 1
  | _ => false

/-- Further payload slots of the message in progress; with none in progress they belong to a message that has been
discarded (R282). -/
def State.moreSlots (s : State) (n : Nat) (bad : Bool) (payload : List Byte) : State :=
  match (s.link n).arriving.getLast? with
  | none => s
  | some x =>
    let got := x.payload ++ payload
    let s := s.modLink n fun l => { l with arriving := l.arriving.dropLast }
    if bad || 64 * (parseMsg x.header).slots ≤ got.length then s.wholeMessage n bad x.header got
    else s.modLink n fun l => { l with arriving := l.arriving ++ [{ x with payload := got }] }

/-- A header and the payload slots that follow it without a break. Every errored message brings a NAK; a sound one that
is not the one expected does while none is out, and is otherwise one of the later messages that R282 discards (log entry
141). -/
def State.newMessage (s : State) (n : Nat) (bad : Bool) (header payload : List Byte) : State :=
  let l := s.link n
  let h := parseMsg header
  let due := h.seq == l.rxSeq
  if bad || !headerCrcOk header || !l.mayBegin h.lane then
    let s := if headerCrcOk header && due && l.mayBegin h.lane then s.cutShort n header payload else s
    s.nak n
  else if 0x10 ≤ h.type && h.type ≤ 0x13 then s
  else if !(1 ≤ h.type && h.type ≤ 6) then (s.addObj 0x5405 0 1).freeSlots n h.lane (1 + h.slots)
  else if !due then if l.nakSent then s else s.nak n
  else if l.taken.contains h.seq then s.modLink n fun l => { l with rxSeq := (l.rxSeq + 1) % 65536, nakSent := false }
  else
    let s := s.modLink n fun l => { l with rxSeq := (l.rxSeq + 1) % 65536, nakSent := false }
    let s := if h.flags.testBit 1 then s.acked n h.ack else s
    if payload.length < 64 * h.slots then
      s.modLink n fun l => { l with arriving := l.arriving ++ [{ header := header, payload := payload }] }
    else s.wholeMessage n false header payload

/-- Slots of a message on an up link: its header and what follows it, or, without a header, further payload slots of
the message in progress. Types 0x10 to 0x13 come by commands of their own; here only their errors are seen. -/
def execLinkMessage (link : Nat) (codewords : Codewords) (badKind : Bool) (header payload : List Byte)
    (s : State) : Host.Outcome State Fault Refusal :=
  .next (
    if 48 ≤ link || !(s.link link).isUp || (header.length != 64 && header.length != 0) then s
    else
      let s := (s.addObj 0x5008 link (header.length / 64 + payload.length / 64)).addObj 0x5003 link codewords.corrected
      let s := if codewords.uncorrectable then s.addObj 0x5004 link 1 else s
      let bad := codewords.uncorrectable || badKind
      if header.isEmpty then s.moreSlots link bad payload else s.newMessage link bad header payload)

/-- An abort: the partial message on its lane is discarded, and nothing of it is delivered (R281). It
takes a sequence number of its own (R282). -/
def execAbort (link : Nat) (header : List Byte) (s : State) : Host.Outcome State Fault Refusal :=
  let l := s.link link
  let h := parseMsg header
  .next (
    if 48 ≤ link || !l.isUp || header.length != 64 || h.type != 0x13 then s
    else
      let s := s.addObj 0x5008 link 1
      if !headerCrcOk header then s.nak link
      else if h.seq != l.rxSeq then if l.nakSent then s else s.nak link
      else
        let s := s.modLink link fun l => { l with rxSeq := (l.rxSeq + 1) % 65536, nakSent := false, ackDue := true }
        let s := if h.flags.testBit 1 then s.acked link h.ack else s
        if reservedSet header then (s.addObj 0x5404 0 1).freeSlots link h.lane 1
        else
          let mine := fun (x : Arriving) => (parseMsg x.header).lane == h.lane
          let freed := ((l.arriving.filter mine).map fun x => 1 + x.payload.length / 64).foldl (· + ·) 1
          (s.modLink link fun l =>
            let l := { l with arriving := l.arriving.filter fun x => !mine x }
            l.ended h.seq).freeSlots link h.lane freed)

/-! ### Link control (R285) -/

/-- Reserved fields of a link-control message. -/
def controlReserved (b : List Byte) : Bool :=
  leField b 1 1 ≥ 32 || leField b 0xC 2 != 0 || leField b 0xE 2 != 0 || !zeroField b 0x22 26
    || leField b 4 4 ≥ 2 ^ 18 || leField b 8 4 ≥ 2 ^ 18

/-- A link-control message that can be used on a link. One whose CRC fails is lost. -/
def controlOk (header : List Byte) : Bool :=
  header.length == 64 && leField header 0 1 == 0x10 && headerCrcOk header

/-- What every link-control message does: credits, an acknowledgement, and a link going down. -/
def State.control (s : State) (n : Nat) (b : List Byte) : State :=
  let s := s.addObj 0x5008 n 1
  if controlReserved b then s.addObj 0x5404 0 1
  else
    let f := leField b 1 1
    let s := s.credited n b
    let s := if f.testBit 1 then s.acked n (leField b 0x10 2) else s
    if f.testBit 4 then s.fallLink n true else s

def carriesControl (l : Link) : Bool := l.isUp || l.state == .bypass || l.state == .spareIdle

/-- Credits and acknowledgements, with no NAK and no release (R285). -/
def execLinkControl (link : Nat) (header : List Byte) (s : State) : Host.Outcome State Fault Refusal :=
  let f := leField header 1 1
  .next (
    if 48 ≤ link || !carriesControl (s.link link) || !controlOk header || f.testBit 0 || f.testBit 2
        || f.testBit 3 then s
    else s.control link header)

/-- Send again from the sequence the receiver expects, then the PRBS31 slots (R282). -/
def State.replayFrom (s : State) (n e : Nat) : State :=
  let l := s.link n
  match l.unacked.findIdx? fun x => x.1 == e with
  | none => s
  | some i =>
    let rest := l.unacked.drop i
    let tries := (if i = 0 then l.replays else 0) + 1
    let s := (s.setLink n { l with unacked := rest, replays := tries }).addObj 0x5005 n 1
    let s := (rest.foldl (fun s x => (s.emit (.linkMessage n x.2)).addObj 0x5007 n x.2.slots) s).emit (.prbs n)
    if 8 ≤ tries then s.fallLink n true else s

/-- A NAK names the sequence expected: go back to it. With the eighth replay of one sequence the link goes
down (R282). -/
def execNak (link : Nat) (header : List Byte) (s : State) : Host.Outcome State Fault Refusal :=
  .next (
    if 48 ≤ link || !(s.link link).isUp || !controlOk header || !(leField header 1 1).testBit 0 then s
    else
      let s := s.control link header
      if controlReserved header || !(s.link link).isUp then s
      else s.replayFrom link (leField header 0x12 2))

/-- The targeted test after a replay: an error takes the link down (R282). On a spare that idles, the errors
of the PRBS31 it carries are counted (R293). -/
def execReplayPrbsCheck (link errors : Nat) (s : State) : Host.Outcome State Fault Refusal :=
  .next (
    if 48 ≤ link || errors = 0 then s
    else match (s.link link).state with
    | .up => s.fallLink link true
    | .spareIdle => s.modLink link fun l => { l with spareErrors := l.spareErrors + errors }
    | _ => s)

/-- 10 µs without acknowledgement while messages are outstanding takes the link down (R282). -/
def execLinkAckTimeout (link : Nat) (s : State) : Host.Outcome State Fault Refusal :=
  .next (if 48 ≤ link || !(s.link link).isUp || (s.link link).unacked.isEmpty then s
    else s.fallLink link true)

/-- An acknowledgement that no reverse header has carried goes in a link-control message (R282). -/
def execLinkAckDue (link : Nat) (s : State) : Host.Outcome State Fault Refusal :=
  .next (if 48 ≤ link || !(s.link link).isUp || !(s.link link).ackDue then s
    else s.sendControl link 2 0)

/-! ### Bringing a link up (R286) -/

/-- The paddocks that are standbys (R370). -/
def State.standby (s : State) : Bool :=
  (List.range 8).any fun p => (s.pad p).present && ((s.pad p).obj 0x9009 0 >>> 32).testBit 0

/-- The first 8 bytes of the device identity digest (R286, R425). -/
def State.identityDigest (s : State) : List Byte := Crypto.sha512 s.life.publicKey

/-- A message of lane 0 that is not sequenced. -/
def laneZero (s : State) (type dest : Nat) (payload : List Byte) : FabMsg :=
  let b := padSlots payload
  { header := MsgHeader.bytes
      { type := type, flags := 0, lane := 0, hops := 0, dest := dest, source := s.address,
        slots := b.length / 64, seq := 0, ack := 0, epoch := 0, step := 0, flow := 0, number := 0,
        offset := 0, word := 0, crc := payloadCrc b }
    payload := b }

/-- A message of lane 0 that is checked: its header, its payload, and their CRCs (R279, R281). -/
def laneZeroOk (type : Nat) (b : List Byte) : Bool :=
  b.length == 128 && leField b 0 1 == type && headerCrcOk (b.take 64) && leField b 0xC 2 == 1
    && payloadCrc (b.drop 64) == leField b 0x34 4

/-- Send the link-identity message of a link. -/
def State.sendIdentity (s : State) (n : Nat) : State :=
  s.sendLink n (laneZero s 0x12 (cabled s.address n).1
    (leBytes 4 s.address ++ leBytes 1 n ++ leBytes 1 (if s.standby then 1 else 0)
      ++ leBytes 2 (s.obj 0x6000 0) ++ s.identityDigest.take 8))

/-- All four lanes are trained: identity is exchanged, after the lane test where one is due. In bypass
the device has trained its side of the pair, and asks both neighbours once both links have (R295). -/
def execLinkTrainingComplete (link : Nat) (s : State) : Host.Outcome State Fault Refusal :=
  let l := s.link link
  .next (
    if 48 ≤ link || !s.power.running then s
    else match l.state with
    | .training =>
      let s := s.setLink link { l with state := .identify, peer := none }
      if l.testPending then s else s.sendIdentity link
    | .bypass =>
      let s := s.setLink link { l with releaseAsked := true }
      if (s.link (pairMate link)).releaseAsked && s.obj 0x500D 0 = 0 then
        (s.sendControl link 4 0).sendControl (pairMate link) 4 0
      else s
    | _ => s)

/-- A link whose identity has passed carries traffic, or idles as a spare (R286, R293). -/
def State.adopt (s : State) (n : Nat) : State :=
  if spareLink s.address n && !(s.link n).inUse then
    let s := (s.modLink n fun l => { l with state := .spareIdle }).useSpares
    if (s.link n).inUse then s.rebuild else s
  else (s.modLink n fun l => { l with state := .up }).rebuild

/-- The checks of R289. -/
def identityOk (s : State) (n addr peerLink generation : Nat) (cabling : Bool) : Bool :=
  generation == s.obj 0x6000 0 && addr != s.address
    && (!cabling || cabledTo 16 s.address n addr peerLink)

/-- A link-identity message, header and payload slot: checked against the cabling, it admits the link to routing, at
once or when its lane test has passed. One that is errored is lost. -/
def execLinkIdentity (link : Nat) (message : List Byte) (s : State) : Host.Outcome State Fault Refusal :=
  let l := s.link link
  .next (
    if 48 ≤ link || l.state != .identify || !laneZeroOk 0x12 message then s
    else
      let payload := message.drop 64
      let s := (s.addObj 0x5008 link 2).modLink link fun l => { l with freed := bump l.freed 0 2 }
      let a := leField payload 0 4
      let m := leField payload 4 1
      if reservedSet (message.take 64) || 2 ^ 18 ≤ a || 2 ≤ leField payload 5 1 || !zeroField payload 0x10 48 then
        s.addObj 0x5404 0 1
      else if !identityOk s link a m (leField payload 6 2) l.cabling then s.addObj 0x5401 0 1
      else
        let s := s.modLink link fun l => { l with
          peer := some (a, m), peerStandby := (leField payload 5 1).testBit 0 }
        if l.testPending then s else s.adopt link)

/-- The lane test after a retrain ends: a pass brings the link back, an error retires it (R293). -/
def execLanePrbsTestEnd (link errors : Nat) (s : State) : Host.Outcome State Fault Refusal :=
  let l := s.link link
  .next (
    if 48 ≤ link || l.state != .identify || !l.testPending then s
    else if errors != 0 then s.retireLink link 6
    else
      let s := s.setLink link { l with testPending := false }
      if l.peer.isSome then s.adopt link else s.sendIdentity link)

/-- A pair in bypass one of whose links has lost its neighbour passes nothing until both are trained again (R294).
With the main die up, the requests and grants of its release have to be made again. -/
def State.haltPair (s : State) (n : Nat) : State :=
  let halt := fun (k : Nat) (s : State) => s.modLink k fun l =>
    if s.power.running then { l with releaseAsked := false, granted := false } else l.restart .down
  halt n (halt (pairMate n) s)

/-- A receiver loses its lanes or FEC lock: the link goes down and retrains. A link whose release from
bypass this device has granted goes down without a count (R293, R295). -/
def execFecLockLoss (link : Nat) (s : State) : Host.Outcome State Fault Refusal :=
  let l := s.link link
  .next (
    if 48 ≤ link then s
    else match l.state with
    | .up | .identify => s.fallLink link (!l.granted)
    | .spareIdle => s.setLink link { l.restart .training with cabling := s.obj 0x5402 0 == 1 }
    | .bypass => s.haltPair link
    | _ => s)

/-! ### The Headland (R294, R295) -/

/-- The Headland has trained the lanes of both links of a pair while the main die is down, and retimes
them. -/
def execHeadlandPairTrained (pair : Nat) (s : State) : Host.Outcome State Fault Refusal :=
  .next (
    if 24 ≤ pair || s.power.running || !s.power.aoGood || !s.power.aoClock then s
    else
      let up := fun (n : Nat) (s : State) => s.modLink n fun l => l.restart .bypass
      up (2 * pair) (up (2 * pair + 1) s))

/-- Grant the releases that wait on links no running job routes over any more. -/
def State.grantReleases (s : State) : State :=
  (List.range 48).foldl (fun s n =>
    let l := s.link n
    if l.releaseAsked && l.isUp && !s.linkBusy n then
      (s.setLink n { l with releaseAsked := false, granted := true }).sendControl n 8 0
    else s) s

/-- A neighbour in bypass asks for the release of its pair: granted once no group of a running job has
a route over the link (R295). -/
def execBypassReleaseRequest (link : Nat) (header : List Byte) (s : State) :
    Host.Outcome State Fault Refusal :=
  .next (
    if 48 ≤ link || !(s.link link).isUp || !controlOk header || !(leField header 1 1).testBit 2 then s
    else
      let s := s.control link header
      if controlReserved header then s
      else (s.modLink link fun l => { l with releaseAsked := true }).grantReleases)

/-- A neighbour grants: the pair leaves bypass when both have and the policy allows it (R295). -/
def execBypassReleaseGrant (link : Nat) (header : List Byte) (s : State) :
    Host.Outcome State Fault Refusal :=
  .next (
    if 48 ≤ link || (s.link link).state != .bypass || !controlOk header
        || !(leField header 1 1).testBit 3 then s
    else if controlReserved header then s.addObj 0x5404 0 1
    else
      let s := s.modLink link fun l => { l with granted := true }
      if (s.link (pairMate link)).granted && s.obj 0x500D 0 = 0 then
        let go := fun (n : Nat) (s : State) => s.modLink n fun l =>
          if s.obj 0x5002 n = 0 then l.restart .disabled
          else { l.restart .training with cabling := s.obj 0x5402 0 == 1 }
        go link (go (pairMate link) s)
      else s)

end Sys2Proof.Machine
end

