-- ==== Sys2Proof/Machine/Shadow.lean ====
section
/-! DEFINITION. Shadows and their apply, the expert directory they load, and prepared batches
(R268, R322, R323, R402, R403). -/

namespace Sys2Proof.Machine
open Sys2Proof

/-! ### Prepared batches (R268) -/

/-- Discard every prepared batch of a paddock, counting them, and the preparations under way (R268, R274). -/
def Paddock.discardPrepared (d : Paddock) : Paddock :=
  let n := (d.streams.map fun (x : Stream) => x.ready.length).foldl (· + ·) 0
  let gone := (d.batches.filter fun b => !b.waits).map (·.flight)
  let d := { d with
    streams := d.streams.map fun (x : Stream) => { x with ready := [] }
    batches := d.batches.filter (·.waits)
    samples := d.samples.filter fun x => !gone.contains x.flight }
  if n = 0 then d else d.addObj 0x7011 0 n

/-! ### The expert directory (R322) -/

/-- First entry and count of a paddock's directory share. -/
def State.share (s : State) (p : Nat) : Nat × Nat :=
  let v := s.obj 0x5803 p
  (v % 2 ^ 32, v >>> 32)

/-- One entry of the directory, 16 bytes. -/
def State.dirEntry (s : State) (n : Nat) : List Byte :=
  match s.directory.find? fun e => Nat.beq e.1 n with
  | some e => e.2
  | none => List.replicate 16 0

/-- The applied directory share, 16 bytes per entry (R322). -/
def shareBytes (s : State) (p : Nat) : List Byte :=
  let (b, n) := s.share p
  (List.range n).flatMap fun e => s.dirEntry (b + e)

/-- Set one entry; the list stays in rising order and holds no entry of zeros. -/
def putEntry (l : List (Nat × List Byte)) (n : Nat) (b : List Byte) : List (Nat × List Byte) :=
  let zero := b.all (· == 0)
  match l with
  | [] => if zero then [] else [(n, b)]
  | e :: r =>
    if n < e.1 then (if zero then e :: r else (n, b) :: e :: r)
    else if n = e.1 then (if zero then r else (n, b) :: r)
    else e :: putEntry r n b

/-- The fields of a directory load (R323). -/
structure DirLoad where
  mode : Nat
  arg : Nat
  first : Nat
  count : Nat
  step : Nat
  deriving DecidableEq, Repr

def parseLoad (b : List Byte) : DirLoad :=
  { mode := leField b 0 1, arg := leField b 8 8, first := leField b 0x10 4,
    count := leField b 0x14 4, step := leField b 0x18 8 }

/-- Start and size of rank `r`'s share when `e` items are divided over `n` ranks (R318). -/
def division (e n r : Nat) : Nat × Nat :=
  (r * (e / n) + min r (e % n), e / n + (if r < e % n then 1 else 0))

/-- The rank whose division holds item `i`. -/
def rankOf (e n i : Nat) : Nat :=
  let big := (e % n) * (e / n + 1)
  if i < big then i / (e / n + 1) else e % n + (i - big) / max 1 (e / n)

/-- A directory entry that names a host and a local expert index. -/
def entryBytes (rank loc : Nat) : List Byte :=
  leBytes 4 (rank + 2 ^ 31) ++ leBytes 2 loc ++ List.replicate 10 0

/-- The entries a load places. -/
def loadEntries (x : DirLoad) (copied : List (List Byte)) : List (List Byte) :=
  if x.mode = 0 then copied
  else
    let e := x.arg % 2 ^ 32
    let n := x.arg >>> 32
    (List.range e).map fun i =>
      let r := rankOf e n i
      entryBytes r (i - (division e n r).1)

/-! ### Shadows (R402, R403) -/

def Paddock.shadow (d : Paddock) (k : Nat) : Option Shadow := d.shadows.find? fun x => Nat.beq x.key k

/-- Replace the shadow of one object, keeping the keys in rising order. -/
def putShadow (l : List Shadow) (x : Shadow) : List Shadow :=
  match l with
  | [] => [x]
  | y :: r => if x.key < y.key then x :: y :: r else if x.key = y.key then x :: r else y :: putShadow r x

/-- What an apply does with one shadow: keep it for a later apply, refuse it, or apply it. -/
inductive ShadowFate where
  | waits | fails | applies
  deriving DecidableEq, Repr

/-- The checks on the device's state at an apply (R82, R212, R227, R242, R323, R402). A directory load
whose step has not come stays a shadow. -/
def shadowFate (s : State) (p : Nat) (x : Shadow) : ShadowFate :=
  let d := s.pad p
  let go := fun (b : Bool) => if b then ShadowFate.applies else ShadowFate.fails
  if x.key = okey 0x6040 0 then
    let old := d.obj 0x6040 0
    go (if x.value < old then !(d.fallback.any fun f => decide (x.value ≤ f.slot))
      else decide (s.committed p - ceilDiv old 4 + ceilDiv x.value 4 ≤ s.quota p))
  else if x.key = okey 0x4024 0 then go (decide (x.value ≤ s.quota p))
  else if x.key = okey 0x4031 0 then go (x.value == 0 || (s.stripsOf p).length == 24)
  else if x.key = okey 0x5830 0 then
    let l := parseLoad (leBytes 32 x.value)
    let step := d.obj 0x5821 0
    if step < l.step then .waits
    else go (step == l.step && decide (l.first + l.count ≤ (s.share p).2))
  else .applies

/-- Group-relevant objects of the input chapter (R268, R274, R275). -/
def inputKeys : List Nat := [okey 0x7004 0, okey 0x7005 0, okey 0x7006 0, okey 0x7008 0, okey 0x7405 0]

/-- Apply one shadow, already taken from the list. -/
def applyShadow (s : State) (p : Nat) (x : Shadow) : State :=
  let s := s.modPad p fun d => { d with objs := objPut d.objs x.key x.value }
  if x.key = okey 0x6401 0 || x.key = okey 0x6402 0 then
    s.modPad p fun d => (d.setObj 0x6403 0 0).setObj 0x6404 0 0
  else if x.key = okey 0x8100 0 || x.key = okey 0x8101 0 then
    s.modPad p fun d => (d.setObj 0x8102 0 0).setObj 0x8103 0 0
  else if x.key = okey 0x4031 0 then
    s.modPad p fun d =>
      if x.value = 0 then
        { d.unretainAll with retainedOn := false }
      else { d with retainedOn := true }
  else if x.key = okey 0x5830 0 then
    let l := parseLoad (leBytes 32 x.value)
    let base := (s.share p).1 + l.first
    let loaded := (loadEntries l x.entries).zipIdx.foldl
      (fun t (e : List Byte × Nat) => putEntry t (base + e.2) e.1) s.directory
    let s := { s with directory := loaded }
    s.modPad p fun d => d.setObj 0x5831 0 (leNat (Crypto.sha512 (shareBytes s p)))
  else if x.key = okey 0x4025 0 then s.modPad p Paddock.lookIn
  else if inputKeys.contains x.key then s.modPad p Paddock.discardPrepared
  else s

/-- One shadow at an apply. -/
def settleShadow (p : Nat) (s : State) (x : Shadow) : State :=
  match shadowFate s p x with
  | .waits => s
  | .fails =>
    s.modPad p fun d =>
      { d with shadows := d.shadows.filter fun y => y.key != x.key }.addObj 0x108A 0 1
  | .applies =>
    applyShadow (s.modPad p fun d =>
      { d with shadows := d.shadows.filter fun y => y.key != x.key }) p x

/-- The apply of a paddock's shadows, in one step (R402, R403). -/
def applyShadows (s : State) (p : Nat) : State :=
  ((s.pad p).shadows.foldl (settleShadow p) s).modPad p fun d => d.addObj 0x108B 0 1

end Sys2Proof.Machine
end

