-- ==== Sys2Proof/Machine/Groups.lean ====
section
/-! DEFINITION. Groups: definitions, the configuration digest, the formation tree and its messages,
verdicts and dissolution (R306 to R312). -/

namespace Sys2Proof.Machine
open Sys2Proof

/-! ### Definitions (R306) -/

def defJob (b : List Byte) : Nat := leField b 0 4
def defCount (b : List Byte) : Nat := leField b 4 4
def defRank (b : List Byte) : Nat := leField b 8 4
def defEpoch (b : List Byte) : Nat := leField b 0xC 4
def defStart (b : List Byte) : Nat := leField b 0x10 8
def defMap (b : List Byte) : Nat := leField b 0x18 8
def defTimeout (b : List Byte) : Nat := leField b 0x20 4
def defFlags (b : List Byte) : Nat := leField b 0x24 1

def Group.job (g : Group) : Nat := defJob g.definition
def Group.tag (g : Group) : Nat := g.job % 65536
def Group.n (g : Group) : Nat := defCount g.definition
def Group.rank (g : Group) : Nat := defRank g.definition

/-- A definition written to a slot: reserved bits read as 0 (R10, R306). -/
def cleanDefinition (b : List Byte) : List Byte :=
  b.take 0x24 ++ leBytes 1 (defFlags b % 2) ++ List.replicate 27 0

/-- The rules of R306 on the value alone. -/
def definitionOk (b : List Byte) : Bool :=
  1 ≤ defCount b && defCount b ≤ 262144 && defRank b < defCount b && defMap b % 64 == 0
    && defMap b + 4 * defCount b ≤ hbmEnd && 1 ≤ defTimeout b && defTimeout b ≤ 60000

/-- The slot takes a definition (R307). -/
def Group.definable (g : Group) : Bool :=
  match g.state with
  | .empty => true
  | .defined => true
  | .refused => true
  | .dissolved => true
  | _ => false

def Group.standing (g : Group) : Bool := g.state == .forming || g.state == .formed

/-- The member map as it lies in memory. -/
def readMap (s : State) (p : Nat) (b : List Byte) : List Nat :=
  (List.range (defCount b)).map fun r => leNat (s.bytesAt p (defMap b + 4 * r) 4) % 2 ^ 18

def distinct (l : List Nat) : Bool :=
  match l with
  | [] => true
  | x :: r => !r.contains x && distinct r

/-- The form command's conditions (R307, R362). -/
def formOk (s : State) (p slot : Nat) : Bool :=
  let d := s.pad p
  let b := (d.group slot).definition
  let map := readMap s p b
  (d.group slot).definable && (d.group slot).state != .empty && definitionOk b && !s.faults.degraded
    && d.inFixed (defMap b) (4 * defCount b) && distinct map
    && map.getD (defRank b) 0 == s.address
    && ((defFlags b).testBit 0 || map.all fun a => farmOf a == farmOf s.address)
    && ((List.range 8).all fun q => q == p || (s.pad q).groups.toList.all fun g =>
        !(g.state == .defined || g.standing) || g.tag != defJob b % 65536)
    && (d.groups.toList.all fun g => !g.standing ||
        (g.job == defJob b && defEpoch g.definition == defEpoch b && defStart g.definition == defStart b))

/-! ### The configuration digest (R308) -/

def digestRecord (index sub : Nat) (v : List Byte) : List Byte :=
  leBytes 2 index ++ leBytes 1 sub ++ [0] ++ leBytes 4 v.length ++ v

def configDigest (s : State) (p slot : Nat) (members : List Nat) : List Byte :=
  let d := s.pad p
  let b := (d.group slot).definition
  let own := b.take 8 ++ List.replicate 4 0 ++ b.drop 12
  let obj := fun (i n : Nat) => digestRecord i 0 (leBytes n (d.obj i 0))
  Crypto.sha512 (digestRecord 0x5810 slot (own ++ members.flatMap (leBytes 4))
    ++ digestRecord 0x5830 0 (shareBytes s p)
    ++ obj 0x6001 8 ++ obj 0x6002 1 ++ obj 0x7004 2 ++ obj 0x7005 4 ++ obj 0x7006 2 ++ obj 0x7008 8
    ++ obj 0x7405 4)

/-! ### The formation tree (R309) -/

/-- The largest power of 16, up to 16^5, that divides a rank. -/
def treeSpan (r : Nat) : Nat :=
  ([1048576, 65536, 4096, 256, 16].find? fun k => r % k == 0).getD 1

/-- The head that a rank reports to. -/
def parentRank (r : Nat) : Nat := r - r % (16 * treeSpan r)

/-- The ranks that report to a rank. -/
def childRanks (n r : Nat) : List Nat :=
  ([1, 16, 256, 4096, 65536].filter fun k => 16 * k ≤ treeSpan r).flatMap fun k =>
    ((List.range 15).map fun i => r + (i + 1) * k).filter fun c => c < n

/-- The members that a rank's report covers. -/
def subtreeSize (n r : Nat) : Nat := min (treeSpan r) (n - r)

/-! ### Messages (R309) -/

/-- The fields of a formation message. -/
structure Formation where
  kind : Nat
  slot : Nat
  generation : Nat
  first : Nat
  covered : Nat
  firmware : Nat
  step : Nat
  bound : Nat
  flags : Nat
  verdict : Nat
  lowest : Nat
  digest : List Byte
  deriving DecidableEq, Repr

def parseFormation (b : List Byte) : Formation :=
  { kind := leField b 0 1, slot := leField b 1 1, generation := leField b 2 2, first := leField b 4 4,
    covered := leField b 8 4, firmware := leField b 0xC 4, step := leField b 0x10 8,
    bound := leField b 0x18 4, flags := leField b 0x1C 1, verdict := leField b 0x1D 1,
    lowest := leField b 0x20 4, digest := sliceBytes b 0x40 64 }

def Formation.bytes (x : Formation) (p : Nat) : List Byte :=
  leBytes 1 x.kind ++ leBytes 1 x.slot ++ leBytes 2 x.generation ++ leBytes 4 x.first
    ++ leBytes 4 x.covered ++ leBytes 4 x.firmware ++ leBytes 8 x.step ++ leBytes 4 x.bound
    ++ leBytes 1 x.flags ++ leBytes 1 x.verdict ++ leBytes 1 p ++ [0] ++ leBytes 4 x.lowest
    ++ leBytes 28 0 ++ sliceBytes x.digest 0 64

def formationReserved (b : List Byte) : Bool :=
  leField b 0x1C 1 ≥ 16 || leField b 0x1F 1 != 0 || !zeroField b 0x24 28

def Paddock.epoch (d : Paddock) : Nat := d.obj 0x5820 0
def Paddock.step (d : Paddock) : Nat := d.obj 0x5821 0
def Paddock.job (d : Paddock) : Nat := d.obj 0x5822 0

/-- Send one formation message to a member of a group. -/
def sendFormation (s : State) (p : Nat) (g : Group) (x : Formation) (r : Nat) : State :=
  let d := s.pad p
  s.send p { type := 4, dest := g.members.getD r 0, epoch := d.epoch, step := d.step,
             word := g.tag * 65536, payload := x.bytes p }

def sendDown (s : State) (p : Nat) (g : Group) (x : Formation) : State :=
  (childRanks g.n g.rank).foldl (fun s r => sendFormation s p g x r) s

/-- The firmware version in force (R434). -/
def State.firmwareVersion (s : State) : Nat := s.obj 0x1007 0

/-! ### Verdicts (R311) -/

/-- The verdict for merged reports. -/
def verdictOf (flags covered n : Nat) : Nat :=
  if flags.testBit 0 then 0x31 else if flags.testBit 1 then 0x32 else if flags.testBit 2 then 0x33
  else if flags.testBit 3 then 0x34 else if covered = n then 0 else 0x70

/-- A verdict takes effect in a member. -/
def settleVerdict (s : State) (p slot verdict lowest : Nat) : State :=
  s.modPad p fun d =>
    let g := d.group slot
    d.setGroup slot { g with
      state := if verdict = 0 then .formed else .refused
      verdict := verdict, lowest := lowest, issued := 0 }

/-- Merge reports: flags are ORed, the lowest failing rank and the largest bound taken, members
summed (R310). -/
def mergeReports (l : List Report) (first : Nat) : Report :=
  l.foldl (fun a r =>
    { first := first, covered := a.covered + r.covered, flags := a.flags ||| r.flags,
      lowest := min a.lowest r.lowest, bound := max a.bound r.bound })
    { first := first, covered := 0, flags := 0, lowest := 0xFFFFFFFF, bound := 0 }

def formationOf (s : State) (p slot kind : Nat) (r : Report) (verdict : Nat) : Formation :=
  { kind := kind, slot := slot, generation := s.obj 0x6000 0, first := r.first, covered := r.covered,
    firmware := s.firmwareVersion, step := (s.pad p).step, bound := r.bound, flags := r.flags,
    verdict := verdict, lowest := r.lowest, digest := ((s.pad p).group slot).digest }

/-- Rank 0 decides and sends the verdict down the tree. -/
def decideVerdict (s : State) (p slot : Nat) : State :=
  let g := (s.pad p).group slot
  let m := mergeReports g.reports g.rank
  let v := verdictOf m.flags m.covered g.n
  let s := settleVerdict s p slot v m.lowest
  sendDown s p g (formationOf s p slot 3 m v)

/-- A head whose cluster is covered passes one report upward; rank 0 decides. -/
def reportUp (s : State) (p slot : Nat) : State :=
  let g := (s.pad p).group slot
  let m := mergeReports g.reports g.rank
  if m.covered < subtreeSize g.n g.rank then s
  else if g.rank = 0 then decideVerdict s p slot
  else sendFormation s p g (formationOf s p slot 2 m 0) (parentRank g.rank)

def addReport (s : State) (p slot : Nat) (r : Report) : State :=
  s.modPad p fun d =>
    let g := d.group slot
    if g.reports.any fun x => x.first == r.first then d
    else d.setGroup slot { g with reports := g.reports ++ [r] }

/-- The flags on which a member fails against an invite (R310). -/
def failFlags (s : State) (p slot : Nat) (x : Invite) : Nat :=
  let d := s.pad p
  let bit := fun (b : Bool) (k : Nat) => if b then k else 0
  bit (d.epoch != x.epoch || d.step != x.step) 1
    + bit ((d.group slot).digest != x.digest) 2
    + bit (s.firmwareVersion != x.firmware || s.obj 0x6000 0 != x.generation) 4
    + bit (s.obj 0x5C01 0 == 0 || 500 < s.obj 0x5C07 0) 8

/-- A member that holds an invite compares it, passes it on and reports. -/
def useInvite (s : State) (p slot : Nat) : State :=
  let g := (s.pad p).group slot
  match g.state, g.invite with
  | .forming, some x =>
    let f := failFlags s p slot x
    let s := s.modPad p fun d => d.setGroup slot { g with invite := none }
    let s := sendDown s p g
      { kind := 1, slot := slot, generation := x.generation, first := 0, covered := 0,
        firmware := x.firmware, step := x.step, bound := 0, flags := 0, verdict := 0,
        lowest := 0xFFFFFFFF, digest := x.digest }
    reportUp (addReport s p slot
      { first := g.rank, covered := 1, flags := f, lowest := if f = 0 then 0xFFFFFFFF else g.rank
        bound := s.obj 0x5C07 0 }) p slot
  | _, _ => s

/-! ### The form command (R307, R310) -/

/-- The sends and receives of a slot are forgotten. -/
def Paddock.dropPairs (d : Paddock) (slot : Nat) : Paddock :=
  { d with pairs := d.pairs.filter fun x => x.slot != slot, sends := d.sends.filter fun x => x.slot != slot }

/-- Form a group whose conditions hold. -/
def formGroup (s : State) (p slot : Nat) : State :=
  let d := s.pad p
  let g := d.group slot
  let b := g.definition
  let members := readMap s p b
  let first := !(d.groups.toList.any Group.standing)
  let s := if first then
      s.modPad p fun d =>
        let d := ((d.setObj 0x5820 0 (defEpoch b)).setObj 0x5821 0 (defStart b)).setObj 0x5822 0 (defJob b)
        { d with commit := { d.commit with
            group := none, staticsKept := false, startStep := defStart b, running := none, flight := none } }
    else s
  let digest := configDigest s p slot members
  let s := s.forgetFlows slot members
  let s := s.modPad p fun d => (d.dropPairs slot).setGroup slot { g with
    state := .forming, members := members, verdict := 0, digest := digest, lowest := 0xFFFFFFFF
    issued := 0, reports := [], timedOut := []
    invite := if g.rank = 0 then
        some { generation := s.obj 0x6000 0, firmware := s.firmwareVersion, epoch := (s.pad p).epoch,
               step := (s.pad p).step, digest := digest }
      else g.invite }
  useInvite s p slot

/-! ### Received messages -/

/-- The first delivered message that a test picks, and the state without it. -/
def State.take (s : State) (f : Delivered → Bool) : Option (Delivered × State) :=
  match s.inbox.findIdx? f with
  | some i =>
    match s.inbox[i]? with
    | some m => some (m, { s with inbox := s.inbox.eraseIdx i })
    | none => none
  | none => none

def Delivered.tag (m : Delivered) : Nat := m.word / 65536 % 65536

/-- The paddock whose groups carry a job tag (R307, R317). -/
def State.jobPaddock (s : State) (tag : Nat) : Option Nat :=
  (List.range 8).find? fun p => (s.pad p).present && (s.pad p).groups.toList.any fun g =>
    g.state != .empty && g.tag == tag

/-- A formation message that names no defined group of any paddock: each that is present counts it (R309; DESIGN
CHOICE, log entry 132). -/
def State.countStray (s : State) : State :=
  (List.range 8).foldl (fun s p =>
    if (s.pad p).present then s.modPad p fun d => d.addObj 0x5842 0 1 else s) s

/-- Take the next formation message of a kind and find the slot it names; one that names no defined
group is dropped and counted (R309). -/
def withFormation (kind : Nat) (use : State → Nat → Nat → Formation → Delivered → State) (s : State) :
    State :=
  match s.take fun m => m.kind == 4 && m.payload.length == 128 && leField m.payload 0 1 == kind with
  | none => s
  | some (m, s) =>
    let x := parseFormation m.payload
    match s.jobPaddock m.tag with
    | none => if formationReserved m.payload then s.addObj 0x5404 0 1 else s.countStray
    | some p =>
      if formationReserved m.payload then s.addObj 0x5404 0 1
      else
        let g := (s.pad p).group x.slot
        if 16 ≤ x.slot || g.state == .empty || g.tag != m.tag then s.modPad p fun d => d.addObj 0x5842 0 1
        else use s p x.slot x m

def execFormationInvite (s : State) : Host.Outcome State Fault Refusal :=
  .next (withFormation 1 (fun s p slot x m =>
    useInvite (s.modPad p fun d =>
      d.setGroup slot { d.group slot with
        invite := some { generation := x.generation, firmware := x.firmware, epoch := m.epoch,
                         step := x.step, digest := x.digest } }) p slot) s)

def execFormationReport (s : State) : Host.Outcome State Fault Refusal :=
  .next (withFormation 2 (fun s p slot x _ =>
    if ((s.pad p).group slot).state != .forming then s
    else reportUp (addReport s p slot
      { first := x.first, covered := x.covered, flags := x.flags, lowest := x.lowest
        bound := x.bound }) p slot) s)

def execFormationVerdict (s : State) : Host.Outcome State Fault Refusal :=
  .next (withFormation 3 (fun s p slot x _ =>
    let g := (s.pad p).group slot
    if g.state != .forming then s
    else sendDown (settleVerdict s p slot x.verdict x.lowest) p g x) s)

/-- Rank 0 decides with the reports it holds (R310, R311). -/
def execFormationTimeout (p slot : Nat) (s : State) : Host.Outcome State Fault Refusal :=
  let g := (s.pad p).group slot
  .next (if 8 ≤ p || 16 ≤ slot || g.state != .forming || g.rank != 0 then s else decideVerdict s p slot)

/-- A member without a verdict by twice the formation time-out (R311). -/
def execVerdictWaitTimeout (p slot : Nat) (s : State) : Host.Outcome State Fault Refusal :=
  let g := (s.pad p).group slot
  .next (if 8 ≤ p || 16 ≤ slot || g.state != .forming then s
    else settleVerdict s p slot 0x70 g.lowest)

/-! ### Dissolution (R312) -/

/-- Mark a forming or formed group for dissolution. -/
def markDissolving (s : State) (p slot : Nat) : State :=
  s.modPad p fun d => d.setGroup slot { d.group slot with state := .dissolving }

/-- A dissolve message acts as the dissolve command (DEDUCED, log entry 18). -/
def execFormationDissolveMessage (s : State) : Host.Outcome State Fault Refusal :=
  .next (withFormation 4 (fun s p slot _ _ =>
    if ((s.pad p).group slot).standing then markDissolving s p slot else s) s)

/-- No issued operation of a group is left, and the slot becomes dissolved. -/
def execDissolveEffect (p slot : Nat) (s : State) : Host.Outcome State Fault Refusal :=
  .next (
    if 8 ≤ p || 16 ≤ slot || ((s.pad p).group slot).state != .dissolving
        || ((s.pad p).ops.any fun o => o.group == slot)
        || ((s.pad p).commit.group == some slot && (s.pad p).commit.flight.isSome) then s
    else (s.modPad p fun d => d.setGroup slot { d.group slot with state := .dissolved }).grantReleases)

end Sys2Proof.Machine
end

