-- ==== Sys2Proof/Machine/Wire.lean ====
section
/-! DEFINITION. What fabric operations put on the links: G16 groups (R315, R317), tensors in their own
format (R319, R320), and the sending of a flow. The order of raw bytes within a flow is the model's
(log entry 20). -/

namespace Sys2Proof.Machine
open Sys2Proof

/-! ### G16 scale groups (R38, R315) -/

/-- A scale group in G16: its scale byte and its BF16 codes. -/
abbrev Enc := Nat × List Nat

/-- The values of a scale group (R33). -/
def decG16 (x : Enc) : List Val :=
  x.2.map fun c => if x.1 = 0xFF then .nan else (Fmt.g16.elemVal c).scale ((x.1 : Int) - 127)

/-- One fold of R315: `g (add acc v)`. -/
def foldEnc (a v : Enc) : Enc :=
  encG16 (((decG16 a).zip (decG16 v)).map fun (x, y) => (F32.add (F32.ofVal x) (F32.ofVal y)).val)

/-- Elements of scale group `i` of a tensor, the padding left out. -/
def groupLen (ext : List Nat) (i : Nat) : Nat :=
  let e0 := ext.getD 0 1
  min 256 (e0 - 256 * (i % max 1 (ceilDiv e0 256)))

/-- Whole scale groups packed into one payload (R317). -/
def packGroups (l : List Enc) : List Byte :=
  (l.flatMap fun x => (List.range 256).flatMap fun i => leBytes 2 (x.2.getD i 0))
    ++ l.map fun x => BitVec.ofNat 8 x.1

/-- Scale group `i` of a flow, where a piece holds it. -/
def Piece.groupAt (x : Piece) (i len : Nat) : Option Enc :=
  let n := x.bytes.length / 513
  if x.offset ≤ 513 * i && 513 * i < x.offset + 513 * n then
    let j := (513 * i - x.offset) / 513
    some (leField x.bytes (512 * n + j) 1, (List.range len).map fun k => leField x.bytes (512 * j + 2 * k) 2)
  else none

/-- The value of node `q` of level `k`: received whole, or folded from its children in rank order
(R315). -/
def nodeAt (got : List Piece) (n i len : Nat) : Nat → Nat → Option Enc
  | 0, q => got.findSome? fun x => if x.level = 0 && x.rank = q then x.groupAt i len else none
  | k + 1, q =>
    match got.findSome? fun x =>
        if x.level = k + 1 && x.rank / 16 ^ (k + 1) = q then x.groupAt i len else none with
    | some v => some v
    | none =>
      let m := ceilDiv n (16 ^ k)
      let cs := (List.range (min 16 (m - 16 * q))).map fun j => nodeAt got n i len k (16 * q + j)
      match cs with
      | [] => none
      | c :: r => r.foldl (fun a x => match a, x with
        | some a, some x => some (foldEnc a x)
        | _, _ => none) c

/-- ⌈log16 n⌉. -/
def levelsOf (n : Nat) : Nat :=
  if n ≤ 1 then 0 else if n ≤ 16 then 1 else if n ≤ 256 then 2 else if n ≤ 4096 then 3
  else if n ≤ 65536 then 4 else 5

/-- The reduced scale group `i`, once every value it needs has come. -/
def reducedGroup (got : List Piece) (n i len : Nat) : Option Enc := nodeAt got n i len (levelsOf n) 0

/-! ### Flows (R317) -/

/-- Cut a flow's raw bytes into messages with their offsets. -/
def rawMessages (b : List Byte) : List (Nat × List Byte) :=
  (pieces 65536 b).zipIdx.map fun (x, i) => (65536 * i, x)

/-- Packed scale groups `first` onward as messages with their offsets. -/
def groupMessages (first : Nat) (l : List Enc) : List (Nat × List Byte) :=
  (pieces 127 l).zipIdx.map fun (x, i) => (513 * (first + 127 * i), packGroups x)

/-- The message type of a kind of operation word. -/
def typeOfKind (kind : Nat) : Nat := if kind < 6 then 1 else if kind < 8 then 2 else 3

/-- Send messages of an operation to one rank, numbered from `n0` within the flow. `kind` is bits [6:0] of the
operation word: the kind, and above it the tree level. -/
def sendPieces (s : State) (p : Nat) (o : FabOp) (rank kind n0 : Nat) (l : List (Nat × List Byte)) :
    State :=
  let g := (s.pad p).group o.group
  l.zipIdx.foldl (fun s (x, i) =>
    (s.send p { type := typeOfKind (kind % 16), dest := g.members.getD rank 0, epoch := o.epoch, step := o.step,
                flow := o.flow, number := n0 + i, offset := x.1, word := kind + g.tag * 65536,
                payload := x.2 }).modPad p fun d => d.addObj 0x5847 0 x.2.length) s

/-- The contiguous bytes that have come from a rank under a kind. -/
def streamOf (got : List Piece) (rank kind : Nat) : List Byte :=
  (sortBy (fun (a b : Piece) => a.offset ≤ b.offset)
    (got.filter fun x => x.rank == rank && x.kind == kind)).foldl
    (fun acc x => if x.offset ≤ acc.length then acc.take x.offset ++ x.bytes else acc) []

/-! ### Tensors in their own format -/

/-- Dense strides, dimension 0 padded to whole scale groups. -/
def denseStrides (g : Nat) (ext : List Nat) : List Nat :=
  match ext with
  | [] => []
  | e0 :: rest =>
    1 :: (rest.foldl (fun (a : List Nat × Nat) e => (a.1 ++ [a.2], a.2 * e)) ([], alignUp e0 g)).1

/-- The dense form of a tensor, at address 0 of its own image. -/
def Tensor.wire (t : Tensor) : Tensor :=
  { t with addr := 0, str := denseStrides t.fmt.group t.ext, compr := 0, flags := 0, mode := 0 }

/-- Bytes at their places in an image. -/
def fillImage (n : Nat) (ws : List (Nat × Byte)) : Array Byte :=
  ws.foldr (fun w a => a.setIfInBounds w.1 w.2) (Array.replicate n 0)

/-- A tensor as it travels: its dense form, its footprint, its fallback swaths. -/
structure Wire where
  t : Tensor
  bytes : Array Byte
  pool : List Fallback

def Wire.rd (w : Wire) : Reader_ := fun a => w.bytes.getD a 0

/-- The swath words of an image with flag [17], by swath number. -/
def Wire.fallen (w : Wire) : List Nat :=
  if w.t.fmt.isF8 then (List.range w.t.nSwath).filter fun n => (readLe w.rd (w.t.wordAddr n) 8).testBit 17
  else []

/-- The F16 codes of a fallback swath. -/
def Wire.codesOf (w : Wire) (n : Nat) : List Nat :=
  match w.pool.find? fun f => f.word == w.t.wordAddr n with
  | some f => f.codes
  | none => []

/-- The wire form of a tensor in memory. -/
def Tensor.toWire (t : Tensor) (rd : Reader_) (pool : List Fallback) : Wire :=
  let d := t.wire
  let w := copyTensor rd pool (2 ^ 32) [] d t
  { t := d, bytes := fillImage d.footprint w.bytes, pool := w.pool }

/-- The bytes of a wire form: 64 bytes that name format and extents, the footprint, and 8,192 bytes
for each fallback swath. -/
def Wire.stream (w : Wire) : List Byte :=
  leBytes 1 w.t.fmt.code ++ leBytes 1 w.t.rank ++ leBytes 2 0
    ++ ((List.range 6).flatMap fun i => leBytes 4 (w.t.e i)) ++ leBytes 4 w.fallen.length ++ leBytes 32 0
    ++ w.bytes.toList
    ++ w.fallen.flatMap fun n => (List.range 4096).flatMap fun i => leBytes 2 ((w.codesOf n).getD i 0)

/-- The format that a stream carries, once its first message has come (R319). -/
def streamFormat (b : List Byte) : Option (Option Fmt) :=
  if b.length < 64 then none else some (Fmt.ofCode (leField b 0 1))

/-- A stream that has come whole. -/
def parseWire (b : List Byte) : Option Wire :=
  match streamFormat b with
  | some (some f) =>
    let ext := (List.range 6).map fun i => leField b (4 + 4 * i) 4
    let t : Tensor := { addr := 0, fmt := f, rank := leField b 1 1, ext := ext,
                        str := denseStrides f.group ext, mode := 0, compr := 0, flags := 0, hint := 0,
                        ident := 0 }
    let n := t.footprint
    let k := leField b 0x1C 4
    if b.length < 64 + n + 8192 * k then none
    else
      let w : Wire := { t := t, bytes := ((b.drop 64).take n).toArray, pool := [] }
      some { w with pool := (w.fallen.take k).zipIdx.map fun (s, i) =>
        { slot := readLe w.rd (t.wordAddr s) 8 >>> 32, word := t.wordAddr s,
          codes := (List.range 4096).map fun j => leField b (64 + n + 8192 * i + 2 * j) 2 } }
  | _ => none

def Wire.vals (w : Wire) : List Val := (w.t.vals w.rd w.pool).toList

/-! ### Placing what came (R319, R320) -/

/-- What has come over a prefix of what the output holds. -/
def Wire.over (w own : Wire) : Wire :=
  let n := own.bytes.size
  let m := min n w.bytes.size
  { t := own.t
    bytes := ((w.bytes.toList.take m) ++ own.bytes.toList.drop m).toArray
    pool := (w.pool.filter fun f => decide (f.word < m)) ++ own.pool.filter fun f => decide (m ≤ f.word) }

/-- Write a tensor of the output's own format; a short one leaves the rest as it was. -/
def placeSame (c : Ctx) (d : Tensor) (w : Wire) : Written :=
  let src := if w.t.ext = d.ext then w else w.over (d.toWire c.rd c.pool)
  copyTensor src.rd src.pool c.poolSize c.pool d src.t

/-- Write the first values of an F32 or G16 output; the rest stays. -/
def placeVals (c : Ctx) (d : Tensor) (vs : List Val) : Written :=
  let m := min vs.length d.numel
  let all := (vs.take m).toArray ++ ((d.vals c.rd c.pool).toList.drop m).toArray
  let sp := { c.outSpec .measured with live := fun i => logical d.ext i < m }
  if d.fmt = .g16 then
    writeG16On ((groups d 256).filter fun (k, rest) => logical d.ext ((256 * k) :: rest) < m) d all c.pool
  else writeVals d sp all c.pool

/-- The output takes the sender's format, or widens or re-rounds floating point. -/
def formatFits (d s : Fmt) : Bool := d == s || ((d == .f32 || d == .g16) && s.isFloat)

/-- The effect of an output that a COLLECT wrote: no statistics record (R319). -/
def collected (c : Ctx) (d : Tensor) (w : Written) : Effect :=
  { s := commitWritten c [{ t := d, w := w, copied := true }] none
    statuses := (if w.exhausted then [0x13] else []) ++ if w.nonFinite then [0x22] else [] }

/-- Write one tensor that has come, counting a length mismatch (R320). -/
def placeWire (c : Ctx) (d : Tensor) (w : Wire) : Effect :=
  if !formatFits d.fmt w.t.fmt then
    { s := c.s.modPad c.p fun x => x.addObj 0x5846 0 1 }
  else
    let e := collected c d (if d.fmt = w.t.fmt then placeSame c d w else placeVals c d w.vals)
    if w.t.numel = d.numel then e else { e with s := e.s.modPad c.p fun x => x.addObj 0x5846 0 1 }

/-! ### Shares joined into a full tensor (R319) -/

/-- The share of a rank in a divided tensor: its first item, and its extents (R318). -/
def shareOf (t : Tensor) (n r : Nat) : Nat × List Nat :=
  if t.rank = 1 then
    let (st, sz) := division (ceilDiv (t.e 0) 256) n r
    (st, t.ext.set 0 (min (t.e 0) (256 * (st + sz)) - min (t.e 0) (256 * st)))
  else
    let k := t.rank - 1
    let (st, sz) := division (t.e k) n r
    (st, t.ext.set k sz)

/-- A swath word with its adjustment raised. -/
def raiseWord (w : Nat) (by_ : Int) : Nat := w - w % 65536 + i16 (Tensor.adjustment w + by_)

/-- The header of a joined tensor: rank 0's, with the largest e_max, summed counts and ORed flags. -/
def joinHeader (full : Tensor) (ws : List Wire) : List Byte :=
  let h := fun (w : Wire) (o n : Nat) => readLe w.rd (w.t.recordBase + o) n
  let sum := fun (o : Nat) => (ws.map fun w => h w o 4).foldl (· + ·) 0 % 2 ^ 32
  match ws with
  | [] => []
  | w0 :: _ =>
    leBytes 3 (h w0 0 3) ++ leBytes 1 ((ws.map fun w => h w 3 1).foldl (· ||| ·) 0)
      ++ leBytes 2 (i16 ((ws.map fun w => w.t.headEmax w.rd).foldl max (-32768))) ++ leBytes 2 (h w0 6 2)
      ++ leBytes 4 full.nSwath ++ leBytes 4 (sum 12) ++ leBytes 4 (sum 16)
      ++ (List.range 44).map fun i => w0.rd (w0.t.recordBase + 20 + i)

/-- The dense image of a full tensor from its shares in rank order. -/
def joinWires (d : Tensor) (ws : List Wire) : Wire :=
  let full := { d with fmt := match ws with | w :: _ => w.t.fmt | [] => d.fmt }.wire
  let live := ws.filter fun w => !w.t.isEmpty
  let els := live.flatMap fun w =>
    w.bytes.toList.take (if w.t.fmt.isF8 then w.t.numel else w.t.elemBytes)
  let scales := live.flatMap fun w => (List.range (w.t.span / w.t.fmt.group)).map fun i => w.rd (w.t.scaleBase + i)
  let t0 := match live with | w :: _ => w.t.headT w.rd | [] => 0
  let words := live.flatMap fun w => (List.range w.t.nSwath).map fun n =>
    (raiseWord (readLe w.rd (w.t.wordAddr n) 8) ((w.t.headT w.rd : Int) - t0), w, n)
  let tail := if full.fmt.isF8 then
      placeAt full.recordBase (joinHeader full live)
        ++ placeAt (full.recordBase + 64) (words.flatMap fun x => leBytes 8 x.1)
    else if full.fmt.group > 1 then placeAt full.scaleBase scales else []
  { t := full
    bytes := fillImage full.footprint (placeAt 0 els ++ tail)
    pool := words.zipIdx.filterMap fun ((v, w, n), i) =>
      if v.testBit 17 then some { slot := v >>> 32, word := full.wordAddr i, codes := w.codesOf n } else none }

end Sys2Proof.Machine
end

