-- ==== Sys2Proof/Machine/Collect.lean ====
section
/-! DEFINITION. COLLECT, DISPATCH and COMBINE: their issue, the messages that feed them, and their
time-out (R313 to R330). -/

namespace Sys2Proof.Machine
open Sys2Proof

/-! ### The group of an operation -/

def Ctx.slot0 (c : Ctx) : Nat := c.r.p 0
def Ctx.grp (c : Ctx) : Group := (c.s.pad c.p).group c.slot0
def Ctx.formed (c : Ctx) : Bool := c.grp.state == .formed
def Ctx.me (c : Ctx) : Nat := c.grp.rank
def Ctx.count (c : Ctx) : Nat := c.grp.n
def Ctx.others (c : Ctx) : List Nat := (List.range c.count).filter fun r => r != c.me

/-- What a group operation meets at issue (R311, R330): no engine in service, a group that is not
formed, a member that no route reaches. -/
def groupLate (c : Ctx) (ranks : List Nat) : List (Nat × Nat × Bool) :=
  [(0xFFFF, 0x151, c.s.obj 0x5801 0 != 0),
   (0xFFFF, if c.grp.state == .refused then c.grp.verdict else 0x31, c.formed),
   (0xFFFF, 0x30, ranks.all fun r => c.s.canReach c.p (c.grp.members.getD r 0))]

/-- The operation takes the next number of its group (R314). -/
def countOp (s : State) (p slot : Nat) : State :=
  s.modPad p fun d => d.setGroup slot { d.group slot with issued := ((d.group slot).issued + 1) % 2 ^ 28 }

def Ctx.fabOp (c : Ctx) (kind : Nat) : FabOp :=
  let d := c.s.pad c.p
  { flight := d.nextFlight, index := c.index, group := c.slot0, seq := c.grp.issued, kind := kind,
    epoch := d.epoch, step := d.step, seed := c.seed, r := c.r, ts := c.ts, got := []
    bad := kind < 2 && (c.wide 1).any fun v => !v.finite
    rows := false, done := false }

/-- What a look at an operation gives. -/
inductive Progress where
  | waits (s : State) (o : FabOp)
  | ends (e : Effect)

/-! ### COLLECT modes 0 and 1 (R315, R318) -/

/-- Scale group `i` of this member's contribution. -/
def ownGroups (c : Ctx) : List Enc :=
  let x := c.must 1
  let vs := c.exact 1
  (groups x 256).map fun (k, rest) =>
    encG16 ((groupIdx x 256 k rest).map fun i => (F32.ofVal ((vs[logical x.ext i]?).getD Val.zero)).val)

/-- The first scale group and the number of groups that a rank folds in an all-reduce (R328). -/
def foldShard (c : Ctx) (r : Nat) : Nat × Nat := division (groups (c.must 1) 256).length c.count r

/-- The first scale group and the number of groups that a rank keeps. -/
def keptGroups (c : Ctx) (r : Nat) : Nat × Nat :=
  let x := c.must 1
  let total := (groups x 256).length
  if c.r.modifier = 0 then (0, total)
  else
    let items := if x.rank = 1 then ceilDiv (x.e 0) 256 else x.e (x.rank - 1)
    let (st, sz) := division items c.count r
    let per := total / max 1 items
    (st * per, sz * per)

/-- Write reduced scale groups into the output, as G16 or as F32. -/
def writeReduced (c : Ctx) (l : List Enc) : Written :=
  let d := c.must 0
  { Written.none c.pool with
    bytes := ((groups d 256).zip l).flatMap fun ((k, rest), x) =>
      if d.fmt = .g16 then
        let o := d.offset ((256 * k) :: rest)
        (List.range 256).flatMap (fun i => placeAt (d.addr + 2 * (o + i)) (leBytes 2 (x.2.getD i 0)))
          ++ [(d.scaleBase + o / 256, BitVec.ofNat 8 x.1)]
      else
        ((groupIdx d 256 k rest).zip (decG16 x)).flatMap fun (i, v) =>
          codeBytes d (d.offset i) (F32.ofVal v).toNat
    nonFinite := l.any fun x => x.1 == 0xFF || (d.fmt == .f32 && (decG16 x).any fun v => !(F32.ofVal v).finite) }

/-- The scale groups from a first one on, as far as they are reduced. -/
def reducedGroups (c : Ctx) (o : FabOp) (st sz : Nat) : List (Option Enc) :=
  (List.range sz).map fun i => reducedGroup o.got c.count (st + i) (groupLen (c.must 1).ext (st + i))

/-- The kept groups are written once they are reduced. -/
def finishReduce (c : Ctx) (o : FabOp) : Progress :=
  let (st, sz) := keptGroups c c.me
  let got := reducedGroups c o st sz
  if got.all Option.isSome then
    let w := writeReduced c (got.filterMap id)
    .ends (collected c (c.must 0) { w with nonFinite := w.nonFinite || o.bad })
  else .waits c.s o

/-- The finished shard of an all-reduce goes to every other member, as a value of the topmost level (R328). -/
def returnShard (c : Ctx) (o : FabOp) (st : Nat) (l : List Enc) : State :=
  let top := levelsOf c.count
  c.others.foldl (fun s r =>
    sendPieces s c.p o r (16 * top) (ceilDiv (foldShard c r).2 127) (groupMessages st l)) c.s

/-- In an all-reduce a member first folds its shard and returns it. -/
def lookReduce (c : Ctx) (o : FabOp) : Progress :=
  if o.kind = 0 && !o.rows then
    let (st, sz) := foldShard c c.me
    let shard := reducedGroups c o st sz
    if !shard.all Option.isSome then .waits c.s o
    else if c.others.any fun r => !c.s.canReach c.p (c.grp.members.getD r 0) then
      .ends { s := c.s, statuses := [0x30] }
    else
      let l := shard.filterMap id
      finishReduce { c with s := returnShard c o st l } { o with
        rows := true
        got := o.got ++ (groupMessages st l).map fun x =>
          { rank := c.me, kind := 0, level := levelsOf c.count, offset := x.1, bytes := x.2 } }
  else finishReduce c o

/-! ### COLLECT modes 2 to 5 -/

/-- All-gather: every rank's share, joined in rank order (R319). -/
def lookGather (c : Ctx) (o : FabOp) : Progress :=
  let ws := (List.range c.count).map fun r => parseWire (streamOf o.got r 2)
  if !(ws.all Option.isSome) then .waits c.s o
  else
    let ws := ws.filterMap id
    let d := c.must 0
    let fits := ws.zipIdx.all fun (w, r) =>
      w.t.fmt == (c.must 1).fmt && w.t.ext == (shareOf d c.count r).2
    if !fits then .ends { s := c.s.modPad c.p fun x => x.addObj 0x5846 0 1 }
    else if d.fmt = (c.must 1).fmt then .ends (collected c d (placeSame c d (joinWires d ws)))
    else .ends (collected c d (placeVals c d (ws.flatMap Wire.vals)))

/-- Broadcast and receive: one tensor from one rank. -/
def lookOne (c : Ctx) (o : FabOp) (rank kind : Nat) : Progress :=
  let b := streamOf o.got rank kind
  match streamFormat b with
  | none => .waits c.s o
  | some f =>
    let fits := match f with | some f => formatFits (c.must 0).fmt f | none => false
    if !fits then .ends { s := c.s.modPad c.p fun x => x.addObj 0x5846 0 1 }
    else match parseWire b with
      | none => .waits c.s o
      | some w => .ends (placeWire c (c.must 0) w)

/-! ### The directory as an operation reads it (R322, R324) -/

structure Expert where
  valid : Bool
  host : Nat
  loc : Nat
  deriving DecidableEq, Repr

/-- The experts of the share. A host at or above the group size is taken as no valid entry
(DESIGN CHOICE, log entry 21). -/
def Ctx.experts (c : Ctx) : Array Expert :=
  let (b, n) := c.s.share c.p
  ((List.range n).map fun e =>
    let x := c.s.dirEntry (b + e)
    let w := leField x 0 4
    { valid := w.testBit 31 && w % 2 ^ 18 < c.count, host := w % 2 ^ 18, loc := leField x 4 2 }).toArray

/-- Slots of choices and weights: D2 and D4 of DISPATCH, D2 and D3 of COMBINE. -/
def weightSlot (kind : Nat) : Nat := if kind = 6 then 4 else 3

/-- The live choices in ascending token, then ascending choice slot: token, slot, choice. -/
def Ctx.choices (c : Ctx) (kind : Nat) : List (Nat × Nat × Int) :=
  let x := c.must 2
  let w := c.must (weightSlot kind)
  (allIdx x.ext).filterMap fun i =>
    let v := Fmt.i32.intOf (x.code c.rd (x.offset i))
    if v = -1 || (w.valAt c.rd c.pool i).isZero then none else some (i.getD 1 0, i.getD 0 0, v)

def choiceValid (xs : Array Expert) (v : Int) : Bool :=
  decide (0 ≤ v) && (match xs[v.toNat]? with | some e => e.valid | none => false)

/-- `c_r[e]` over every expert of the share (R325). -/
def countChoices (xs : Array Expert) (l : List (Nat × Nat × Int)) : Array Nat :=
  l.foldl (fun a x => if choiceValid xs x.2.2 then a.modify x.2.2.toNat (· + 1) else a)
    (Array.replicate xs.size 0)

/-- The counts of every rank, once they have come. -/
def allCounts (o : FabOp) (n size : Nat) : Option (List (Array Nat)) :=
  let l := (List.range n).map fun r => (streamOf o.got r o.kind)
  if l.all fun b => 4 * size ≤ b.length then
    some (l.map fun b => ((List.range size).map fun e => leField b (4 * e) 4).toArray)
  else none

/-- The admission of R325. -/
structure Scan where
  counts : List (Array Nat)
  cap : Nat

def Scan.c (x : Scan) (r e : Nat) : Nat := (x.counts.getD r #[]).getD e 0
def Scan.total (x : Scan) (e : Nat) : Nat := (x.counts.map fun a => a.getD e 0).foldl (· + ·) 0
/-- `p_r[e]`. -/
def Scan.before (x : Scan) (r e : Nat) : Nat := ((x.counts.take r).map fun a => a.getD e 0).foldl (· + ·) 0
/-- `a_r[e]`. -/
def Scan.admits (x : Scan) (r e : Nat) : Nat := min (x.c r e) (x.cap - x.before r e)

/-- Experts of a host in ascending order. -/
def hosted (xs : Array Expert) (h : Nat) : List Nat :=
  (List.range xs.size).filter fun e => match xs[e]? with | some x => x.valid && x.host == h | none => false

def locOf (xs : Array Expert) (e : Nat) : Nat := match xs[e]? with | some x => x.loc | none => 0

/-- The admitted choices of one expert, in order. -/
def admitted (x : Scan) (r e : Nat) (l : List (Nat × Nat × Int)) : List (Nat × Nat × Int) :=
  (l.filter fun y => y.2.2 == (e : Int)).take (x.admits r e)

/-! ### Rows as they travel -/

/-- Bytes of one row of `d` elements. -/
def rowBytes (f : Fmt) (d : Nat) : Nat := if f.isF8 then 4 * ceilDiv d 64 + 2 * d else d * (f.bits / 8)

/-- One row of a tensor: element codes, and for F8A and F8G a word per 64 elements with the exponent
of their factor, the fallback flag and the NaN flag. -/
def rowOut (t : Tensor) (rd : Reader_) (pool : List Fallback) (idx : Nat → List Nat) : List Byte :=
  let d := t.e 0
  if !t.fmt.isF8 then
    (List.range d).flatMap fun f => leBytes (t.fmt.bits / 8) (t.code rd (t.offset (idx f)))
  else
    (List.range (ceilDiv d 64)).flatMap fun b =>
      let i0 := idx (64 * b)
      let wa := t.wordAddr (t.swathOf i0)
      let w := readLe rd wa 8
      let held := if w.testBit 17 then pool.find? fun x => x.slot == w >>> 32 && x.word == wa else none
      let nan := t.headT rd == 0xFF || (w.testBit 17 && held.isNone)
      let k : Int := (t.headT rd : Int) - 127 + Tensor.adjustment w
      leBytes 2 (i16 k) ++ leBytes 2 ((if w.testBit 17 then 1 else 0) + if nan then 2 else 0)
        ++ (List.range (min 64 (d - 64 * b))).flatMap fun j =>
          let i := idx (64 * b + j)
          leBytes 2 (match held with
            | some x => x.codes.getD (i.getD 0 0 % 64 + 64 * (i.getD 1 0 % 64)) 0
            | none => t.code rd (t.offset i))

/-- Element `f` of a row that has come: its exact value. -/
def rowVal (fm : Fmt) (b : List Byte) (f : Nat) : Val :=
  if fm.isF8 then
    let o := 132 * (f / 64)
    let k := Tensor.adjustment (leField b o 2)
    let flags := leField b (o + 2) 2
    let code := leField b (o + 4 + 2 * (f % 64)) 2
    if flags.testBit 1 then .nan
    else ((if flags.testBit 0 then Fmt.f16 else fm).elemVal code).scale k
  else fm.elemVal (leField b (f * (fm.bits / 8)) (fm.bits / 8))

/-! ### DISPATCH (R324, R325) -/

/-- Send every host its rows, and keep this member's own. -/
def sendRows (c : Ctx) (o : FabOp) (xs : Array Expert) (row : Nat → List Byte) : State × FabOp :=
  let first := (rawMessages (List.replicate (4 * xs.size) 0)).length
  (List.range c.count).foldl (fun (a : State × FabOp) h =>
    let b := row h
    if h = c.me then
      (a.1, { a.2 with got := a.2.got ++
        [{ rank := h, kind := o.kind + 1, level := 0, offset := 0, bytes := b }] })
    else (sendPieces a.1 c.p a.2 h (o.kind + 1) first (rawMessages b), a.2)) (c.s, o)

/-- The rows that this member sends to a host. -/
def dispatchRows (c : Ctx) (xs : Array Expert) (x : Scan) (l : List (Nat × Nat × Int)) (h : Nat) :
    List Byte :=
  (hosted xs h).flatMap fun e => (admitted x c.me e l).flatMap fun y =>
    rowOut (c.must 1) c.rd c.pool fun f => [f, y.1, 0, 0, 0, 0]

/-- Rows of local experts as they land: local expert, row, bytes. -/
def landed (c : Ctx) (o : FabOp) (xs : Array Expert) (x : Scan) : List (Nat × Nat × List Byte) :=
  let n := rowBytes (c.must 1).fmt ((c.must 1).e 0)
  (List.range c.count).flatMap fun q =>
    let b := streamOf o.got q (o.kind + 1)
    let ks := (hosted xs c.me).flatMap fun e => (List.range (x.admits q e)).map fun i =>
      (locOf xs e, x.before q e + i)
    ks.zipIdx.map fun (k, i) => (k.1, k.2, sliceBytes b (n * i) n)

/-- Every row that this host waits for has come. -/
def rowsCome (c : Ctx) (o : FabOp) (want : Nat → Nat) (f : Fmt) (d : Nat) : Bool :=
  (List.range c.count).all fun q => decide (want q * rowBytes f d ≤ (streamOf o.got q (o.kind + 1)).length)

/-- A U32 vector written into a slot. -/
def writeCounts (c : Ctx) (slot : Nat) (l : List Nat) : Written :=
  let t := c.must slot
  { Written.none c.pool with
    bytes := l.zipIdx.flatMap fun (v, i) => codeBytes t (t.offset [i, 0, 0, 0, 0, 0]) v }

/-- The counts of D3 (R325). -/
def dispatchCounts (c : Ctx) (xs : Array Expert) (x : Scan) (l : List (Nat × Nat × Int)) : List Nat :=
  let nl := (c.must 0).e 2
  let per := fun (f : Nat → Nat) (k : Nat) =>
    ((hosted xs c.me).filter fun e => locOf xs e == k).map f |>.foldl (· + ·) 0
  (List.range nl).map (per fun e => min (x.total e) x.cap)
    ++ (List.range nl).map (per fun e => x.total e - min (x.total e) x.cap)
    ++ [(l.filter fun y => !choiceValid xs y.2.2).length,
        ((List.range xs.size).map fun e => x.c c.me e - x.admits c.me e).foldl (· + ·) 0]

/-- The received rows written: narrow ones re-rounded to D1's tensor exponent, others copied. -/
def writeLanded (c : Ctx) (rows : List (Nat × Nat × List Byte)) : Written :=
  let d := c.must 0
  let fm := d.fmt
  let find := fun (i : List Nat) => rows.find? fun x => x.1 == i.getD 2 0 && x.2.1 == i.getD 1 0
  if fm.isF8 then
    let vs := ((allIdx d.ext).map fun i => match find i with
      | some x => rowVal fm x.2.2 (i.getD 0 0)
      | none => Val.zero).toArray
    writeVals d (c.outSpec (.fixed (((c.must 1).headT c.rd : Int) - 127))) vs c.pool
  else
    { Written.none c.pool with
      bytes := (allIdx d.ext).flatMap fun i => codeBytes d (d.offset i) (match find i with
        | some x => leField x.2.2 (i.getD 0 0 * (fm.bits / 8)) (fm.bits / 8)
        | none => 0) }

/-- DISPATCH completes: D0 from the rows that arrived. A narrow output takes D1's exponent whatever its scale source
(R325; DESIGN CHOICE, log entry 112). -/
def endDispatch (c : Ctx) (o : FabOp) (xs : Array Expert) (x : Scan) (l : List (Nat × Nat × Int)) : Effect :=
  let counts := dispatchCounts c xs x l
  let nl := (c.must 0).e 2
  let e := outEffect c
    [{ t := c.must 3, w := writeCounts c 3 counts, copied := true },
     { t := c.must 0, w := writeLanded c (landed c o xs x), copied := !(c.must 0).fmt.isF8 }] none false []
  { e with s := e.s.modPad c.p fun d =>
      (d.addObj 0x5844 0 (counts.getD (2 * nl + 1) 0)).addObj 0x5845 0 (counts.getD (2 * nl) 0) }

def unreachable (c : Ctx) : Bool := c.others.any fun r => !c.s.canReach c.p (c.grp.members.getD r 0)

/-- The second pass of DISPATCH. -/
def lookDispatchRows (c : Ctx) (o : FabOp) (xs : Array Expert) (x : Scan) (l : List (Nat × Nat × Int)) :
    Progress :=
  let want := fun q => ((hosted xs c.me).map fun e => x.admits q e).foldl (· + ·) 0
  if rowsCome c o want (c.must 1).fmt ((c.must 1).e 0) then .ends (endDispatch c o xs x l) else .waits c.s o

def lookDispatch (c : Ctx) (o : FabOp) : Progress :=
  let xs := c.experts
  let l := c.choices 6
  match allCounts o c.count xs.size with
  | none => .waits c.s o
  | some cs =>
    let x : Scan := ⟨cs, c.r.p 2⟩
    if o.rows then lookDispatchRows c o xs x l
    else if unreachable c then .ends { s := c.s, statuses := [0x30] }
    else
      let (s, o) := sendRows c o xs (dispatchRows c xs x l)
      lookDispatchRows { c with s := s } { o with rows := true } xs x l

/-! ### COMBINE (R326) -/

/-- The rows that this host returns to a rank. -/
def combineRows (c : Ctx) (xs : Array Expert) (x : Scan) (q : Nat) : List Byte :=
  (hosted xs c.me).flatMap fun e => (List.range (x.admits q e)).flatMap fun i =>
    rowOut (c.must 1) c.rd c.pool fun f => [f, x.before q e + i, locOf xs e, 0, 0, 0]

/-- The returned rows, each with the token and choice slot it pairs with. -/
def returned (c : Ctx) (o : FabOp) (xs : Array Expert) (x : Scan) (l : List (Nat × Nat × Int)) :
    List (Nat × Nat × List Byte) :=
  let n := rowBytes (c.must 1).fmt ((c.must 1).e 0)
  (List.range c.count).flatMap fun h =>
    let b := streamOf o.got h (o.kind + 1)
    let ks := (hosted xs h).flatMap fun e => admitted x c.me e l
    ks.zipIdx.map fun (k, i) => (k.1, k.2.1, sliceBytes b (n * i) n)

/-- COMBINE completes: D0 from the rows that came back. A narrow output takes D1's exponent whatever its scale source
(R326; DESIGN CHOICE, log entry 112). -/
def endCombine (c : Ctx) (o : FabOp) (xs : Array Expert) (x : Scan) (l : List (Nat × Nat × Int)) : Effect :=
  let d := c.must 0
  let fm := (c.must 1).fmt
  let rows := returned c o xs x l
  let w := c.wide 3
  let rs := ((allIdx d.ext).map fun i =>
    (List.range ((c.must 2).e 0)).foldl (fun (acc : F32) j =>
      match rows.find? fun y => y.1 == i.getD 1 0 && y.2.1 == j with
      | some y => F32.fma (pick w (0 : F32) (c.must 3).ext [j, i.getD 1 0, 0, 0, 0, 0])
          (F32.ofVal (rowVal fm y.2.2 (i.getD 0 0))) acc
      | none => acc) 0).toArray
  let way := if d.fmt.isF8 then Way.fixed (((c.must 1).headT c.rd : Int) - 127) else .measured
  outEffect c [{ t := d, w := writeOut d (c.outSpec way) rs c.pool }] none (anyNonFinite rs) []

def lookCombineRows (c : Ctx) (o : FabOp) (xs : Array Expert) (x : Scan) (l : List (Nat × Nat × Int)) :
    Progress :=
  let want := fun h => ((hosted xs h).map fun e => x.admits c.me e).foldl (· + ·) 0
  if rowsCome c o want (c.must 1).fmt ((c.must 1).e 0) then .ends (endCombine c o xs x l) else .waits c.s o

def lookCombine (c : Ctx) (o : FabOp) : Progress :=
  let xs := c.experts
  let l := c.choices 8
  match allCounts o c.count xs.size with
  | none => .waits c.s o
  | some cs =>
    let x : Scan := ⟨cs, (c.must 1).e 1⟩
    if o.rows then lookCombineRows c o xs x l
    else if unreachable c then .ends { s := c.s, statuses := [0x30] }
    else
      let (s, o) := sendRows c o xs (combineRows c xs x)
      lookCombineRows { c with s := s } { o with rows := true } xs x l

/-! ### One look, and the start of an operation -/

def look (c : Ctx) (o : FabOp) : Progress :=
  match o.kind with
  | 2 => lookGather c o
  | 3 => lookOne c o (c.r.p 3) 3
  | 4 => .ends { s := c.s }
  | 5 => lookOne c o (c.r.p 2) 4
  | 6 => lookDispatch c o
  | 8 => lookCombine c o
  | _ => lookReduce c o

/-- This member's own stream in its own format. -/
def ownStream (c : Ctx) : List Byte := ((c.must 1).toWire c.rd c.pool).stream

/-- Counts of the first pass as bytes. -/
def ownCounts (c : Ctx) (kind : Nat) : List Byte :=
  (countChoices c.experts (c.choices kind)).toList.flatMap (leBytes 4)

/-- A receive opens its place among the pairs (R320). -/
def openReceive (c : Ctx) (kind : Nat) (s : State) : State :=
  if kind = 5 then s.modPad c.p fun d => { d with
    pairs := d.pairs ++ [{ slot := c.slot0, rank := c.r.p 2, send := none, receive := c.grp.issued }] }
  else s

/-- One number of operations comes before another, modulo 2^28. -/
def seqBefore (a b : Nat) : Bool := a != b && (b + 2 ^ 28 - a) % 2 ^ 28 < 2 ^ 27

/-- The receives from a rank that are not settled, in issue order. -/
def Paddock.openPairs (d : Paddock) (slot rank : Nat) : List Pairing :=
  d.pairs.filter fun x => x.slot == slot && x.rank == rank && x.send.isNone

/-- The place of a send among those from its rank that are not settled, in the order of their numbers. -/
def Paddock.sendPlace (d : Paddock) (slot rank seq : Nat) : Nat :=
  (d.sends.filter fun x => x.slot == slot && x.rank == rank && seqBefore x.seq seq).length

/-- The send that a receive pairs with, of those that have come: the k-th with the k-th (R320, log entry 105). -/
def Paddock.sendFor (d : Paddock) (slot receive : Nat) : Option Sending :=
  match d.pairs.find? fun x => x.slot == slot && x.receive == receive && x.send.isNone with
  | none => none
  | some x =>
    match (d.openPairs slot x.rank).findIdx? fun y => y == x with
    | none => none
    | some i => d.sends.find? fun y => y.slot == slot && y.rank == x.rank && d.sendPlace slot x.rank y.seq == i

/-- A receive is over: its pair is settled. -/
def Paddock.settlePair (d : Paddock) (slot receive : Nat) : Paddock :=
  match d.sendFor slot receive with
  | none => d
  | some y => { d with
      pairs := modWhere d.pairs (fun x => x.slot == slot && x.receive == receive) fun x => { x with send := some y.seq }
      sends := d.sends.erase y }

/-- What this member sends at issue, to whom, and what it keeps as its own contribution. -/
def opening (c : Ctx) (kind : Nat) : List (Nat × List (Nat × List Byte)) × List Piece :=
  let own := fun (b : List Byte) =>
    [({ rank := c.me, kind := kind, level := 0, offset := 0, bytes := b } : Piece)]
  let raw := fun (ranks : List Nat) (b : List Byte) => ranks.map fun r => (r, rawMessages b)
  match kind with
  | 2 => (raw c.others (ownStream c), own (ownStream c))
  | 3 => if c.me = c.r.p 3 then (raw c.others (ownStream c), own (ownStream c)) else ([], [])
  | 4 => (raw [c.r.p 2] (ownStream c), [])
  | 5 => ([], [])
  | 6 => (raw c.others (ownCounts c 6), own (ownCounts c 6))
  | 8 => (raw c.others (ownCounts c 8), own (ownCounts c 8))
  | _ =>
    let l := ownGroups c
    (c.others.map fun r =>
      let (st, sz) := if kind = 0 then foldShard c r else keptGroups c r
      (r, groupMessages st ((l.drop st).take sz)), own (packGroups l))

/-- Issue of a group operation: it is numbered, its first messages go out, and it waits for its peers
or ends at once. -/
def startOp (kind : Nat) (c : Ctx) : Effect :=
  let (sends, own) := opening c kind
  let s := openReceive c kind (countOp c.s c.p c.slot0)
  let come := match (s.pad c.p).sendFor c.slot0 c.grp.issued with | some y => y.got | none => []
  let o := { c.fabOp kind with got := own ++ if kind = 5 then come else [] }
  let s := sends.foldl (fun s x => sendPieces s c.p o x.1 kind 0 x.2) s
  let keep := fun (s : State) (o : FabOp) => s.modPad c.p fun d => { d with ops := d.ops ++ [o] }
  match look { c with s := s } o with
  | .waits s o => { s := keep s o, hold := .fabric }
  | .ends e => { e with s := (keep e.s { o with done := true }).modPad c.p fun d =>
      if kind = 5 then d.settlePair c.slot0 o.seq else d }

/-! ### COLLECT -/

/-- Ranks that a mode needs a route to. -/
def needed (c : Ctx) (mode : Nat) : List Nat :=
  match mode with
  | 3 => if c.me = c.r.p 3 then c.others else [c.r.p 3]
  | 4 => [c.r.p 2]
  | 5 => [c.r.p 2]
  | _ => c.others

/-- P2 and P3 name members, P2 another one (R318), where the mode uses them. -/
def peersOk (c : Ctx) (mode : Nat) : Bool :=
  !c.formed || (match mode with
    | 3 => c.r.p 3 < c.count
    | 4 => c.r.p 2 < c.count && c.r.p 2 != c.me
    | 5 => c.r.p 2 < c.count && c.r.p 2 != c.me
    | _ => true)

def reducible (f : Fmt) : Bool :=
  match f with
  | .f32 => true | .f16 => true | .bf16 => true | .f8a => true | .f8g => true | .g16 => true
  | _ => false

/-- The format rules of R319 at issue. -/
def collectFormats (mode : Nat) (c : Ctx) : List (Nat × Bool) :=
  let d := (c.must 0).fmt
  let x := (c.must 1).fmt
  match mode with
  | 0 => [(0, d == .f32 || d == .g16), (1, reducible x)]
  | 1 => [(0, d == .f32 || d == .g16), (1, reducible x)]
  | 2 => [(0, formatFits d x && d != .f4b)]
  | 3 => [(0, formatFits d x)]
  | _ => []

/-- The extent rules of R318 and R319. -/
def collectShapes (mode : Nat) (c : Ctx) : List (Nat × Bool) :=
  let d := c.must 0
  let x := c.must 1
  match mode with
  | 0 => [(0, d.ext == x.ext)]
  | 1 => [(0, !c.formed || (d.rank == x.rank && d.ext == (shareOf x c.count c.me).2))]
  | 2 => [(0, !d.fmt.isF8 || 3 ≤ d.rank),
          (1, !c.formed || (d.rank == x.rank && x.ext == (shareOf d c.count c.me).2))]
  | 3 => [(0, d.ext == x.ext)]
  | _ => []

/-- The full tensor of a mode is empty; an empty share alone is no no-op (DEDUCED, log entry 22). -/
def collectNoop (mode : Nat) (c : Ctx) : Bool :=
  match mode with
  | 0 => (c.must 1).isEmpty
  | 1 => (c.must 1).isEmpty
  | 4 => (c.must 1).isEmpty
  | _ => (c.must 0).isEmpty

/-- COLLECT in one of its modes (R318 to R321). -/
def collectOp (mode : Nat) : Op :=
  { required := fun _ => if mode = 4 then [1] else if mode = 5 then [0] else [0, 1]
    params := [0, 2, 3, 4]
    form := fun r => r.modifier == mode && r.p 0 < 16
    carry := fun _ => if mode < 2 then [] else [0, 1]
    noHeader := fun c => if mode = 3 && c.me != c.r.p 3 then [1] else []
    relate := fun c => [(0xFFFF, [], peersOk c mode)]
    formats := collectFormats mode
    shapes := collectShapes mode
    inPlace := fun _ _ j => mode == 0 && j == 1
    noop := collectNoop mode
    skip := fun c => if c.formed then countOp c.s c.p c.slot0 else c.s
    late := fun c => groupLate c (needed c mode)
    run := startOp mode }

/-- COLLECT mode 0; a modifier above 5 is malformed. -/
def execCollectAllReduce (p g : Nat) (s : State) : Host.Outcome State Fault Refusal :=
  .next (issue 0x0030 (fun r => r.modifier == 0 || 6 ≤ r.modifier) (collectOp 0) p g s)

def execCollectReduceScatter (p g : Nat) (s : State) : Host.Outcome State Fault Refusal :=
  .next (issue 0x0030 (fun r => r.modifier == 1) (collectOp 1) p g s)

def execCollectAllGather (p g : Nat) (s : State) : Host.Outcome State Fault Refusal :=
  .next (issue 0x0030 (fun r => r.modifier == 2) (collectOp 2) p g s)

def execCollectBroadcast (p g : Nat) (s : State) : Host.Outcome State Fault Refusal :=
  .next (issue 0x0030 (fun r => r.modifier == 3) (collectOp 3) p g s)

def execCollectSend (p g : Nat) (s : State) : Host.Outcome State Fault Refusal :=
  .next (issue 0x0030 (fun r => r.modifier == 4) (collectOp 4) p g s)

def execCollectReceive (p g : Nat) (s : State) : Host.Outcome State Fault Refusal :=
  .next (issue 0x0030 (fun r => r.modifier == 5) (collectOp 5) p g s)

/-! ### DISPATCH and COMBINE -/

def tokenFormat (f : Fmt) : Bool :=
  match f with
  | .f32 => true | .f16 => true | .bf16 => true | .f8a => true | .f8g => true
  | _ => false

def weightFormat (f : Fmt) : Bool := f == .f32 || f == .f16 || f == .bf16

/-- No entry of the share names this rank with a local index at or above L (R324). -/
def localsOk (c : Ctx) (l : Nat) : Bool :=
  !c.formed || (hosted c.experts c.me).all fun e => decide (locOf c.experts e < l)

/-- The extents (d, T) of tokens, (P1, T) of choices and weights, and (d, P2, L) of rows. -/
def routingShapes (c : Ctx) (rows tokens weights p2 : Nat) : List (Nat × Bool) :=
  let r := c.must rows
  let t := c.must tokens
  let k := c.must 2
  let w := c.must weights
  [(rows, r.rank == 3 && r.e 0 == t.e 0 && r.e 1 == p2), (tokens, t.rank == 2),
   (2, k.rank == 2 && k.e 0 == c.r.p 1 && k.e 1 == t.e 1),
   (weights, w.rank == 2 && w.ext == k.ext), (rows, localsOk c (r.e 2))]

def dispatchOp : Op :=
  { partly := fun _ => [0, 3]
    required := fun _ => [0, 1, 2, 3, 4]
    params := [0, 1, 2, 4]
    form := fun r => r.modifier == 0 && r.p 0 < 16 && 1 ≤ r.p 1 && r.p 1 ≤ 8 && 1 ≤ r.p 2
      && r.p 2 ≤ 0x7FFFFFFF
    formats := fun c =>
      [(0, (c.must 0).fmt == (c.must 1).fmt), (1, tokenFormat (c.must 1).fmt),
       (2, (c.must 2).fmt == .i32), (3, (c.must 3).fmt == .u32), (4, weightFormat (c.must 4).fmt)]
    shapes := fun c => routingShapes c 0 1 4 (c.r.p 2) ++
      [(3, (c.must 3).rank == 1 && (c.must 3).e 0 == 2 * (c.must 0).e 2 + 2)]
    skip := fun c => if c.formed then countOp c.s c.p c.slot0 else c.s
    late := fun c => groupLate c c.others
    run := startOp 6 }

def execDispatch (p g : Nat) (s : State) : Host.Outcome State Fault Refusal :=
  .next (issue 0x0031 (fun _ => true) dispatchOp p g s)

/-- A narrow output of COMBINE takes its input's format. -/
def combineFormat (d x : Fmt) : Bool := if d.isF8 then d == x else weightFormat d

def combineOp : Op :=
  { required := fun _ => [0, 1, 2, 3]
    params := [0, 1, 4]
    form := fun r => r.modifier == 0 && r.p 0 < 16 && 1 ≤ r.p 1 && r.p 1 ≤ 8
    formats := fun c =>
      [(0, combineFormat (c.must 0).fmt (c.must 1).fmt), (1, tokenFormat (c.must 1).fmt),
       (2, (c.must 2).fmt == .i32), (3, weightFormat (c.must 3).fmt)]
    shapes := fun c => routingShapes c 1 0 3 ((c.must 1).e 1)
    skip := fun c => if c.formed then countOp c.s c.p c.slot0 else c.s
    late := fun c => groupLate c c.others
    run := startOp 8 }

def execCombine (p g : Nat) (s : State) : Host.Outcome State Fault Refusal :=
  .next (issue 0x0032 (fun _ => true) combineOp p g s)

/-! ### Messages of types 0x01 to 0x03 (R313, R314, R321) -/

/-- What becomes of a message that has been delivered. -/
inductive Judged where
  /-- Its operation has not issued here yet. -/
  | waits
  /-- Nothing uses it. -/
  | gone
  /-- Dropped and counted in an object of a paddock. -/
  | counted (p obj : Nat)
  /-- Dropped and counted, and a recovery starts. -/
  | mismatch (p : Nat)
  | used (p : Nat) (o : FabOp) (x : Piece)

/-- The kinds of operation word that an operation takes. -/
def FabOp.takes (o : FabOp) (kind : Nat) : Bool :=
  match o.kind with
  | 4 => false
  | 5 => kind == 4
  | 6 => kind == 6 || kind == 7
  | 8 => kind == 8 || kind == 9
  | k => kind == k

/-- The piece that a message brings to an operation, where its operation word agrees (R314, R317). -/
def pieceOf (g : Group) (o : FabOp) (m : Delivered) : Option Piece :=
  let kind := m.word % 16
  match g.members.findIdx? fun a => a == m.source with
  | none => none
  | some r =>
    if o.takes kind && typeOfKind kind == m.kind && m.word / 16 % 8 < 6 && m.word / 128 % 512 == 0 then
      some { rank := r, kind := kind, level := m.word / 16 % 8, offset := m.offset, bytes := m.payload }
    else none

/-- The receive that a message of a send goes to: the one its send has been settled with, else the one of its place. -/
def Paddock.pairOf (d : Paddock) (slot seq : Nat) (m : Delivered) : Option Pairing :=
  match (d.group slot).members.findIdx? fun a => a == m.source with
  | none => none
  | some a =>
    match d.pairs.find? fun x => x.slot == slot && x.rank == a && x.send == some seq with
    | some x => some x
    | none => (d.openPairs slot a)[d.sendPlace slot a seq]?

/-- The number of the operation here that a message goes to: its own number, or for a send that of the
receive it pairs with (R314, R320). -/
def Paddock.partner (d : Paddock) (slot seq : Nat) (m : Delivered) : Option Nat :=
  if m.word % 16 = 4 then (d.pairOf slot seq m).map (·.receive) else some seq

/-- A message of a send whose receive is over settles the pair of the two. -/
def State.pairSend (s : State) (m : Delivered) : State :=
  let slot := m.flow / 2 ^ 28 % 16
  let seq := m.flow % 2 ^ 28
  match s.jobPaddock m.tag with
  | none => s
  | some p =>
    if m.word % 16 != 4 || m.epoch != (s.pad p).epoch || m.step != (s.pad p).step then s
    else match (s.pad p).pairOf slot seq m with
      | some x =>
        if (s.pad p).ops.any fun o => o.group == slot && o.seq == x.receive && !o.done then s
        else s.modPad p fun d => { d with
          pairs := modWhere d.pairs (fun y => y == x) fun y => { y with send := some seq } }
      | none => s

def judge (s : State) (m : Delivered) : Judged :=
  match s.jobPaddock m.tag with
  | none => .gone
  | some p =>
    let d := s.pad p
    let slot := m.flow / 2 ^ 28 % 16
    let seq := m.flow % 2 ^ 28
    let g := d.group slot
    if m.epoch < d.epoch then .counted p 0x5840
    else if m.epoch != d.epoch || m.step != d.step then .mismatch p
    else match (d.partner slot seq m).bind fun n => d.ops.find? fun o => o.group == slot && o.seq == n with
      | some o =>
        match pieceOf g o m with
        | some x => if o.done then .gone else .used p o x
        | none => .counted p 0x5842
      | none =>
        match g.state with
        | .formed =>
          match d.partner slot seq m with
          | some n =>
            if (g.issued + 2 ^ 28 - 1 - n) % 2 ^ 28 < 2 ^ 27 then
              (if g.timedOut.contains n then .counted p 0x5843 else .gone)
            else .waits
          | none => if g.members.contains m.source then .waits else .counted p 0x5842
        | .forming => .waits
        | .defined => .waits
        | _ => .counted p 0x5842

def Judged.waiting (j : Judged) : Bool :=
  match j with
  | .waits => true
  | _ => false

/-- The context of an operation that issued earlier. -/
def opCtx (s : State) (p : Nat) (o : FabOp) : Ctx := 
  { s := s, p := p, r := o.r, index := o.index, ts := o.ts, seed := o.seed, step := o.step }

def Paddock.modOp (d : Paddock) (n : Nat) (f : FabOp → FabOp) : Paddock :=
  { d with ops := modWhere d.ops (fun o => o.flight == n) f }

def Paddock.modFlight (d : Paddock) (n : Nat) (f : Flight → Flight) : Paddock :=
  { d with flights := modWhere d.flights (fun x => x.serial == n) f }

/-- A flight's held part ends with these statuses and records. -/
def release (s : State) (p n : Nat) (statuses : List Nat) (records : List (List Byte)) : State :=
  s.modPad p fun d => d.modFlight n fun f =>
    { f with statuses := f.statuses ++ statuses, records := f.records ++ records, hold := .none }

/-- Feed one piece to an operation. -/
def feed (s : State) (p : Nat) (o : FabOp) (x : Piece) : State :=
  let o := { o with got := o.got ++ [x] }
  match look (opCtx s p o) o with
  | .waits s o => s.modPad p fun d => d.modOp o.flight fun _ => o
  | .ends e =>
    release (e.s.modPad p fun d => d.modOp o.flight fun _ => { o with done := true })
      p o.flight e.statuses e.records

/-- The receives from a rank take up again what has come of the sends that they pair with. -/
def refeed (s : State) (p slot : Nat) (x : Pairing) : State :=
  let d := s.pad p
  match d.sendFor slot x.receive, d.ops.find? (fun o => o.group == slot && o.seq == x.receive && !o.done) with
  | some y, some o =>
    let o := { o with got := y.got }
    match look (opCtx s p o) o with
    | .waits s o => s.modPad p fun d => d.modOp o.flight fun _ => o
    | .ends e =>
      release (e.s.modPad p fun d => (d.modOp o.flight fun _ => { o with done := true }).settlePair slot x.receive)
        p o.flight e.statuses e.records
  | _, _ => s

/-- Feed one piece of a send: sends take their places by their numbers, and the receives follow (R320). -/
def feedSend (s : State) (p slot seq : Nat) (x : Piece) : State :=
  let mine := fun (y : Sending) => y.slot == slot && y.rank == x.rank && y.seq == seq
  let put := fun (l : List Sending) =>
    if l.any mine then modWhere l mine fun y => { y with got := y.got ++ [x] }
    else l ++ [{ slot := slot, rank := x.rank, seq := seq, got := [x] }]
  let s := s.modPad p fun d => { d with sends := put d.sends }
  ((s.pad p).openPairs slot x.rank).foldl (fun s y => refeed s p slot y) s

/-- Use the first delivered message of a type that does not wait for its operation. -/
def useFabric (kind : Nat) (s : State) : State :=
  match s.take fun m => m.kind == kind && !(judge s m).waiting with
  | none => s
  | some (m, u) =>
    let t := u.pairSend m
    match judge s m with
    | .waits => s
    | .gone => t
    | .counted p obj => t.modPad p fun d => d.addObj obj 0 1
    | .mismatch p => (t.modPad p fun d => d.addObj 0x5841 0 1).detect p 0x31 (some m.source)
    | .used p o x => if o.kind = 5 then feedSend t p (m.flow / 2 ^ 28 % 16) (m.flow % 2 ^ 28) x else feed t p o x

def execCollectiveDataMessage (s : State) : Host.Outcome State Fault Refusal := .next (useFabric 1 s)

def execExpertDispatchMessage (s : State) : Host.Outcome State Fault Refusal := .next (useFabric 2 s)

def execExpertCombineMessage (s : State) : Host.Outcome State Fault Refusal := .next (useFabric 3 s)

/-- P4 expires. An operation without a time-out, or one that has ended, is not touched (R100, R321). -/
def execFabricOpTimeout (p n : Nat) (s : State) : Host.Outcome State Fault Refusal :=
  .next (match (s.pad p).ops.find? fun o => o.flight == n with
    | none => s
    | some o =>
      if o.r.p 4 = 0 || (o.done && !(o.kind == 4 && (s.flowHeld o.flow || farSend s p o))) then s
      else
        release (s.modPad p fun d =>
          let d := if o.kind = 5 then d.settlePair o.group o.seq else d
          { d with ops := d.ops.filter fun x => x.flight != n }.setGroup o.group
            { d.group o.group with timedOut := (d.group o.group).timedOut ++ [o.seq] }) p n [0x70] [])

end Sys2Proof.Machine
end

