-- ==== Sys2Proof/Machine/Sync.lean ====
section
/-! DEFINITION. BARRIER, WAIT and SIGNAL (R98 to R100, R107), and the condition under which a record
that waits for earlier instructions issues. -/

namespace Sys2Proof.Machine
open Sys2Proof

/-! ### Records that wait for earlier instructions -/

/-- Every flight below a serial number has completed. -/
def Paddock.clearBelow (d : Paddock) (n : Nat) : Bool := d.flights.all fun f => decide (n ≤ f.serial)

/-- The record at hand holds issue until every instruction already issued has completed (R107): the
state with the point it waits for noted, and whether the wait is over. -/
def reachBarrier (s : State) (p g : Nat) (pr : Program) : State × Bool :=
  let d := s.pad p
  let n := pr.barrier.getD d.nextFlight
  (s.modPad p fun d => d.modProgram g fun x => { x with barrier := some n }, d.clearBelow n)

def clearBarrier (s : State) (p g : Nat) : State :=
  s.modPad p fun d => d.modProgram g fun x => { x with barrier := none }

/-- Issue a record of operation `op` once earlier instructions have completed; a record that is
malformed returns its status at once (DEDUCED, log entry 13). -/
def issueBarrier (code : Nat) (op : Op) (p g : Nat) (s : State) : State :=
  match nextRec s p g with
  | some (pr, some r) =>
    if r.opcode = code && recordOk op pr r then
      let (s, go) := reachBarrier s p g pr
      if go then issue code (fun _ => true) op p g (clearBarrier s p g) else s
    else issue code (fun _ => true) op p g s
  | _ => issue code (fun _ => true) op p g s

/-- BARRIER (R107). -/
def barrierOp : Op :=
  { run := fun c =>
      { s := if c.r.flags.testBit 1 then applyShadows c.s c.p else c.s, instant := true } }

def execBarrier (p g : Nat) (s : State) : Host.Outcome State Fault Refusal :=
  .next (issueBarrier 0x0050 barrierOp p g s)

/-! ### WAIT -/

/-- WAIT once its condition holds (R98). -/
def waitOp : Op :=
  { params := [0, 1, 2]
    form := fun r => r.modifier == 0 && r.p 0 < 64
    run := fun c => { s := c.s, instant := true } }

/-- Hold issue of a program from this moment on, where it does not hold already. -/
def startWait (s : State) (p g : Nat) : State :=
  s.modPad p fun d => d.modProgram g fun x =>
    { x with waitSince := match x.waitSince with | some t => some t | none => some s.now }

def execWait (p g : Nat) (s : State) : Host.Outcome State Fault Refusal :=
  .next (match nextRec s p g with
    | some (pr, some r) =>
      if r.opcode = 0x0052 && recordOk waitOp pr r && (firstFail (slotChecks waitOp pr r)).isNone
          && !reached ((s.pad p).obj 0xA002 (r.p 0)) (r.p 1) then startWait s p g
      else issue 0x0052 (fun _ => true) waitOp p g s
    | _ => issue 0x0052 (fun _ => true) waitOp p g s)

/-- The time-out of the WAIT that holds a program expires: it returns 0x70, unless its target is
reached, which wins (R100). That the time has come is the event's own claim (log entry 8). -/
def execWaitTimeout (p g : Nat) (s : State) : Host.Outcome State Fault Refusal :=
  .next (match nextRec s p g with
    | some (pr, some r) =>
      if r.opcode = 0x0052 && pr.waitSince.isSome && r.p 2 != 0
          && !reached ((s.pad p).obj 0xA002 (r.p 0)) (r.p 1) then
        (failIssue s p g pr 0x0052 0x70 0xFFFF).modPad p fun d =>
          { d with lateWaits := d.lateWaits ++ [(r.p 0, r.p 1)] }
      else s
    | _ => s)

/-! ### SIGNAL -/

def signalForm (r : Rec) : Bool :=
  r.modifier < 2 && r.p 0 < 64 && 1 ≤ r.p 1 && r.p 1 ≤ 0x7FFFFFFF

/-- A mode 0 SIGNAL adds its increment at issue. -/
def signalOp : Op :=
  { params := [0, 1]
    form := signalForm
    run := fun c => { s := c.s.modPad c.p fun d => d.advance (c.r.p 0) (c.r.p 1), instant := true } }

/-- A mode 1 SIGNAL waits beside its program, which goes on to the next record. -/
def deferSignal (s : State) (p g : Nat) (r : Rec) : State :=
  s.modPad p fun d => (d.modProgram g fun x =>
    { x with
      next := x.next + 1
      deferred := x.deferred ++
        [{ index := x.next, counter := r.p 0, increment := r.p 1
           signal := if r.flags.testBit 0 then some r.counter else none }] }).lookIn

def execSignal (p g : Nat) (s : State) : Host.Outcome State Fault Refusal :=
  .next (match nextRec s p g with
    | some (pr, some r) =>
      if r.opcode = 0x0053 && r.modifier = 1 && recordOk signalOp pr r
          && (firstFail (slotChecks signalOp pr r)).isNone then deferSignal s p g r
      else issue 0x0053 (fun _ => true) signalOp p g s
    | _ => issue 0x0053 (fun _ => true) signalOp p g s)

/-- Every earlier record of a program has completed: none in flight, none deferred, and issue has
passed the record. -/
def earlierDone (d : Paddock) (pr : Program) (x : Deferred) : Bool :=
  decide (x.index < pr.next)
    && !(d.flights.any fun f => f.prog == pr.serial && decide (f.index < x.index))
    && !(pr.deferred.any fun y => decide (y.index < x.index))

/-- The oldest mode 1 SIGNAL issues and adds its increment, once every earlier record of its program
has completed; it never issues after a stop (R107). -/
def execSignalDeferredAdd (p g : Nat) (s : State) : Host.Outcome State Fault Refusal :=
  .next (match (s.pad p).program g with
    | none => s
    | some pr =>
      match pr.deferred with
      | [] => s
      | x :: rest =>
        if !pr.active || pr.stop.isSome || !(s.pad p).active || (s.pad p).stopped
            || !earlierDone (s.pad p) pr x then s
        else
          s.modPad p fun d =>
            let d := (d.addObj 0xA007 0 1).advance x.counter x.increment
            let d := match x.signal with | some n => d.advance n 1 (signal := false) | none => d
            d.modProgram g fun y =>
              { y with issued := y.issued + 1, deferred := rest }.returned [] x.index 0x0053 0xFFFF)

end Sys2Proof.Machine
end

