-- ==== Sys2Proof/Machine/Commit.lean ====
section
/-! DEFINITION. STEP_COMMIT: commit lists, images, partner copies, the seal and the replay commit
(R363 to R369, R379, R381). -/

namespace Sys2Proof.Machine
open Sys2Proof

/-! ### The commit list (R364) -/

/-- One entry of a commit list. -/
structure Entry where
  addr : Nat
  word : Nat
  deriving DecidableEq, Repr

def Entry.len (e : Entry) : Nat := e.word % 2 ^ 48
def Entry.isDesc (e : Entry) : Bool := e.word.testBit 48
def Entry.isStatic (e : Entry) : Bool := e.word.testBit 49

def Entry.bytes (e : Entry) : List Byte := leBytes 8 e.addr ++ leBytes 8 e.word

def parseEntries (b : List Byte) : Nat → List Entry
  | 0 => []
  | n + 1 => { addr := leField b 0 8, word := leField b 8 8 } :: parseEntries (b.drop 16) n

/-- The entries of the U32 tensor in a slot. -/
def listOf (rd : Reader_) (t : Tensor) : List Entry :=
  (List.range (t.e 1)).map fun i =>
    let w := fun (k : Nat) => t.code rd (t.offset [k, i, 0, 0, 0, 0])
    { addr := w 0 + 2 ^ 32 * w 1, word := w 2 + 2 ^ 32 * w 3 }

/-- A word of the list is well-formed. -/
def Entry.ok (e : Entry) : Bool :=
  e.addr % 64 == 0 && e.word < 2 ^ 50
    && (if e.isDesc then e.len == 0 else 64 ≤ e.len && e.len % 64 == 0)

/-- An entry with the tensor that a descriptor entry names. -/
structure Part where
  entry : Entry
  desc : List Byte
  tensor : Option Tensor
  deriving DecidableEq, Repr

/-- A descriptor with its run-time extents replaced by the values in force. -/
def settledDesc (s : State) (p : Nat) (b : List Byte) : List Byte :=
  let d := parseDesc b
  b.take 16 ++ (d.resolve s p).flatMap (leBytes 4) ++ b.drop 40

def partOf (s : State) (p : Nat) (e : Entry) : Part :=
  if e.isDesc then
    let b := settledDesc s p (s.bytesAt p e.addr 64)
    { entry := e, desc := b, tensor := some ((parseDesc b).tensor (parseDesc b).exts) }
  else { entry := e, desc := [], tensor := none }

/-- The range that a part commits. -/
def Part.range (x : Part) (rd : Reader_) : Nat × Nat :=
  match x.tensor with
  | some t => (t.addr, t.footprintIn rd)
  | none => (x.entry.addr, x.entry.len)

/-- The descriptor of a descriptor entry can be read and is one (R90, R364). -/
def descReadable (s : State) (p : Nat) (e : Entry) : Bool :=
  !e.isDesc || ((s.pad p).inFixed e.addr 64
    && ((parseDesc (s.bytesAt p e.addr 64)).bounds.all fun b =>
      match readBound s p b with | .value _ => true | .fails _ => false))

def descSound (s : State) (p : Nat) (e : Entry) : Bool :=
  !e.isDesc || (parseDesc (s.bytesAt p e.addr 64)).fieldsOk false (loadedCodebook (s.pad p))

/-- No two of a list of ranges overlap. -/
def disjoint : List (Nat × Nat) → Bool
  | [] => true
  | x :: r => r.all (fun y => !rangesMeet x.1 x.2 y.1 y.2) && disjoint r

/-- A committed range lies in one fixed or one CXL allocation. -/
def rangeOk (d : Paddock) (x : Nat × Nat) : Bool :=
  match d.allocOf x.1 x.2 with
  | some e => e.2.kind == 0 || e.2.kind == 2
  | none => false

/-! ### The state serialisation (R365) -/

/-- The fallback swaths of a tensor, by swath number. -/
def fallbackSwaths (t : Tensor) (word : Nat → Nat) : List Nat :=
  if t.fmt.isF8 && !t.churn then (List.range t.nSwath).filter fun n => (word n).testBit 17 else []

/-- What the serialisation holds for one part. -/
def Part.serial (x : Part) (rd : Reader_) (pool : List Fallback) : List Byte :=
  let (a, n) := x.range rd
  let raw := (List.range n).map fun i => rd (a + i)
  match x.tensor with
  | none => raw
  | some t =>
    if !t.fmt.isF8 || t.churn then raw
    else
      let w0 := t.wordAddr 0 - a
      let cleared := raw.zipIdx.map fun (b, i) =>
        if w0 ≤ i && i < w0 + 8 * t.nSwath && 4 ≤ (i - w0) % 8 then 0 else b
      cleared ++ (fallbackSwaths t fun k => readLe rd (t.wordAddr k) 8).flatMap fun k =>
        match pool.find? fun f => f.word == t.wordAddr k with
        | some f => (List.range 4096).flatMap fun i => leBytes 2 (f.codes.getD i 0)
        | none => List.replicate 8192 0

/-- The state digest: SHA-512 over the digests of 1 MiB pieces. -/
def stateDigest (b : List Byte) : List Byte :=
  Crypto.sha512 ((pieces 1048576 b).flatMap Crypto.sha512)

/-! ### The job record (R365). Its layout is the model's (DESIGN CHOICE, log entry 23). -/

/-- The tenant-writable objects whose applied values a job record holds: those of class RW and RWS,
less the ones R365 excepts and those held by structures of their own. -/
def inJobRecord (k : Nat) : Bool :=
  match objRow (k / 256) (k % 256) with
  | some r =>
    r.perPaddock && r.priv == 1 && (r.access == 1 || r.access == 4)
      && !([0xA003, 0x9002, 0x9008, 0x9009].contains (k / 256))
  | none => false

def counted32 (l : List (List Byte)) : List Byte := leBytes 4 l.length ++ l.flatten

/-- The job record of a paddock, with the descriptors of the descriptor entries of its commit list. -/
def jobRecord (d : Paddock) (slot : Nat) (parts : List Part) : List Byte :=
  counted32 ((d.objs.filter fun e => inJobRecord e.1).map fun e => leBytes 4 e.1 ++ leBytes 64 e.2)
    ++ counted32 ((d.allocs.filter fun e => !e.2.releasing).map fun e => leBytes 4 e.1 ++ e.2.bytes)
    ++ counted32 ((d.groups.toList.zipIdx.filter fun g => g.1.state != .empty).map fun g =>
        leBytes 4 g.2 ++ sliceBytes g.1.definition 0 64
          ++ counted32 (if g.1.state == .formed then g.1.members.map (leBytes 4) else []))
    ++ counted32 (d.codebooks.zipIdx.filterMap fun (c, i) => c.map fun c =>
        leBytes 4 i ++ leBytes 4 c.generation ++ counted32 (c.lengths.map (leBytes 4)))
    ++ counted32 (d.dicts.zipIdx.filterMap fun (c, i) => c.map fun c =>
        leBytes 4 i ++ leBytes 4 c.generation ++ leBytes 8 c.addr ++ leBytes 4 c.entries ++ leBytes 8 c.len)
    ++ counted32 ((parts.filter fun x => x.entry.isDesc).map (·.desc))
    ++ leBytes 4 slot ++ leBytes 8 d.commit.startStep

/-! ### Images (R366, R367) -/

/-- The commit slot size in bytes (object 0x9004). -/
def State.commitSlotSize (s : State) (p : Nat) : Nat := blockSize * (s.obj 0x9003 p / 4)

structure ImageHead where
  job : Nat
  rank : Nat
  step : Nat
  epoch : Nat
  loss : Nat
  length : Nat
  serial : Nat
  entries : Nat
  record : Nat
  flags : Nat
  state : List Byte
  recordDigest : List Byte
  deriving DecidableEq, Repr

def parseImage (b : List Byte) : ImageHead :=
  { job := leField b 0 4, rank := leField b 4 4, step := leField b 8 8, epoch := leField b 0x10 4,
    loss := leField b 0x14 4, length := leField b 0x18 8, serial := leField b 0x20 8,
    entries := leField b 0x28 4, record := leField b 0x2C 4, flags := leField b 0x30 1,
    state := sliceBytes b 0x40 64, recordDigest := sliceBytes b 0x80 64 }

def ImageHead.bytes (h : ImageHead) : List Byte :=
  leBytes 4 h.job ++ leBytes 4 h.rank ++ leBytes 8 h.step ++ leBytes 4 h.epoch ++ leBytes 4 h.loss
    ++ leBytes 8 h.length ++ leBytes 8 h.serial ++ leBytes 4 h.entries ++ leBytes 4 h.record
    ++ leBytes 1 h.flags ++ leBytes 15 0 ++ h.state ++ h.recordDigest

/-- The flags byte of an image in its slot, as the slot's own state gives it. -/
def Image.flags (i : Image) : Nat :=
  (leField i.bytes 0x30 1 / 4) * 4 + (if i.complete then 1 else 0) + (if i.sealed then 2 else 0)

/-- The parts of an image: its commit list, its serialisation, its job record. -/
def imageList (b : List Byte) : List Entry := parseEntries (b.drop 192) (parseImage b).entries

def imageSerial (b : List Byte) : List Byte :=
  sliceBytes b (192 + 16 * (parseImage b).entries) (parseImage b).serial

def imageRecord (b : List Byte) : List Byte :=
  sliceBytes b (192 + 16 * (parseImage b).entries + (parseImage b).serial) (parseImage b).record

/-- Both digests of R367 match. -/
def digestsOk (b : List Byte) : Bool :=
  stateDigest (imageSerial b) == (parseImage b).state
    && Crypto.sha512 (imageRecord b) == (parseImage b).recordDigest

/-- What a commit is made of: the serialisation of the ranges it includes, and the static ranges. -/
structure Built where
  list : List Entry
  serial : List Byte
  statics : List Byte
  record : List Byte

def build (s : State) (p slot : Nat) (list : List Entry) (withStatics : Bool) : Built :=
  let rd := s.byteAt p
  let pool := (s.pad p).fallback
  let parts := list.map (partOf s p)
  let ser := fun (l : List Part) => l.flatMap fun x => x.serial rd pool
  { list := list
    serial := ser (parts.filter fun x => withStatics || !x.entry.isStatic)
    statics := ser (parts.filter fun x => x.entry.isStatic)
    record := jobRecord (s.pad p) slot parts }

def Built.length (b : Built) : Nat := 192 + 16 * b.list.length + b.serial.length + b.record.length

/-- The image of a commit. -/
def Built.image (b : Built) (s : State) (p slot loss : Nat) (withStatics : Bool) : Image :=
  let d := s.pad p
  let step := (d.step + 1) % 2 ^ 64
  let h : ImageHead :=
    { job := d.job, rank := (d.group slot).rank, step := step, epoch := d.epoch, loss := loss,
      length := b.length, serial := b.serial.length, entries := b.list.length,
      record := b.record.length, flags := if withStatics && b.list.any Entry.isStatic then 4 else 0, state := stateDigest b.serial,
      recordDigest := Crypto.sha512 b.record }
  let bytes := h.bytes ++ b.list.flatMap Entry.bytes ++ b.serial ++ b.record
  { step := step, bytes := bytes, total := bytes.length, complete := false, sealed := false }

/-! ### Partner messages (R381) -/

def partnerOf (n r : Nat) : Nat := (r + n / 2) % n

/-- The member whose partner a rank is. -/
def wardOf (n r : Nat) : Nat := (r + n - n / 2) % n

def copyWord (kind parity cls tag : Nat) : Nat := kind + 16 * parity + 32 * cls + 65536 * tag

/-- Send partner-copy bytes in pieces, at their offsets. -/
def sendCopy (s : State) (p dest : Nat) (word : Nat) (b : List Byte) : State :=
  let d := s.pad p
  (rawMessages b).foldl (fun s x =>
    s.send p { type := 5, dest := dest, epoch := d.epoch, step := d.step, offset := x.1, word := word,
               payload := x.2 }) s

def sendCopyNote (s : State) (p dest word : Nat) : State :=
  let d := s.pad p
  s.send p { type := 5, dest := dest, epoch := d.epoch, step := d.step, word := word }

def Paddock.modCommit (d : Paddock) (f : Commit → Commit) : Paddock := { d with commit := f d.commit }

def putImage (l : List (Option Image)) (parity : Nat) (i : Image) : List (Option Image) :=
  l.set parity (some i)

/-! ### STEP_COMMIT -/

/-- Whether the next commit is a replay commit: the step K it replays (R379). -/
def Paddock.replaying (d : Paddock) : Option Nat :=
  match d.recovery with
  | some r => if d.obj 0x9001 0 = 5 || d.obj 0x9001 0 = 6 then r.replay else none
  | none => none

/-- The replay commit agrees with this rank's image of step K. -/
def replayMatches (s : State) (p slot k loss : Nat) (list : List Entry) : Bool :=
  match (s.pad p).commit.home.getD (k % 2) none with
  | some i =>
    let h := parseImage i.bytes
    i.step == k && h.loss == loss && h.state == stateDigest (build s p slot list (h.flags.testBit 2)).serial
  | none => false

def Ctx.commitList (c : Ctx) : List Entry := listOf c.rd (c.must 1)

/-- The bits of D0. -/
def Ctx.loss (c : Ctx) : Nat := (c.must 0).code c.rd 0

def Ctx.partner (c : Ctx) : Nat := c.grp.members.getD (partnerOf c.count c.me) 0

/-- What a commit meets at issue (R330, R363, R364, R366). -/
def commitLate (c : Ctx) : List (Nat × Nat × Bool) :=
  let d := c.s.pad c.p
  let list := c.commitList
  let ranges := list.map fun e => (partOf c.s c.p e).range c.rd
  let sound := list.all fun e => e.ok && descReadable c.s c.p e && descSound c.s c.p e
  [(0xFFFF, 0x01, match d.commit.group with | some g => g == c.slot0 | none => true),
   (1, 0x01, list.all Entry.ok),
   (1, 0x02, list.all (descReadable c.s c.p)),
   (1, 0x01, list.all (descSound c.s c.p)),
   (1, 0x02, !sound || (ranges.all (rangeOk d) && disjoint ranges)),
   (0xFFFF, if c.grp.state == .refused then c.grp.verdict else 0x31, c.formed),
   (0xFFFF, 0x30, c.count < 2 || d.replaying.isSome || c.s.canReach c.p c.partner),
   (0xFFFF, 0x13, d.replaying.isSome ||
     (build c.s c.p c.slot0 list (!d.commit.staticsKept)).length ≤ c.s.commitSlotSize c.p)]

/-- The commit is under way. -/
def noteCommit (c : Ctx) (f : Commit → Commit) : State :=
  c.s.modPad c.p fun d => d.modCommit fun m => f { m with
    group := some c.slot0
    running := some ((d.step + 1) % 2 ^ 64), flight := some d.nextFlight, since := c.s.now
    limit := c.r.p 1, acked := false, refused := false, mismatch := false }

/-- The held copy and the acknowledgement of a member that is its own partner. -/
def selfHeld (n : Nat) (i : Image) (statics : Option (List Byte)) (m : Commit) : Commit :=
  if 1 < n then m
  else
    { m with
      held := putImage m.held (i.step % 2) { i with complete := true }
      heldStatics := statics.getD m.heldStatics
      home := putImage m.home (i.step % 2) { i with complete := true }
      acked := true }

def commitRun (c : Ctx) : Effect :=
  let d := c.s.pad c.p
  match d.replaying with
  | some k =>
    { s := noteCommit c fun m => { m with
        mismatch := !replayMatches c.s c.p c.slot0 k c.loss c.commitList }
      hold := .commit }
  | none =>
    let fresh := !d.commit.staticsKept
    let b := build c.s c.p c.slot0 c.commitList fresh
    let i := b.image c.s c.p c.slot0 c.loss fresh
    let s := noteCommit c fun m =>
      selfHeld c.count i (if fresh then some b.statics else none) { m with
        home := putImage m.home (i.step % 2) i
        ownStatics := if fresh then b.statics else m.ownStatics }
    { s := if c.count < 2 then s
        else sendCopy s c.p c.partner (copyWord 0 (i.step % 2) 1 c.grp.tag) i.bytes
      hold := .commit }

/-- STEP_COMMIT issues as BARRIER does (R107, R368). -/
def commitOp : Op :=
  { required := fun _ => [0, 1]
    params := [0, 1]
    form := fun r => r.modifier == 0 && r.p 0 < 16
    formats := fun c => [(0, (c.must 0).fmt == .f32), (1, (c.must 1).fmt == .u32)]
    shapes := fun c =>
      [(0, (c.must 0).numel == 1),
       (1, (c.must 1).rank == 2 && (c.must 1).e 0 == 4 && 1 ≤ (c.must 1).e 1 && (c.must 1).e 1 ≤ 65536)]
    late := commitLate
    run := commitRun }

def execStepCommit (p g : Nat) (s : State) : Host.Outcome State Fault Refusal :=
  .next (issueBarrier 0x0051 commitOp p g s)

/-! ### Image data, acknowledgement, refusal -/

def copyKind (m : Delivered) : Nat := m.word % 16
def copyParity (m : Delivered) : Nat := m.word / 16 % 2
def copyClass (m : Delivered) : Nat := m.word / 32 % 2

/-- Take the next partner-copy message of a kind whose job tag names a paddock. -/
def withCopy (kind : Nat) (use : State → Nat → Delivered → State) (s : State) : State :=
  match s.take fun m => m.kind == 5 && copyKind m == kind with
  | none => s
  | some (m, t) =>
    match t.jobPaddock m.tag with
    | some p => use t p m
    | none => t

/-- Place bytes at an offset of a list that grows as it needs. -/
def spliceBytes (b : List Byte) (o : Nat) (x : List Byte) : List Byte :=
  b.take o ++ List.replicate (o - b.length) 0 ++ x ++ b.drop (o + x.length)

/-- An image with one more piece. -/
def addPiece (old : Option Image) (m : Delivered) : Image :=
  let b := spliceBytes (if m.offset = 0 then [] else match old with | some i => i.bytes | none => [])
    m.offset m.payload
  let h := parseImage b
  { step := h.step, bytes := b, total := h.length, complete := false, sealed := false }

/-! ### Reading a job record and splitting a serialisation -/

/-- Read `n` items one after the other. -/
def readMany {α : Type} (f : List Byte → α × List Byte) : Nat → List Byte → List α × List Byte
  | 0, b => ([], b)
  | n + 1, b =>
    let (x, b) := f b
    let (l, b) := readMany f n b
    (x :: l, b)

/-- Read a counted list. -/
def readCounted {α : Type} (f : List Byte → α × List Byte) (b : List Byte) : List α × List Byte :=
  readMany f (leField b 0 4) (b.drop 4)

def readNat (n : Nat) (b : List Byte) : Nat × List Byte := (leField b 0 n, b.drop n)

structure JobGroup where
  slot : Nat
  definition : List Byte
  members : List Nat
  deriving DecidableEq, Repr

/-- A job record as it was written. -/
structure JobRecord where
  objs : List (Nat × Nat)
  allocs : List (Nat × Alloc)
  groups : List JobGroup
  codebooks : List (Nat × Codebook)
  dicts : List (Nat × DictSlot)
  descs : List (List Byte)
  slot : Nat
  startStep : Nat
  deriving DecidableEq, Repr

def parseRecord (b : List Byte) : JobRecord :=
  let (objs, b) := readCounted (fun b => ((leField b 0 4, leField b 4 64), b.drop 68)) b
  let (allocs, b) := readCounted (fun b => ((leField b 0 4, allocOfBytes (sliceBytes b 4 64)), b.drop 68)) b
  let (groups, b) := readCounted (fun b =>
    let (l, r) := readCounted (readNat 4) (b.drop 68)
    ({ slot := leField b 0 4, definition := sliceBytes b 4 64, members := l : JobGroup }, r)) b
  let (codebooks, b) := readCounted (fun b =>
    let (l, r) := readCounted (readNat 4) (b.drop 8)
    ((leField b 0 4, { generation := leField b 4 4, lengths := l : Codebook }), r)) b
  let (dicts, b) := readCounted (fun b =>
    ((leField b 0 4, { generation := leField b 4 4, addr := leField b 8 8, entries := leField b 16 4,
                       len := leField b 20 8 : DictSlot }), b.drop 28)) b
  let (descs, b) := readCounted (fun b => (b.take 64, b.drop 64)) b
  { objs := objs, allocs := allocs, groups := groups, codebooks := codebooks, dicts := dicts,
    descs := descs, slot := leField b 0 4, startStep := leField b 4 8 }

/-- The parts of a commit list, the descriptor entries with the descriptors of its job record. -/
def joinParts : List Entry → List (List Byte) → List Part
  | [], _ => []
  | e :: r, ds =>
    if e.isDesc then
      match ds with
      | d :: ds => { entry := e, desc := d, tensor := some ((parseDesc d).tensor (parseDesc d).exts) }
          :: joinParts r ds
      | [] => []
    else { entry := e, desc := [], tensor := none } :: joinParts r ds

/-- The bytes of one part at the head of a serialisation, and what follows them. -/
def Part.cut (x : Part) (b : List Byte) : List Byte × List Byte :=
  match x.tensor with
  | none => (b.take x.entry.len, b.drop x.entry.len)
  | some t =>
    let arr := b.toArray
    let rd : Reader_ := fun a => arr[a - t.addr]?.getD 0
    let n := t.footprintIn rd
    let k := (fallbackSwaths t fun i => readLe rd (t.wordAddr i) 8).length
    (b.take (n + 8192 * k), b.drop (n + 8192 * k))

def cutAll : List Part → List Byte → List (Part × List Byte)
  | [], _ => []
  | x :: r, b =>
    let (y, b) := x.cut b
    (x, y) :: cutAll r b

/-- The parts of an image with their bytes, those that the image holds. -/
def imageParts (b : List Byte) : List (Part × List Byte) :=
  let parts := joinParts (imageList b) (parseRecord (imageRecord b)).descs
  cutAll (parts.filter fun x => (parseImage b).flags.testBit 2 || !x.entry.isStatic) (imageSerial b)

/-- The static ranges that an image brings. -/
def imageStatics (b : List Byte) : List Byte :=
  ((imageParts b).filter fun x => x.1.entry.isStatic).flatMap (·.2)

/-- Partner image bytes are written into the held slot; once all have come and both digests match,
the image is complete and is acknowledged (R368). -/
def useImageData (s : State) (p : Nat) (m : Delivered) : State :=
  let d := s.pad p
  let k := copyParity m
  let i := addPiece (d.commit.held.getD k none) m
  let tag := m.tag
  if m.offset = 0 && s.commitSlotSize p < i.total then
    sendCopyNote s p m.source (copyWord 2 k 1 tag)
  else
    let whole := 192 ≤ i.bytes.length && i.total ≤ i.bytes.length
    let i := if whole then { i with bytes := i.bytes.take i.total } else i
    let ok := whole && digestsOk i.bytes
    let i := { i with complete := ok }
    let s := s.modPad p fun d => d.modCommit fun c => { c with
      held := putImage c.held k i
      heldStatics := if ok && (parseImage i.bytes).flags.testBit 2 then
          imageStatics i.bytes else c.heldStatics }
    if ok then sendCopyNote s p m.source (copyWord 1 k 1 tag) else s

def execImageData (s : State) : Host.Outcome State Fault Refusal := .next (withCopy 0 useImageData s)

/-- The partner has acknowledged: the home copy is complete, and the member reports (R368). The
report's message is not in the spec (log entry 24). -/
def useImageAck (s : State) (p : Nat) (m : Delivered) : State :=
  s.modPad p fun d => d.modCommit fun c =>
    if c.running.isSome && c.running == (c.home.getD (copyParity m) none).map (·.step) then
      { c with
        acked := true
        home := c.home.modify (copyParity m) fun i => i.map fun i => { i with complete := true } }
    else c

def execImageAck (s : State) : Host.Outcome State Fault Refusal := .next (withCopy 1 useImageAck s)

def execImageRefusal (s : State) : Host.Outcome State Fault Refusal :=
  .next (withCopy 2 (fun s p m => s.modPad p fun d => d.modCommit fun c =>
    if c.running.isSome && c.running == (c.home.getD (copyParity m) none).map (·.step) then
      { c with refused := true } else c) s)

/-! ### The recovery notice (R378) -/

/-- The failed ranks that a member knows: the plan names them, and the leader knows them before it has one. -/
def Recovery.lost (r : Recovery) : List Nat := if r.plan.isEmpty then r.failed else r.plan.map (·.1)

def noticeBytes (s : State) (p : Nat) (r : Recovery) (outcome flags : Nat) (lowest : Nat) : List Byte :=
  let d := s.pad p
  leBytes 4 d.job ++ leBytes 1 outcome ++ leBytes 1 flags ++ leBytes 2 0 ++ leBytes 4 r.epoch
    ++ leBytes 4 r.lost.length ++ leBytes 8 r.restoreStep ++ leBytes 8 (r.replay.getD (2 ^ 64 - 1))
    ++ leBytes 4 lowest ++ leBytes 4 r.rank ++ leBytes 8 s.now ++ leBytes 16 0

/-- The lowest failed rank; all ones where none failed (DESIGN CHOICE, log entry 24). -/
def Recovery.lowest (r : Recovery) : Nat := r.lost.foldl min 0xFFFFFFFF

/-- The flags of a notice beside [3]: no replay is verified, nothing was restored, a standby. -/
def Recovery.noticeFlags (r : Recovery) : Nat :=
  (if r.replay.isNone && !r.nothing then 1 else 0) + (if r.nothing then 2 else 0) + (if r.standby then 4 else 0)

/-- Send a notice where a queue pair is named and ready. -/
def sendNotice (s : State) (p : Nat) (b : List Byte) : State :=
  let q := (s.pad p).obj 0x9002 0
  if q != 0xFFFF && (s.qp q).ready then s.sendOn q (.notice b) else s

/-! ### The seal (R368, R369, R379) -/

/-- A recovery ends with the first sealed commit after it. -/
def endRecovery (s : State) (p : Nat) : State :=
  match (s.pad p).recovery with
  | none => s
  | some r =>
    if (s.pad p).obj 0x9001 0 != 6 then s
    else
      let us := (s.now - r.since) / 1000
      let s := if r.replay.isSome then
          sendNotice s p (noticeBytes s p r 0 (r.noticeFlags + 8) r.lowest) else s
      let s := s.logJob p 0 5
      s.modPad p fun d =>
        { (((d.setObj 0x9001 0 0).addObj 0x900A 0 1).setObj 0x900C 0 (us % 2 ^ 32)) with recovery := none }

def sealSlot (l : List (Option Image)) (k : Nat) : List (Option Image) :=
  l.map fun i => i.map fun i => if i.step = k && i.complete then { i with sealed := true } else i

/-- The commit of a member ends with these statuses. -/
def endCommit (s : State) (p : Nat) (statuses : List Nat) : State :=
  match (s.pad p).commit.flight with
  | none => s
  | some n =>
    release (s.modPad p fun d => d.modCommit fun c => { c with running := none, flight := none }) p n
      statuses []

/-- A sealed commit: the images of the step are sealed, the job step rises, the shadows apply. -/
def sealCommit (s : State) (p step : Nat) : State :=
  let d := s.pad p
  let us := (s.now - d.commit.since) / 1000
  let replay := d.replaying.isSome
  let s := s.modPad p fun d =>
    let d := ((d.setObj 0x5821 0 step).setObj 0x900E 0 (us % 2 ^ 32)).setObj 0x9005 0 step
    d.modCommit fun c =>
      if replay then c
      else { c with home := sealSlot c.home step, held := sealSlot c.held step, staticsKept := true }
  endCommit (endRecovery (applyShadows s p) p) p []

/-- The replay commit found a mismatch: every member's commit returns 0x52, the job stays where it
is, and no further attempt is made (R379). -/
def failReplay (s : State) (p lowest : Nat) : State :=
  let s := match (s.pad p).recovery with
    | some r => sendNotice s p (noticeBytes s p r 0x52 r.noticeFlags lowest)
    | none => s
  let s := s.logJob p 0x52 6
  endCommit (s.modPad p fun d => { d.addObj 0x900D 0 1 with recovery := none }) p [0x52]

/-- The seal of the commit that brings the job step to `step`, with the result that the reports
carried: 0, or the status that every member's commit returns. One that comes after the time-out is
counted. -/
def execCommitSeal (p step : Nat) (result : Nat) (lowestRank : Nat) (s : State) :
    Host.Outcome State Fault Refusal :=
  let d := s.pad p
  .next (
    if !d.present then s
    else if d.commit.running != some step then s.modPad p fun d => d.addObj 0x5843 0 1
    else if result = 0 then sealCommit s p step
    else if result = 0x52 then failReplay s p lowestRank
    else endCommit s p [result])

/-- A seal in the same cycle wins (R100, R369): it comes first in the queue. -/
def execStepCommitTimeout (p n : Nat) (s : State) : Host.Outcome State Fault Refusal :=
  let d := s.pad p
  .next (if d.commit.flight = some n && d.commit.limit != 0 then endCommit s p [0x70] else s)

end Sys2Proof.Machine
end

