-- ==== Sys2Proof/Machine/Program.lean ====
section
/-! DEFINITION. Program messages: their headers, their arrival and start, and the completion message
that ends a program (R84 to R87, R94, R338, R340). -/

namespace Sys2Proof.Machine
open Sys2Proof

/-! ### The header (R84, R85) -/

structure Header where
  type : Nat
  version : Nat
  flags : Nat
  ident : Nat
  nI : Nat
  nD : Nat
  body : Nat
  table : Nat
  entries : Nat
  mask : Nat
  bodyLen : Nat
  reserved : Bool
  deriving DecidableEq, Repr

def parseHeader (b : List Byte) : Header :=
  { type := leField b 0 2, version := leField b 2 1, flags := leField b 3 1, ident := leField b 4 4,
    nI := leField b 8 4, nD := leField b 0xC 4, body := leField b 0x10 8, table := leField b 0x18 8,
    entries := leField b 0x20 4, mask := leField b 0x24 2, bodyLen := leField b 0x28 8,
    reserved := zeroField b 0x26 2 && zeroField b 0x30 16 }

/-- Whether a message of this length with this header obeys R84 to R86. -/
def headerOk (d : Paddock) (len : Nat) (h : Header) : Bool :=
  let byRef := h.type == 2
  64 ≤ len && (h.type == 1 || byRef) && h.version == 1 && h.flags < 8 && h.reserved
    && 1 ≤ h.nI && h.nD ≤ 65535
    && (if h.flags.testBit 1 then h.table % 8 == 0 && h.entries ≤ 65520
        else h.table == 0 && h.entries == 0)
    && (h.flags.testBit 2 || h.mask == 0)
    && h.bodyLen == 64 * (h.nI + h.nD) + (if h.flags.testBit 2 then 128 else 0)
    && (if byRef then
          len == 64 && h.body % 64 == 0 && h.nI ≤ 16777216 && d.inFixed h.body h.bodyLen
        else h.body == 0 && len == 64 + h.bodyLen && len ≤ 16777216)

/-- A program as its message brings it; one with a malformed header has nothing to run. -/
def programOf (d : Paddock) (q : Nat) (b : List Byte) : Program :=
  let h := parseHeader b
  let ok := headerOk d b.length h
  { serial := d.nextSerial, qp := q, ident := h.ident, flags := h.flags,
    nI := if ok then h.nI else 0, nD := if ok then h.nD else 0,
    body := if ok && h.type == 2 then .byRef h.body else .inline (if ok then b.drop 64 else [])
    tableAddr := h.table, tableEntries := h.entries, mask := h.mask,
    pieces := max 1 (ceilDiv b.length 65536), recompute := none, active := false, next := 0,
    entered := 0, issued := 0, completed := 0, seen := []
    stop := if ok then none else some ⟨0x01, 0xFFFFFFFF, 0, 0xFFFF⟩
    waitSince := none, deferred := [], barrier := none }

/-! ### The completion message (R87) -/

def completionBytes (s : State) (p : Nat) (pr : Program) : List Byte :=
  let st := match pr.stop with | some x => x | none => ⟨worst pr.seen, 0xFFFFFFFF, 0, 0xFFFF⟩
  leBytes 4 pr.ident ++ leBytes 1 st.status ++ leBytes 1 (if pr.stop.isSome then 1 else 0)
    ++ leBytes 2 0 ++ leBytes 4 st.index ++ leBytes 2 st.opcode ++ leBytes 2 st.slot
    ++ leBytes 4 pr.issued ++ leBytes 4 pr.completed ++ leBytes 4 (seenMask pr.seen) ++ leBytes 4 0
    ++ leBytes 8 ((s.pad p).obj 0x5821 0) ++ leBytes 8 s.now ++ leBytes 16 0

/-- Send a completion message, or drop it where its queue pair is not ready (R340). -/
def sendCompletion (s : State) (p : Nat) (pr : Program) : State :=
  if (s.qp pr.qp).ready then
    (s.sendOn pr.qp (.completion (completionBytes s p pr) pr.ident)).modPad p fun d =>
      d.addObj 0xA008 0 1
  else s.modPad p fun d => d.addObj 0xA00C 0 1

/-- Count a stopped program (R108). -/
def countStop (s : State) (p : Nat) (pr : Program) : State :=
  match pr.stop with
  | some x => s.modPad p fun d => (d.addObj 0xA009 0 1).setObj 0xA00A 0 x.status
  | none => s

/-- A program leaves the paddock, and its completion message is sent. -/
def endProgram (s : State) (p : Nat) (pr : Program) : State :=
  let s := s.modPad p fun d => { d with programs := d.programs.filter fun x => x.serial != pr.serial }
  countStop (sendCompletion s p pr) p pr

/-! ### Start (R86, R94) -/

/-- Load the bound table's place and the bound registers (R85, R86). -/
def loadBounds (s : State) (p : Nat) (pr : Program) : State :=
  let s := if pr.flags.testBit 1 then
      s.modPad p fun d => (d.setObj 0xA004 0 pr.tableAddr).setObj 0xA005 0 pr.tableEntries
    else s
  if !pr.flags.testBit 2 then s
  else
    let o := 64 * (pr.nI + pr.nD)
    let b := match pr.body with
      | .inline l => sliceBytes l o 128
      | .byRef a => s.bytesAt p (a + o) 128
    (maskList 16 pr.mask).foldl (fun s i =>
      s.modPad p fun d => d.setObj 0xA003 i (leField b (8 * i) 8)) s

def Paddock.activeCount (d : Paddock) : Nat := (d.programs.filter (·.active)).length

/-- Start one waiting program: a malformed one ends at once (R85). While the device is degraded a
program that starts stops at once with 0x51 (R362). -/
def startProgram (s : State) (p : Nat) (pr : Program) : State :=
  if pr.nI = 0 then endProgram s p pr
  else
    let stop := if s.faults.degraded then some ⟨0x51, 0xFFFFFFFF, 0, 0xFFFF⟩ else pr.stop
    ((loadBounds s p pr).modPad p fun d =>
      (d.modProgram pr.serial fun x => { x with active := true, stop := stop }).lookIn).noteStop p pr.stop stop

/-- A standby runs no program and joins no group until a recovery plan names it (R370). -/
def Paddock.isStandby (d : Paddock) : Bool :=
  (d.obj 0x9009 0 >>> 32).testBit 0 && d.recovery.isNone
    && !(d.groups.toList.any fun g => g.state == .forming || g.state == .formed)

/-- A paddock in which waiting programs may start: none starts in a standby or while a recovery stops the
paddock (R370, R373). -/
def Paddock.mayStart (d : Paddock) : Bool := d.active && !d.stopped && !d.isStandby

/-- Start waiting programs in arrival order, at most 16 active at once. One waits while its queue pair holds RDMA
requests (R340; those that came after it hold it up too, DEDUCED, log entry 139). -/
def startPrograms : Nat → Nat → State → State
  | 0, _, s => s
  | n + 1, p, s =>
    match (s.pad p).programs.find? fun x => !x.active with
    | none => s
    | some pr =>
      if (s.pad p).mayStart && (s.pad p).activeCount < 16 && (s.qp pr.qp).held.isEmpty then startPrograms n p (startProgram s p pr) else s

def startAll (s : State) (p : Nat) : State := startPrograms (s.pad p).programs.length p s

/-! ### Arrival (R338) -/

/-- Issue of a program has finished: every record has issued, or it has stopped. -/
def Program.issuedAll (pr : Program) : Bool :=
  pr.stop.isSome || (pr.nI ≤ pr.next && pr.deferred.isEmpty)

/-- The 64 KiB pieces of the message area that a program still holds. -/
def Program.heldPieces (pr : Program) : Nat :=
  if pr.recompute.isSome then 0
  else if pr.active && (pr.issuedAll || (match pr.body with | .byRef _ => true | _ => false)) then 0
  else pr.pieces

def Paddock.piecesUsed (d : Paddock) : Nat := (d.programs.map Program.heldPieces).foldl (· + ·) 0

/-- Messages of a queue pair that have not started. -/
def Paddock.unstarted (d : Paddock) (q : Nat) : Nat :=
  (d.programs.filter fun x => x.qp == q && !x.active && x.recompute.isNone).length

/-- A SEND on a paddock queue pair. A queue pair that is not ready, or a port that is not up, takes
nothing (log entry 8). -/
def execProgramMessage (a : Arrival) (payload : List Byte) (s : State) :
    Host.Outcome State Fault Refusal :=
  let q := a.q
  let x := s.qp q
  let p := x.paddock
  let d := s.pad p
  .next (
    if q < 66 || 4096 ≤ q || !s.reaches q || !d.active then s
    else State.answerMark a <|
      let s := s.framesIn x.port (packets payload.length)
      if x.depth ≤ d.unstarted q
          || s.areaBlocks p / 2 < d.piecesUsed + max 1 (ceilDiv payload.length 65536) then
        (s.post q 0 1 (.rnrNak q)).addObj 0x380F x.port 1
      else
        let s := (s.ackOn q).modQp q fun x => { x with received := (x.received + 1) % 2 ^ 64 }
        startAll (s.modPad p fun d =>
          { d with programs := d.programs ++ [programOf d q payload], nextSerial := d.nextSerial + 1 }) p)

/-! ### The end of a program (R87) -/

/-- A program has ended: no instruction of it is in flight, and all of its records have issued or a
stop has ended issue. -/
def programOver (d : Paddock) (pr : Program) : Bool :=
  pr.active && pr.issuedAll && !(d.flights.any fun f => f.prog == pr.serial)

/-- In a paddock that is being deleted no completion message is sent (R347). -/
def execProgramEnd (p g : Nat) (s : State) : Host.Outcome State Fault Refusal :=
  .next (match (s.pad p).program g with
    | none => s
    | some pr =>
      if pr.recompute.isSome || !programOver (s.pad p) pr then s
      else if (s.pad p).active then startAll (endProgram s p pr) p
      else s.modPad p fun d => { d with programs := d.programs.filter fun x => x.serial != g })

end Sys2Proof.Machine
end

