-- ==== Sys2Proof/Machine/Recover.lean ====
section
/-! DEFINITION. Whole-job restart: calls, stops, reports, standbys, the plan, restore and abandonment
(R370 to R382). -/

namespace Sys2Proof.Machine
open Sys2Proof

/-! ### Recovery control messages (R382) -/

structure Control where
  kind : Nat
  status : Nat := 0
  attempt : Nat := 0
  job : Nat := 0
  epoch : Nat := 0
  suspect : Nat := 0
  sealedStep : Nat := 0
  steps : List Nat := [0, 0, 0, 0]
  plan : List (Nat × Nat) := []
  deriving DecidableEq, Repr

def Control.bytes (x : Control) : List Byte :=
  leBytes 1 x.kind ++ leBytes 1 x.status ++ leBytes 2 x.attempt ++ leBytes 4 x.job ++ leBytes 4 x.epoch
    ++ leBytes 4 x.suspect ++ leBytes 8 x.sealedStep
    ++ ((List.range 4).flatMap fun i => leBytes 8 (x.steps.getD i 0))
    ++ leBytes 4 x.plan.length ++ leBytes 4 0
    ++ x.plan.flatMap fun e => leBytes 4 e.1 ++ leBytes 4 e.2

def parseControl (b : List Byte) : Control :=
  { kind := leField b 0 1, status := leField b 1 1, attempt := leField b 2 2, job := leField b 4 4,
    epoch := leField b 8 4, suspect := leField b 0xC 4, sealedStep := leField b 0x10 8
    steps := (List.range 4).map fun i => leField b (0x18 + 8 * i) 8
    plan := (List.range (leField b 0x38 4)).map fun i =>
      (leField b (64 + 8 * i) 4, leField b (68 + 8 * i) 4) }

/-- The paddock that takes part in a job: its groups carry it, and its commit group stands. -/
def State.memberPaddock (s : State) (job : Nat) : Option Nat :=
  (List.range 8).find? fun p =>
    let d := s.pad p
    d.present && d.job == job && !(d.group d.commitSlot).members.isEmpty

/-- The paddock that stands by for a job (R370). -/
def State.standbyPaddock (s : State) (job : Nat) : Option Nat :=
  (List.range 8).find? fun p =>
    let v := (s.pad p).obj 0x9009 0
    (s.pad p).active && v % 2 ^ 32 == job && v.testBit 32

/-- Take the next recovery control message of a kind. -/
def State.takeControl (s : State) (kind : Nat) : Option (Delivered × Control × State) :=
  (s.take fun m => m.kind == 6 && leField m.payload 0 1 == kind).map fun (m, s) =>
    (m, parseControl m.payload, s)

def sendControl (s : State) (p dest : Nat) (x : Control) : State :=
  let d := s.pad p
  s.send p { type := 6, dest := dest, epoch := d.epoch, step := d.step, word := d.job % 65536 * 65536,
             payload := x.bytes }

def Paddock.modRecovery (d : Paddock) (f : Recovery → Recovery) : Paddock :=
  { d with recovery := d.recovery.map f }

/-- The fields every message of an attempt carries. -/
def controlOf (d : Paddock) (kind : Nat) : Control :=
  match d.recovery with
  | some r => { kind := kind, attempt := r.attempt, job := d.job, epoch := r.epoch }
  | none => { kind := kind, job := d.job, epoch := d.epoch }

/-- The rank of the alternate (R372). -/
def Paddock.alternate (d : Paddock) : Nat := d.commitCount / 2

/-! ### Stop (R373) -/

/-- An active program ends with 0x31 and flag [0], or with the status it stopped with; a recompute
program ends without a message. -/
def haltProgram (p : Nat) (s : State) (pr : Program) : State :=
  if !pr.active then s
  else
    let s := s.modPad p fun d => { d with programs := d.programs.filter fun x => x.serial != pr.serial }
    if pr.recompute.isSome then s
    else
      let pr := { pr with stop := match pr.stop with
        | some x => some x
        | none => some ⟨0x31, 0xFFFFFFFF, 0, 0xFFFF⟩ }
      countStop (sendCompletion s p pr) p pr

/-- A member stops its job's paddock. Issued instructions are abandoned. -/
def haltPaddock (s : State) (p : Nat) : State :=
  let s := (s.pad p).programs.foldl (haltProgram p) s
  (s.modPad p fun d =>
    { d.discardPrepared.unretainAll with
      stopped := true, flights := [], ops := [], lateWaits := [], shadows := [], readers := [],
      samples := [], batches := [], ahead := [], staged := []
      commit := { d.commit with running := none, flight := none } }).sweep p

/-- Steps of a member's slots as a report carries them. -/
def slotStep (i : Option Image) : Nat :=
  match i with
  | some i => i.step % 2 ^ 63 + (if i.complete then 2 ^ 63 else 0)
  | none => 0

def Paddock.slotSteps (d : Paddock) : List Nat := (d.commit.home ++ d.commit.held).map slotStep

/-- The highest step sealed here for the job; its start step where none is. -/
def Paddock.highest (d : Paddock) : Nat :=
  d.commit.home.foldl (fun n i => match i with
    | some i => if i.sealed && leField i.bytes 0 4 = d.job then max n i.step else n
    | none => n) d.commit.startStep

def ownReport (d : Paddock) : MemberReport :=
  { rank := d.commitRank, sealedStep := d.highest, steps := d.slotSteps }

/-! ### The restore point and the sources (R374) -/

/-- A report's slot holds a complete image of a step: slots 0 and 1 home, 2 and 3 held. -/
def MemberReport.holds (m : MemberReport) (slot step : Nat) : Bool :=
  m.steps.getD slot 0 == step % 2 ^ 63 + 2 ^ 63

/-- A rank's image of a step stands complete at a live source. -/
def sourceLive (n : Nat) (reports : List MemberReport) (step r : Nat) : Bool :=
  match reports.find? fun m => m.rank == partnerOf n r with
  | some m => m.holds (2 + step % 2) step
  | none => (reports.find? fun m => m.rank == r).any fun m => m.holds (step % 2) step

/-- The steps whose images a restore needs. -/
def neededSteps (s0 k : Nat) : List Nat :=
  if k = s0 then [] else if k = s0 + 1 then [k] else [k - 1, k]

/-! ### The plan (R375) -/

/-- The standby list of a paddock (object 0x9008). -/
def standbyList (s : State) (p : Nat) : List Nat :=
  let v := (s.pad p).obj 0x9008 0
  let a := v % 2 ^ 64
  (List.range ((v >>> 64) % 2 ^ 32)).map fun i => leNat (s.bytesAt p (a + 4 * i) 4) % 2 ^ 18

/-- Give the attempt up for good (R374, R375, R380). -/
def giveUp (s : State) (p status : Nat) : State :=
  s.modPad p fun d => d.modRecovery fun r => { r with abandon := some status }

/-- The next address of the list that is no member and not yet in the plan, from a cursor on. -/
def nextStandby (d : Paddock) (r : Recovery) (l : List Nat) : Nat → Nat → Option (Nat × Nat)
  | 0, _ => none
  | n + 1, i =>
    match l[i]? with
    | none => none
    | some a =>
      if (d.group d.commitSlot).members.contains a || r.plan.any fun e => e.2 == a then
        nextStandby d r l n (i + 1)
      else some (i, a)

/-- Group members with every failed address replaced. -/
def replaced (plan : List (Nat × Nat)) (old new : List Nat) (a : Nat) : Nat :=
  match (old.zip new).find? fun e => e.1 == a with
  | some e => if plan.isEmpty then a else e.2
  | none => a

/-- A definition with the epoch and start step of a plan. -/
def replannedDefinition (b : List Byte) (epoch step : Nat) : List Byte :=
  b.take 0xC ++ leBytes 4 epoch ++ leBytes 8 step ++ b.drop 0x18

/-- Form a group again under a plan, as R310 states. -/
def reform (s : State) (p slot : Nat) (definition : List Byte) (members : List Nat) : State :=
  let s := s.forgetFlows slot members
  let s := s.modPad p fun d => (d.dropPairs slot).setGroup slot {
    d.group slot with
    definition := definition, members := members, state := .forming, verdict := 0, issued := 0
    lowest := 0xFFFFFFFF, reports := [], timedOut := [] }
  let digest := configDigest s p slot members
  let s := s.modPad p fun d => d.setGroup slot { d.group slot with
    digest := digest
    invite := if (d.group slot).rank = 0 then
        some { generation := s.obj 0x6000 0, firmware := s.firmwareVersion, epoch := d.epoch,
               step := d.step, digest := digest }
      else (d.group slot).invite }
  useInvite s p slot

/-- The source of a rank's image: the partner's held slot, or its own home slot where the partner is
among the failed. Ask the partner for it. -/
def askImage (s : State) (p step : Nat) (r : Recovery) (members : List Nat) : State :=
  let n := members.length
  let q := partnerOf n r.rank
  if q = r.rank || r.plan.any fun e => e.1 == q then s
  else sendCopyNote s p (members.getD q 0) (copyWord 3 (step % 2) 1 ((s.pad p).job % 65536))

/-- An image with what a puller needs beside it: the kept static ranges. -/
def pullStream (i : Image) (statics : List Byte) : List Byte :=
  i.bytes ++ leBytes 8 statics.length ++ statics

/-- Push the complete images of a pair of slots to a device, into its home (0) or held (1) slots. -/
def pushImages (s : State) (p dest cls : Nat) (l : List (Option Image)) (statics : List Byte) : State :=
  (List.range 2).foldl (fun s k =>
    match l.getD k none with
    | some i =>
      if i.complete then
        sendCopy s p dest (copyWord 4 k cls ((s.pad p).job % 65536)) (pullStream i statics)
      else s
    | none => s) s

/-- A standby is sent its images by those that hold them, for a plan does not name its partner
(DEDUCED, log entry 25): the images of the rank it takes, from that rank's partner's held slots; and
those that the rank held, from the home slots they copy. -/
def refillStandbys (s : State) (p : Nat) (r : Recovery) (members : List Nat) : State :=
  let c := (s.pad p).commit
  let n := members.length
  let took := fun (q : Nat) => q != r.rank && r.plan.any fun e => e.1 == q
  let w := wardOf n r.rank
  let q := partnerOf n r.rank
  let s := if took w then pushImages s p (members.getD w 0) 0 c.held c.heldStatics else s
  if took q then pushImages s p (members.getD q 0) 1 c.home c.ownStatics else s

/-- The steps that a plan names: the restore step, the step to replay, and whether nothing is
restored. `k` is the highest sealed step. -/
def planSteps (k restore : Nat) (s0 : Option Nat) : Option Nat × Bool :=
  (if restore < k then some k else none, s0 == some k)

/-- A member, or a standby that takes a place, puts a plan in force. -/
def takePlan (s : State) (p : Nat) (x : Control) : State :=
  let d := s.pad p
  match d.recovery with
  | none => s
  | some r =>
    let restore := x.steps.getD 0 0
    let (replay, nothing) := planSteps x.sealedStep restore (if r.standby then none else some d.commit.startStep)
    let old := (d.group d.commitSlot).members
    let new := old.zipIdx.map fun (a, i) => match x.plan.find? fun e => e.1 == i with
      | some e => e.2
      | none => a
    let r := { r with
      epoch := x.epoch, attempt := x.attempt, plan := x.plan, fixed := true, restoreStep := restore
      failed := x.plan.map (·.1), replay := replay, nothing := nothing, restoring := true, restored := [] }
    let s := s.modPad p fun d =>
      (((({ d with recovery := some r }.setObj 0x9001 0 3).setObj 0x5820 0 x.epoch).setObj 0x5821 0
        restore).setObj 0x5822 0 x.job).modCommit fun c => { c with staticsKept := false }
    if r.standby then s
    else
      let s := (List.range 16).foldl (fun s k =>
        let g := (s.pad p).group k
        if g.standing && g.job == x.job then
          reform s p k (replannedDefinition g.definition x.epoch restore)
            (g.members.map (replaced x.plan old new))
        else s) s
      if nothing then s
      else
        let s := refillStandbys s p r new
        let s := askImage s p restore r new
        match replay with
        | some k =>
          if (d.commit.home.getD (k % 2) none).any fun i => i.step == k && i.complete then s
          else askImage s p k r new
        | none => s

/-- Send the plan to every member and standby, and follow it. -/
def sendPlan (s : State) (p : Nat) : State :=
  let d := s.pad p
  match d.recovery with
  | none => s
  | some r =>
    let x := { controlOf d 4 with
      sealedStep := (r.reports.map (·.sealedStep)).foldl max 0, steps := [r.restoreStep], plan := r.plan }
    let dests := (List.range d.commitCount).filterMap fun i =>
      if i = r.rank then none
      else match r.plan.find? fun e => e.1 == i with
        | some e => some e.2
        | none => some (d.commitAddr i)
    takePlan (dests.foldl (fun s a => sendControl s p a x) s) p x

/-- Find a place for the next failed rank, or send the plan when every one has its standby. -/
def goPlan (s : State) (p : Nat) : State :=
  let d := s.pad p
  match d.recovery with
  | none => s
  | some r =>
    if r.plan.length = r.failed.length then sendPlan s p
    else
      let l := standbyList s p
      match nextStandby d r l l.length r.cursor with
      | none => giveUp s p 0x51
      | some (i, a) =>
        sendControl (s.modPad p fun d => d.modRecovery fun r => { r with cursor := i + 1, probing := some a })
          p a { controlOf d 6 with kind := 6 }

/-- The failed set is fixed: set the restore point, and look for standbys. -/
def fixFailed (s : State) (p : Nat) : State :=
  let d := s.pad p
  match d.recovery with
  | none => s
  | some r =>
    let n := d.commitCount
    let failed := (List.range n).filter fun i => !(r.reports.any fun m => m.rank == i)
    let s0 := d.commit.startStep
    let k := (r.reports.map (·.sealedStep)).foldl max s0
    let steps := neededSteps s0 k
    let s := s.modPad p fun d => d.modRecovery fun r => { r with
      fixed := true, failed := failed, restoreStep := steps.headD s0, cursor := 0, plan := [] }
    if steps.all fun st => (List.range n).all (sourceLive n r.reports st) then goPlan s p else giveUp s p 0x51

/-! ### Leading (R372, R373) -/

/-- Every member has reported. -/
def allReported (d : Paddock) (r : Recovery) : Bool :=
  (List.range d.commitCount).all fun i => r.reports.any fun m => m.rank == i

def addMember (s : State) (p : Nat) (m : MemberReport) : State :=
  let s := s.modPad p fun d => d.modRecovery fun r =>
    if r.reports.any fun x => x.rank == m.rank then r else { r with reports := r.reports ++ [m] }
  match (s.pad p).recovery with
  | some r => if r.leading && !r.fixed && allReported (s.pad p) r then fixFailed s p else s
  | none => s

/-- Lead the attempt: rank 0 sends the stop down the formation tree; the alternate, whose tree has
lost its root, sends it to each member (DEDUCED, log entry 25). -/
def lead (s : State) (p : Nat) : State :=
  let d := s.pad p
  let me := d.commitRank
  let dests := if me = 0 then childRanks d.commitCount 0
    else (List.range d.commitCount).filter fun i => i != me && i != 0
  let s := haltPaddock (s.modPad p fun d =>
    (d.modRecovery fun r => { r with leading := true }).setObj 0x9001 0 2) p
  let s := dests.foldl (fun s i => sendControl s p (d.commitAddr i) (controlOf (s.pad p) 2)) s
  addMember s p (ownReport (s.pad p))

/-- A message of an attempt later than the one under way here starts that attempt (R371). -/
def joinAttempt (s : State) (p : Nat) (x : Control) (suspect : Nat) : State :=
  let d := s.pad p
  let fresh := Recovery.start x.attempt x.epoch x.status suspect s.now d.commitRank
  match d.recovery with
  | none =>
    if d.epoch < x.epoch then
      (s.setPad p ({ d with recovery := some fresh }.setObj 0x9001 0 1)).logJob p x.status 4
    else s
  | some r =>
    if r.epoch < x.epoch then
      s.setPad p ({ d with recovery := some { fresh with since := r.since } }.setObj 0x9001 0 1)
    else s

/-- A call that has come for a member. A degraded device, which counts as failed (R362), neither leads nor
probes. -/
def useCall (s : State) (p : Nat) (x : Control) : State :=
  let s := joinAttempt s p x x.suspect
  let d := s.pad p
  match d.recovery with
  | none => s
  | some r =>
    if r.leading || s.faults.degraded then s
    else if d.commitRank = 0 then lead s p
    else if d.commitRank = d.alternate && r.called = 0 then
      (sendControl s p (d.commitAddr 0) { controlOf d 1 with status := r.trigger, suspect := r.suspect }).modPad p
        fun d => d.modRecovery fun r => { r with called := 1 }
    else s

/-- This member's own call: to the leader, then, where no stop has come, to the alternate. A degraded device
leads no attempt: at rank 0 it calls the alternate (R362). -/
def placeCall (s : State) (p : Nat) : State :=
  let d := s.pad p
  match d.recovery with
  | none => s
  | some r =>
    let x := { controlOf d 1 with status := r.trigger, suspect := r.suspect }
    let mark := fun (s : State) (n : Nat) => s.modPad p fun d => d.modRecovery fun r => { r with called := n }
    if r.leading || r.restoring || r.abandon.isSome then s
    else if d.commitRank = 0 then
      if !s.faults.degraded then lead s p
      else if r.called = 2 || d.alternate = 0 then s
      else mark (sendControl s p (d.commitAddr d.alternate) x) 2
    else if r.called = 0 then mark (sendControl s p (d.commitAddr 0) x) 1
    else if d.stopped then s
    else if d.commitRank = d.alternate then if s.faults.degraded then s else lead s p
    else if r.called = 1 then mark (sendControl s p (d.commitAddr d.alternate) x) 2
    else s

/-- A call: one that has come is taken first; otherwise the paddock places its own. -/
def execRecoveryCall (p : Nat) (s : State) : Host.Outcome State Fault Refusal :=
  .next (
    if !(s.pad p).present then s
    else match s.take fun m => m.kind == 6 && leField m.payload 0 1 == 1
        && leField m.payload 4 4 == (s.pad p).job with
      | some (m, t) => useCall t p (parseControl m.payload)
      | none => placeCall s p)

/-- A stop: it is passed on down the tree, obeyed, and answered to the leader, and to the alternate
where it came from there. A degraded device does not answer, and so counts as failed (R362, R373). -/
def useStop (s : State) (p : Nat) (m : Delivered) (x : Control) : State :=
  let s := joinAttempt s p x 0
  let d := s.pad p
  match d.recovery with
  | none => s
  | some r =>
    if r.epoch != x.epoch || r.leading then s
    else
      let s := haltPaddock s p
      let s := (childRanks d.commitCount d.commitRank).foldl (fun s i =>
        sendControl s p (d.commitAddr i) x) s
      if s.faults.degraded then s else
      let me := ownReport (s.pad p)
      let y := { controlOf (s.pad p) 3 with sealedStep := me.sealedStep, steps := me.steps }
      let s := sendControl s p (d.commitAddr 0) y
      if m.source = d.commitAddr d.alternate && d.alternate != 0 then
        sendControl s p (d.commitAddr d.alternate) y
      else s

def execRecoveryStop (s : State) : Host.Outcome State Fault Refusal :=
  .next (match s.takeControl 2 with
    | none => s
    | some (m, x, t) =>
      match t.memberPaddock x.job with
      | some p => if (t.pad p).obj 0x9000 0 = 1 then useStop t p m x else t
      | none => t)

/-- A report at the leader; its rank is that of the address it came from. -/
def execRecoveryReport (s : State) : Host.Outcome State Fault Refusal :=
  .next (match s.takeControl 3 with
    | none => s
    | some (m, x, t) =>
      match t.memberPaddock x.job with
      | none => t
      | some p =>
        let d := t.pad p
        match d.recovery, (d.group d.commitSlot).members.findIdx? fun a => a == m.source with
        | some r, some i =>
          if r.leading && !r.fixed && r.epoch == x.epoch then
            addMember t p { rank := i, sealedStep := x.sealedStep, steps := x.steps }
          else t
        | _, _ => t)

/-- The probe time-out ends: silent members are failed; a silent standby is passed over. -/
def execProbeTimeout (p : Nat) (s : State) : Host.Outcome State Fault Refusal :=
  .next (match (s.pad p).recovery with
    | none => s
    | some r =>
      if !r.leading || r.restoring || r.abandon.isSome then s
      else if !r.fixed then fixFailed s p
      else if r.probing.isSome then
        goPlan (s.modPad p fun d => d.modRecovery fun r => { r with probing := none }) p
      else s)

/-! ### Standbys (R370) -/

def execStandbyProbe (s : State) : Host.Outcome State Fault Refusal :=
  .next (match s.takeControl 6 with
    | none => s
    | some (m, x, t) =>
      match t.standbyPaddock x.job with
      | some p => sendControl t p m.source { x with kind := 7 }
      | none => t)

/-- Whether a standby that answers is usable turns on its firmware, generation, quota and flash, which
an answer does not carry: a free value (log entry 26). -/
def execStandbyAnswer (s : State) : Host.Outcome State Fault Refusal :=
  .next (match s.takeControl 7 with
    | none => s
    | some (m, x, t) =>
      match t.memberPaddock x.job with
      | none => t
      | some p =>
        match (t.pad p).recovery with
        | none => t
        | some r =>
          if r.probing != some m.source || !r.leading || r.restoring then t
          else
            let (w, t) := t.draw
            goPlan (t.modPad p fun d => d.modRecovery fun r => { r with
              probing := none
              plan := if w % 2 = 1 then r.plan ++ [(r.failed.getD r.plan.length 0, m.source)] else r.plan }) p)

/-! ### The plan at a member -/

/-- A member follows the first plan of a new epoch from rank 0, and the alternate's only where that
plan names rank 0 as failed (R372). -/
def mayFollow (d : Paddock) (m : Delivered) (x : Control) : Bool :=
  d.epoch < x.epoch &&
    (m.source == d.commitAddr 0
      || (m.source == d.commitAddr d.alternate && x.plan.any fun e => e.1 == 0))

/-- A standby that a plan names takes its rank. -/
def joinAsStandby (s : State) (p : Nat) (x : Control) (rank : Nat) : State :=
  let r := { Recovery.start x.attempt x.epoch 0 0 s.now rank with standby := true }
  takePlan (s.modPad p fun d => { d with recovery := some r, stopped := true }) p x

def execRecoveryPlan (s : State) : Host.Outcome State Fault Refusal :=
  .next (match s.takeControl 4 with
    | none => s
    | some (m, x, t) =>
      match t.memberPaddock x.job with
      | some p =>
        if mayFollow (t.pad p) m x && !(x.plan.any fun e => t.address == (t.pad p).commitAddr e.1) then
          let t := joinAttempt t p x 0
          takePlan (if (t.pad p).stopped then t else haltPaddock t p) p x
        else t
      | none =>
        match t.standbyPaddock x.job, x.plan.find? fun e => e.2 == t.address with
        | some p, some e =>
          if (t.pad p).recovery.isNone || (t.pad p).epoch < x.epoch then joinAsStandby t p x e.1 else t
        | _, _ => t)

/-! ### Pulling images (R376, R381) -/

/-- A member that is asked for an image sends it, into the asker's home slot. -/
def usePullRequest (s : State) (p : Nat) (m : Delivered) : State :=
  let c := (s.pad p).commit
  let k := copyParity m
  let held := copyClass m = 1
  match (if held then c.held else c.home).getD k none with
  | some i =>
    if i.complete then
      sendCopy s p m.source (copyWord 4 k 0 m.tag)
        (pullStream i (if held then c.heldStatics else c.ownStatics))
    else s
  | none => s

def execPullRequest (s : State) : Host.Outcome State Fault Refusal := .next (withCopy 3 usePullRequest s)

/-- The paddock that a pulled piece is for: a member's, or that of a standby which takes a place. -/
def pullPaddock (s : State) (tag : Nat) : Option Nat :=
  (List.range 8).find? fun p =>
    (s.pad p).recovery.any fun r => r.restoring && (s.pad p).job % 65536 == tag

/-- Pulled bytes land in the slot their operation word names. An image whose digests do not match
stops the attempt with 0x52. -/
def usePullData (s : State) (p : Nat) (m : Delivered) : State :=
  let c := (s.pad p).commit
  let k := copyParity m
  let home := copyClass m = 0
  let i := addPiece ((if home then c.home else c.held).getD k none) m
  let n := i.total
  let extra := leField i.bytes n 8
  let whole := 192 ≤ i.bytes.length && n + 8 ≤ i.bytes.length && n + 8 + extra ≤ i.bytes.length
  let put := fun (s : State) (i : Image) => s.modPad p fun d => d.modCommit fun c =>
    if home then { c with home := putImage c.home k i } else { c with held := putImage c.held k i }
  if !whole then put s i
  else
    let b := i.bytes.take n
    let statics := sliceBytes i.bytes (n + 8) extra
    if digestsOk b then
      (put s { i with bytes := b, complete := true, sealed := true }).modPad p fun d => d.modCommit fun c =>
        if home then { c with ownStatics := statics } else { c with heldStatics := statics }
    else (put s i).detect p 0x52 (some m.source)

def execPullData (s : State) : Host.Outcome State Fault Refusal :=
  .next (match s.take fun m => m.kind == 5 && copyKind m == 4 with
    | none => s
    | some (m, t) =>
      match pullPaddock t m.tag with
      | some p => usePullData t p m
      | none => t)

/-! ### Restore (R376, R377) -/

/-- Write the objects of a job record: the values it lacks return to their defaults. -/
def restoreObjs (d : Paddock) (l : List (Nat × Nat)) : Paddock :=
  l.foldl (fun d e => { d with objs := objPut d.objs e.1 e.2 })
    { d with objs := d.objs.filter fun e => !inJobRecord e.1 }

def sameAlloc (a b : Alloc) : Bool := a.base == b.base && a.len == b.len && a.kind == b.kind

/-- Release the allocations that a job record lacks, and create those it holds. -/
def restoreAllocs (d : Paddock) (us : Nat) (l : List (Nat × Alloc)) : Paddock :=
  let d := d.allocs.foldl (fun d e =>
    if l.any fun x => x.1 == e.1 && sameAlloc x.2 e.2 && !e.2.releasing then d else d.free e.1) d
  l.foldl (fun d x =>
    match d.alloc x.1 with
    | some _ => d.modAlloc x.1 fun a => { a with
        flags := x.2.flags, recI := x.2.recI, recAddr := x.2.recAddr, recD := x.2.recD, recCost := x.2.recCost }
    | none => d.create x.1 us { x.2 with lastAccess := 0 }) d

def setAt {α : Type} (n : Nat) (l : List (Nat × α)) : List (Option α) :=
  (List.range n).map fun i => (l.find? fun e => e.1 == i).map (·.2)

/-- The fallback swaths of a restored tensor take new slots; without a free one its T becomes 0xFF
(R73). -/
def restoreSwaths (s : State) (p : Nat) (t : Tensor) (codes : List Byte) : State :=
  let ns := fallbackSwaths t fun k => readLe (s.byteAt p) (t.wordAddr k) 8
  ns.zipIdx.foldl (fun s (k, i) =>
    let d := s.pad p
    match freeSlot (d.obj 0x6040 0) d.fallback with
    | some n =>
      (s.writeBytes p (placeAt (t.wordAddr k + 4) (leBytes 4 n))).modPad p fun d =>
        let f : Fallback := { slot := n, word := t.wordAddr k
                              codes := (List.range 4096).map fun j => leField codes (8192 * i + 2 * j) 2 }
        { d with fallback := d.fallback ++ [f] }.raisePeak (d.fallback.length + 1)
    | none => s.writeBytes p [(t.recordBase, 0xFF#8)]) s

/-- Write one part of a serialisation back. -/
def restorePart (p : Nat) (s : State) (x : Part × List Byte) : State :=
  match x.1.tensor with
  | none => plainWrite s p (placeAt x.1.entry.addr x.2)
  | some t =>
    let arr := x.2.toArray
    let n := t.footprintIn fun a => arr[a - t.addr]?.getD 0
    restoreSwaths (plainWrite s p (placeAt t.addr (x.2.take n))) p t (x.2.drop n)

/-- The parts to write back: those of the image, and the kept static ranges where it lacks them. -/
def restoreParts (b statics : List Byte) : List (Part × List Byte) :=
  let kept :=
    if (parseImage b).flags.testBit 2 then []
    else
      let parts := joinParts (imageList b) (parseRecord (imageRecord b)).descs
      cutAll (parts.filter fun x => x.entry.isStatic) statics
  imageParts b ++ kept

/-- The groups of a standby come from the job record, with the plan's addresses, epoch and step. -/
def standbyGroups (s : State) (p : Nat) (r : Recovery) (jr : JobRecord) : State :=
  let old := match jr.groups.find? fun g => g.slot == jr.slot with | some g => g.members | none => []
  let new := old.zipIdx.map fun (a, i) => match r.plan.find? fun e => e.1 == i with
    | some e => e.2
    | none => a
  let s := s.modPad p fun d => d.modCommit fun c =>
    { c with group := some jr.slot, startStep := jr.startStep }
  (jr.groups.filter fun g => !g.members.isEmpty).foldl (fun s g =>
    reform s p g.slot (replannedDefinition g.definition r.epoch r.restoreStep)
      (g.members.map (replaced r.plan old new))) s

/-- The definition of a slot that held no formed group comes back where the slot takes one (R307, R365, R376). -/
def restoreDefinition (d : Paddock) (g : JobGroup) : Paddock :=
  let x := d.group g.slot
  if g.members.isEmpty && x.definable && x.definition != g.definition then
    d.setGroup g.slot { x with state := .defined, definition := g.definition }
  else d

/-- Apply an image: the job record, the ranges, and zeros in the bound registers and the event
counters. -/
def applyImage (s : State) (p : Nat) (r : Recovery) (b : List Byte) : State :=
  let jr := parseRecord (imageRecord b)
  let statics := (s.pad p).commit.ownStatics
  let s := s.modPad p fun d =>
    let d := restoreAllocs (restoreObjs d jr.objs) s.nowUs jr.allocs
    let d := jr.groups.foldl restoreDefinition d
    { d with retainedOn := d.obj 0x4031 0 = 1, codebooks := setAt 4 jr.codebooks, dicts := setAt 2 jr.dicts }
  let s := (restoreParts b statics).foldl (restorePart p) s
  let s := s.modPad p fun d => { d with
    objs := d.objs.filter fun e => e.1 / 256 != 0xA002 && e.1 / 256 != 0xA003 }
  if r.standby then standbyGroups s p r jr else s

/-- Restore has ended here: the paddock awaits the replay, and its host is told. -/
def endRestore (s : State) (p : Nat) (r : Recovery) : State :=
  let s := s.modPad p fun d => { d with stopped := false }.setObj 0x9001 0 5
  startAll (sendNotice s p (noticeBytes s p r 0 r.noticeFlags r.lowest)) p

/-- No group of the paddock is still forming. -/
def Paddock.settled (d : Paddock) : Bool := d.groups.toList.all fun g => g.state != .forming

/-- Restore runs once the image of the restore step, and that of the step to replay, stand here; it
ends when the groups of the plan have formed as well (R376 to R378). -/
def execRestoreComplete (p : Nat) (s : State) : Host.Outcome State Fault Refusal :=
  .next (match (s.pad p).recovery with
    | none => s
    | some r =>
      let c := (s.pad p).commit
      let image := fun (k : Nat) => (c.home.getD (k % 2) none).filter fun i => i.step == k && i.complete
      let ready := r.replay.all fun k => (image k).isSome
      let tell := fun (s : State) =>
        let d := s.pad p
        if r.leading || r.rank = 0 then s else sendControl s p (d.commitAddr 0) (controlOf d 5)
      let finish := fun (s : State) =>
        if (s.pad p).settled then endRestore s p r else s
      if !r.restoring || (s.pad p).obj 0x9001 0 = 5 then s
      else if r.restored.contains r.rank then finish s
      else
        let mark := fun (s : State) => s.modPad p fun d =>
          (d.modRecovery fun r => { r with restored := r.restored ++ [r.rank] }).setObj 0x9001 0 4
        if r.nothing then finish (tell (mark s))
        else match image r.restoreStep with
          | some i => if ready then finish (tell (mark (applyImage s p r i.bytes))) else s
          | none => s)

/-- The leader notes a member's completed restore. -/
def execRecoveryRestored (s : State) : Host.Outcome State Fault Refusal :=
  .next (match s.takeControl 5 with
    | none => s
    | some (m, x, t) =>
      match t.memberPaddock x.job with
      | none => t
      | some p =>
        let d := t.pad p
        match (d.group d.commitSlot).members.findIdx? fun a => a == m.source with
        | some i => t.modPad p fun d => d.modRecovery fun r =>
            if r.restored.contains i then r else { r with restored := r.restored ++ [i] }
        | none => t)

/-! ### Abandonment (R380) -/

/-- Every group of the job is dissolved without messages. -/
def dissolveAll (d : Paddock) : Paddock :=
  (List.range 16).foldl (fun d k =>
    if (d.group k).standing || (d.group k).state == .dissolving then
      d.setGroup k { d.group k with state := .dissolved }
    else d) d

def abandonJob (s : State) (p status : Nat) : State :=
  let d := s.pad p
  let r := d.recovery.getD (Recovery.start 0 d.epoch 0 0 s.now d.commitRank)
  let s := if r.leading then
      (List.range d.commitCount).foldl (fun s i =>
        if i = d.commitRank then s
        else sendControl s p (d.commitAddr i) { controlOf d 8 with status := status }) s
    else s
  let s := sendNotice s p (noticeBytes s p r status (if r.standby then 4 else 0) r.lowest)
  let s := s.logJob p status 6
  startAll (s.modPad p fun d =>
    { ((dissolveAll d).setObj 0x9001 0 7).addObj 0x900B 0 1 with recovery := none, stopped := false }) p

/-- An abandoned job: an abandon message that has come for the paddock's job, or the leader's own
decision. -/
def execRecoveryAbandon (p : Nat) (s : State) : Host.Outcome State Fault Refusal :=
  .next (
    if !(s.pad p).present then s
    else match s.take fun m => m.kind == 6 && leField m.payload 0 1 == 8
        && leField m.payload 4 4 == (s.pad p).job with
      | some (m, t) =>
        if (t.pad p).recovery.isSome then abandonJob (if (t.pad p).stopped then t else haltPaddock t p) p
            (leField m.payload 1 1)
        else t
      | none =>
        match (s.pad p).recovery with
        | some r =>
          match r.abandon with
          | some st => abandonJob (if (s.pad p).stopped then s else haltPaddock s p) p st
          | none => s
        | none => s)

end Sys2Proof.Machine
end

