-- ==== Sys2Proof/Machine/Av1.lean ====
section
/-! DEFINITION. What the Drill reads of an AV1 stream before and while it decodes: OBU headers, the sequence header,
and of each frame header the part up to the frame's size (R249, R255, R256, R259). The spec takes the syntax of AV1 as
given; it is here as the AV1 bitstream specification has it (PRESUMED, log entry 127). -/

namespace Sys2Proof.Machine
open Sys2Proof

/-! ### Bits -/

/-- A reader of bits from a position; nothing where the bytes end. -/
abbrev BitReader (α : Type) := StateT Nat Option α

/-- `f(n)`: n bits, the most significant first. -/
def takeBits (b : List Byte) (n : Nat) : BitReader Nat := fun i =>
  if i + n ≤ 8 * b.length then
    some ((List.range n).foldl (fun a k =>
      2 * a + (if (b.getD ((i + k) / 8) 0).toNat.testBit (7 - (i + k) % 8) then 1 else 0)) 0, i + n)
  else none

/-- One bit as a flag. -/
def takeFlag (b : List Byte) : BitReader Bool := do
  let x ← takeBits b 1
  return x == 1

/-- Bits that are there only under a condition. -/
def takeIf (c : Bool) (b : List Byte) (n : Nat) : BitReader Nat := if c then takeBits b n else pure 0

/-- `uvlc()`, given the zeros read so far. -/
def takeUvlc (b : List Byte) : Nat → Nat → BitReader Nat
  | 0, _ => pure (2 ^ 32 - 1)
  | k + 1, zeros => do
    if ← takeFlag b then
      let x ← takeBits b zeros
      return x + 2 ^ zeros - 1
    else takeUvlc b k (zeros + 1)

/-- `leb128()`: the value and the bytes it takes. -/
def leb128 (b : List Byte) : Option (Nat × Nat) :=
  let n := ((b.take 8).takeWhile fun x => x.toNat.testBit 7).length
  if n < 8 && n < b.length then
    some ((List.range (n + 1)).foldl (fun a i => a + ((b.getD i 0).toNat % 128) * 2 ^ (7 * i)) 0, n + 1)
  else none

/-! ### OBUs -/

structure Obu where
  type : Nat
  extended : Bool
  temporal : Nat
  spatial : Nat
  payload : List Byte
  deriving DecidableEq, Repr

/-- The OBU at the head of a stream and the rest; nothing where it does not parse. -/
def takeObu (b : List Byte) : Option (Obu × List Byte) :=
  let h := (b.getD 0 0).toNat
  let ext := h.testBit 2
  let skip := if ext then 2 else 1
  if b.length < skip || h.testBit 7 || !h.testBit 1 then none
  else match leb128 (b.drop skip) with
    | none => none
    | some (n, k) =>
      let body := b.drop (skip + k)
      if body.length < n then none
      else
        let e := if ext then (b.getD 1 0).toNat else 0
        some ({ type := bitField h 6 3, extended := ext, temporal := bitField e 7 5, spatial := bitField e 4 3
                payload := body.take n }, body.drop n)

/-- The OBUs of a stream, and whether every byte belongs to one. -/
def obusOf : Nat → List Byte → List Obu × Bool
  | 0, b => ([], b.isEmpty)
  | k + 1, b =>
    if b.isEmpty then ([], true)
    else match takeObu b with
      | none => ([], false)
      | some (o, r) =>
        let (l, ok) := obusOf k r
        (o :: l, ok)

/-! ### The sequence header -/

/-- What later headers and the Drill need of a sequence header. -/
structure SeqHeader where
  profile : Nat
  reduced : Bool
  /-- Per operating point: idc, level, and whether it has a decoder model. -/
  points : List (Nat × Nat × Bool)
  /-- Lengths of a buffer removal time and of a presentation time, with a decoder model. -/
  model : Option (Nat × Nat)
  equalInterval : Bool
  widthBits : Nat
  heightBits : Nat
  width : Nat
  height : Nat
  /-- Lengths of a frame identifier and of a difference of two. -/
  ids : Option (Nat × Nat)
  orderBits : Nat
  screenTools : Nat
  integerMv : Nat
  superres : Bool
  depth : Nat
  mono : Bool
  matrix : Nat
  full : Bool
  subsampled : Bool × Bool
  deriving DecidableEq, Repr

/-- The operating points: `model` is the length of a buffer delay where there is a decoder model. -/
def takePoints (b : List Byte) (delay : Option Nat) (display : Bool) : Nat → BitReader (List (Nat × Nat × Bool))
  | 0 => pure []
  | k + 1 => do
    let idc ← takeBits b 12
    let level ← takeBits b 5
    let _ ← takeIf (7 < level) b 1
    let has ← takeIf delay.isSome b 1
    let _ ← takeIf (has == 1) b (2 * delay.getD 0 + 1)
    let shows ← takeIf display b 1
    let _ ← takeIf (shows == 1) b 4
    let r ← takePoints b delay display k
    return (idc, level, has == 1) :: r

/-- `color_config()`: depth, mono, matrix, range, subsampling. -/
def takeColour (b : List Byte) (profile : Nat) : BitReader (Nat × Bool × Nat × Bool × Bool × Bool) := do
  let high ← takeFlag b
  let twelve ← takeIf (profile == 2 && high) b 1
  let depth := if twelve = 1 then 12 else if high then 10 else 8
  let mono ← takeIf (profile != 1) b 1
  let described ← takeFlag b
  let primaries ← takeIf described b 8
  let transfer ← takeIf described b 8
  let matrix ← takeIf described b 8
  let matrix := if described then matrix else 2
  if mono = 1 then
    let full ← takeFlag b
    return (depth, true, matrix, full, true, true)
  else if described && primaries = 1 && transfer = 13 && matrix = 0 then
    return (depth, false, matrix, true, false, false)
  else
    let full ← takeFlag b
    if profile = 0 then return (depth, false, matrix, full, true, true)
    else if profile = 1 then return (depth, false, matrix, full, false, false)
    else if depth = 12 then
      let x ← takeFlag b
      let y ← takeIf x b 1
      return (depth, false, matrix, full, x, y == 1)
    else return (depth, false, matrix, full, true, false)

/-- `timing_info()` and `decoder_model_info()`: equal intervals; the lengths of a delay, of a removal time and of a
presentation time. -/
def takeTiming (b : List Byte) : BitReader (Bool × Option (Nat × Nat × Nat)) := do
  let _ ← takeBits b 64
  let equal ← takeFlag b
  let _ ← if equal then takeUvlc b 32 0 else pure 0
  let has ← takeFlag b
  if has then
    let delay ← takeBits b 5
    let _ ← takeBits b 32
    let removal ← takeBits b 5
    let present ← takeBits b 5
    return (equal, some (delay + 1, removal + 1, present + 1))
  else return (equal, none)

/-- The tools between the frame identifiers and the colour configuration: order-hint bits, screen content tools,
integer motion vectors; 2 stands for a choice per frame. -/
def takeTools (b : List Byte) : BitReader (Nat × Nat × Nat) := do
  let _ ← takeBits b 4
  let order ← takeFlag b
  let _ ← takeIf order b 2
  let choose ← takeFlag b
  let force ← takeIf (!choose) b 1
  let screen := if choose then 2 else force
  let chooseMv ← takeIf (0 < screen) b 1
  let forceMv ← takeIf (0 < screen && chooseMv == 0) b 1
  let mv := if screen = 0 || chooseMv = 1 then 2 else forceMv
  let bits ← takeIf order b 3
  return (if order then bits + 1 else 0, screen, mv)

/-- `sequence_header_obu()`. -/
def takeSeq (b : List Byte) : BitReader SeqHeader := do
  let profile ← takeBits b 3
  let _ ← takeBits b 1
  let reduced ← takeFlag b
  let timed ← takeIf (!reduced) b 1
  let timing ← if timed = 1 then takeTiming b else pure (false, none)
  let display ← takeIf (!reduced) b 1
  let count ← takeIf (!reduced) b 5
  let level ← takeIf reduced b 5
  let points ← if reduced then pure [(0, level, false)]
    else takePoints b (timing.2.map (·.1)) (display == 1) (count + 1)
  let wb ← takeBits b 4
  let hb ← takeBits b 4
  let w ← takeBits b (wb + 1)
  let h ← takeBits b (hb + 1)
  let ids ← takeIf (!reduced) b 1
  let delta ← takeIf (ids == 1) b 4
  let more ← takeIf (ids == 1) b 3
  let _ ← takeBits b 3
  let tools ← if reduced then pure (0, 2, 2) else takeTools b
  let superres ← takeFlag b
  let _ ← takeBits b 2
  let (depth, mono, matrix, full, sx, sy) ← takeColour b profile
  return { profile := profile, reduced := reduced, points := points, model := timing.2.map (·.2)
           equalInterval := timing.1, widthBits := wb + 1, heightBits := hb + 1, width := w + 1, height := h + 1
           ids := if ids = 1 then some (more + delta + 3, delta + 2) else none
           orderBits := tools.1, screenTools := tools.2.1, integerMv := tools.2.2, superres := superres
           depth := depth, mono := mono, matrix := matrix, full := full, subsampled := (sx, sy) }

def parseSeq (b : List Byte) : Option SeqHeader := ((takeSeq b).run 0).map (·.1)

/-- The supported subset, as far as the sequence header says (R256). -/
def SeqHeader.supported (q : SeqHeader) : Bool :=
  q.profile == 0 && !q.mono && q.subsampled == (true, true) && (q.depth == 8 || q.depth == 10)
    && (q.points.headD (0, 0, false)).2.1 ≤ 17

/-! ### Frame headers, up to the size -/

/-- What a reference slot holds: upscaled width, width, height, order hint, key frame. -/
structure RefFrame where
  upscaled : Nat
  width : Nat
  height : Nat
  hint : Nat
  key : Bool
  deriving DecidableEq, Repr

/-- A frame as its header gives it. -/
structure FrameHead where
  shown : Bool
  /-- It repeats a frame that is decoded already. -/
  existing : Bool
  refresh : Nat
  frame : RefFrame
  deriving DecidableEq, Repr

/-- Signed distance of two order hints. -/
def hintDistance (bits a b : Nat) : Int :=
  let m : Int := 2 ^ (bits - 1)
  let d : Int := (a : Int) - b
  if bits = 0 then 0 else (d + m) % (2 * m) - m

/-- The reference of those not yet used that a test admits, and that a second test prefers to the others. -/
def pickRef (used : List Nat) (l : List (Nat × Int)) (ok : Int → Bool) (better : Int → Int → Bool) : Option Nat :=
  ((l.filter fun x => !used.contains x.1 && ok x.2).foldl (fun (best : Option (Nat × Int)) x =>
    match best with
    | none => some x
    | some y => if better x.2 y.2 then some x else some y) none).map (·.1)

/-- The references of a frame with short signalling, from the last and the golden one: LAST to ALTREF. -/
def shortRefs (bits cur : Nat) (refs : List RefFrame) (last gold : Nat) : List Nat :=
  let l := refs.zipIdx.map fun (x, i) => (i, hintDistance bits x.hint cur)
  let put := fun (a : List (Option Nat)) (k : Nat) (x : Option Nat) => if x.isSome then a.set k x else a
  let used := fun (a : List (Option Nat)) => a.filterMap id
  let a : List (Option Nat) := [some last, none, none, some gold, none, none, none]
  let a := put a 6 (pickRef (used a) l (0 ≤ ·) fun x y => y ≤ x)
  let a := put a 4 (pickRef (used a) l (0 ≤ ·) fun x y => x < y)
  let a := put a 5 (pickRef (used a) l (0 ≤ ·) fun x y => x < y)
  let a := [1, 2, 4, 5, 6].foldl (fun a k =>
    if (a.getD k none).isSome then a else put a k (pickRef (used a) l (· < 0) fun x y => y ≤ x)) a
  let first := pickRef [] l (fun _ => true) fun x y => x < y
  a.map fun x => x.getD (first.getD 0)

/-- `superres_params()`: the width after it. -/
def takeSuperres (b : List Byte) (q : SeqHeader) (w : Nat) : BitReader Nat := do
  let use ← takeIf q.superres b 1
  let coded ← takeIf (use == 1) b 3
  let denom := if use = 1 then coded + 9 else 8
  return (w * 8 + denom / 2) / denom

/-- `frame_size()`: upscaled width, width, height. -/
def takeSize (b : List Byte) (q : SeqHeader) (override : Bool) : BitReader (Nat × Nat × Nat) := do
  let w ← takeIf override b q.widthBits
  let h ← takeIf override b q.heightBits
  let up := if override then w + 1 else q.width
  let width ← takeSuperres b q up
  return (up, width, if override then h + 1 else q.height)

/-- `frame_size_with_refs()`, over the references still to be asked. -/
def takeRefSize (b : List Byte) (q : SeqHeader) : List RefFrame → BitReader (Nat × Nat × Nat)
  | [] => takeSize b q true
  | x :: r => do
    if ← takeFlag b then
      let width ← takeSuperres b q x.upscaled
      return (x.upscaled, width, x.height)
    else takeRefSize b q r

/-- The buffer removal times of a frame header. -/
def takeRemovals (b : List Byte) (o : Obu) (n : Nat) : List (Nat × Nat × Bool) → BitReader Unit
  | [] => pure ()
  | (idc, _, has) :: r => do
    let here := idc == 0 || (idc.testBit o.temporal && idc.testBit (o.spatial + 8))
    let _ ← takeIf (has && here) b n
    takeRemovals b o n r

/-- The reference indices of an inter frame. -/
def takeRefs (b : List Byte) (q : SeqHeader) (short : Bool) : Nat → BitReader (List Nat)
  | 0 => pure []
  | k + 1 => do
    let i ← takeIf (!short) b 3
    let _ ← takeIf q.ids.isSome b (q.ids.getD (0, 0)).2
    let r ← takeRefs b q short k
    return i :: r

def noRef : RefFrame := ⟨0, 0, 0, 0, false⟩

/-- `uncompressed_header()` up to the frame's size. -/
def takeFrame (o : Obu) (q : SeqHeader) (refs : List RefFrame) : BitReader FrameHead := do
  let b := o.payload
  let timed := fun (shown : Bool) => shown && q.model.isSome && !q.equalInterval
  let existing ← takeIf (!q.reduced) b 1
  if existing = 1 then
    let i ← takeBits b 3
    let x := refs.getD i noRef
    return { shown := true, existing := true, refresh := if x.key then 255 else 0, frame := x }
  else
    let type ← takeIf (!q.reduced) b 2
    let show_ ← takeIf (!q.reduced) b 1
    let shown := q.reduced || show_ == 1
    let _ ← takeIf (timed shown && !q.reduced) b (q.model.getD (0, 0)).2
    let _ ← takeIf (!shown) b 1
    let strict := type == 3 || (type == 0 && shown)
    let resilient ← takeIf (!q.reduced && !strict) b 1
    let resilient := (strict && !q.reduced) || resilient == 1
    let intra := type == 0 || type == 2
    let _ ← takeBits b 1
    let tools ← takeIf (q.screenTools == 2) b 1
    let tools := if q.screenTools = 2 then tools else q.screenTools
    let _ ← takeIf (tools == 1 && q.integerMv == 2) b 1
    let _ ← takeIf q.ids.isSome b (q.ids.getD (0, 0)).1
    let override ← takeIf (type != 3 && !q.reduced) b 1
    let override := type == 3 || override == 1
    let hint ← takeBits b q.orderBits
    let _ ← takeIf (!intra && !resilient) b 3
    let removal ← takeIf q.model.isSome b 1
    let _ ← if removal = 1 then takeRemovals b o (q.model.getD (0, 0)).1 q.points else pure ()
    let all := type == 3 || (type == 0 && shown)
    let flags ← takeIf (!all) b 8
    let refresh := if all then 255 else flags
    let hints ← if (!intra || refresh != 255) && resilient && 0 < q.orderBits then
        takeBits b (8 * q.orderBits) else pure 0
    let refs := if (!intra || refresh != 255) && resilient && 0 < q.orderBits then
        refs.zipIdx.map fun (x, i) => { x with hint := hints / 2 ^ (q.orderBits * (7 - i)) % 2 ^ q.orderBits }
      else refs
    let done := fun (s : Nat × Nat × Nat) =>
      ({ shown := shown, existing := false, refresh := refresh
         frame := { upscaled := s.1, width := s.2.1, height := s.2.2, hint := hint, key := type == 0 } } : FrameHead)
    if intra then
      let s ← takeSize b q override
      return done s
    else
      let short ← takeIf (0 < q.orderBits) b 1
      let last ← takeIf (short == 1) b 3
      let gold ← takeIf (short == 1) b 3
      let idx ← takeRefs b q (short == 1) 7
      let idx := if short = 1 then shortRefs q.orderBits hint refs last gold else idx
      let s ← if override && !resilient then takeRefSize b q (idx.map fun i => refs.getD i noRef) else takeSize b q override
      return done s

/-! ### A walk over the stream -/

/-- Where the walk stands. -/
structure Av1Walk where
  seq : Option SeqHeader
  refs : List RefFrame
  /-- Work units so far (R259), and those at the end of each shown frame, in order. -/
  units : Nat
  ends : List Nat
  /-- The last frame was shown, and its tiles may go on. -/
  open_ : Bool
  /-- Every sequence header and shown frame lay in the subset. -/
  kept : Bool
  /-- Shown frames of the temporal unit so far. -/
  shown : Nat
  /-- Work units at which a header does not parse, or a temporal unit has not exactly one shown frame (R264). -/
  failed : Option Nat
  deriving DecidableEq, Repr

def Av1Walk.start : Av1Walk :=
  { seq := none, refs := List.replicate 8 noRef, units := 0, ends := [], open_ := false, kept := true, shown := 1
    failed := none }

def Av1Walk.fail (v : Av1Walk) : Av1Walk := { v with failed := some v.units }

/-- An OBU of operating point 0. -/
def inPoint (q : Option SeqHeader) (o : Obu) : Bool :=
  let idc := match q with | some q => (q.points.headD (0, 0, false)).1 | none => 0
  o.type == 1 || o.type == 2 || idc == 0 || !o.extended
    || (idc.testBit o.temporal && idc.testBit (o.spatial + 8))

/-- A frame starts: its blocks are counted where it is decoded, and it takes its reference slots. -/
def Av1Walk.frame (v : Av1Walk) (q : SeqHeader) (x : FrameHead) : Av1Walk :=
  let f := x.frame
  let units := v.units + (if x.existing then 0 else 32 * ((f.width + 7) / 8) * ((f.height + 7) / 8))
  if x.shown && v.shown = 1 then v.fail
  else { v with
    units := units
    shown := v.shown + if x.shown then 1 else 0
    ends := if x.shown then v.ends ++ [units] else v.ends
    open_ := x.shown && !x.existing
    kept := v.kept && (!x.shown || (f.upscaled == q.width && f.height == q.height))
    refs := v.refs.zipIdx.map fun (y, i) => if x.refresh.testBit i then f else y }

/-- One OBU. -/
def Av1Walk.step (v : Av1Walk) (o : Obu) : Av1Walk :=
  if v.failed.isSome || !inPoint v.seq o then v
  else
    let v := { v with units := v.units + o.payload.length }
    if o.type = 1 then
      match parseSeq o.payload with
      | some q => { v with seq := some q, open_ := false, kept := v.kept && q.supported }
      | none => v.fail
    else if o.type = 3 || o.type = 6 then
      match v.seq with
      | none => v.fail
      | some q =>
        match (takeFrame o q v.refs).run 0 with
        | some (x, _) => v.frame q x
        | none => v.fail
    else if o.type = 4 && v.open_ then { v with ends := v.ends.dropLast ++ [v.units] }
    else if o.type = 2 then
      if v.shown = 1 then { v with open_ := false, shown := 0 } else v.fail
    else v

/-- The first temporal unit of a stream: up to its second temporal delimiter. -/
def firstUnit (l : List Obu) : List Obu :=
  match l with
  | o :: r => o :: r.takeWhile fun x => x.type != 2
  | [] => []

structure Av1Info where
  seq : SeqHeader
  frames : Nat
  kept : Bool
  walk : Av1Walk

/-- The headers of a stream, where a sequence header stands in its first temporal unit, which a temporal delimiter
begins (R249, R255). -/
def av1Info (b : List Byte) : Option Av1Info :=
  let l := (obusOf b.length b).1
  match l.head?, (firstUnit l).find? (fun o => o.type == 1) with
  | some d, some o =>
    if d.type != 2 then none
    else match parseSeq o.payload with
      | none => none
      | some q =>
        let v := l.foldl Av1Walk.step Av1Walk.start
        some { seq := q, frames := (l.filter fun o => o.type == 2).length, kept := v.kept && q.supported, walk := v }
  | _, _ => none

/-- Work units of a stream up to the end of a shown frame, or up to its first error, and whether there is one
(R259, R264). -/
def Av1Info.work (x : Av1Info) (b : List Byte) (last : Nat) : Nat × Bool :=
  match x.walk.ends[last]?, Config.av1Error b with
  | some n, some (k, u) => if k ≤ last then (u, false) else (n, true)
  | some n, none => (n, true)
  | none, e =>
    let u := x.walk.failed.getD x.walk.units
    (match e with | some (_, v) => min u v | none => u, false)

end Sys2Proof.Machine
end

