-- ==== Sys2Proof/Machine/Jpeg.lean ====
section
/-! DEFINITION. What the Drill reads of a JPEG image before and while it decodes: marker segments, the frame header,
the tables before the first scan, and the work units of a whole image (R249, R255, R257, R259). The spec takes the
syntax of JPEG as given; it is here as ITU-T T.81 has it (PRESUMED, log entry 127). -/

namespace Sys2Proof.Machine
open Sys2Proof

/-- A big-endian field. -/
def beField (b : List Byte) (at_ n : Nat) : Nat :=
  (List.range n).foldl (fun a i => 256 * a + (b.getD (at_ + i) 0).toNat) 0

/-- A marker with its segment's bytes after the marker, and the entropy-coded data after a scan header. -/
structure Segment where
  marker : Nat
  body : List Byte
  coded : List Byte
  deriving DecidableEq, Repr

/-- Markers without a segment: TEM, RSTn, SOI, EOI. -/
def bareMarker (m : Nat) : Bool := m == 0x01 || (0xD0 ≤ m && m ≤ 0xD9)

/-- The length of entropy-coded data: up to a marker that is neither a stuffed zero nor a restart. -/
def codedLength : List Byte → Nat
  | [] => 0
  | [_] => 1
  | x :: y :: r =>
    if x = 0xFF && y != 0 && !(0xD0 ≤ y.toNat && y.toNat ≤ 0xD7) then 0 else 1 + codedLength (y :: r)

/-- The next segment, fill bytes passed over, and the rest. -/
def takeSegment (b : List Byte) : Option (Segment × List Byte) :=
  match b with
  | x :: r =>
    if x != 0xFF then none
    else
      let r := r.dropWhile fun y => y == 0xFF
      match r with
      | [] => none
      | m :: body =>
        if m = 0 then none
        else if bareMarker m.toNat then some ({ marker := m.toNat, body := [], coded := [] }, body)
        else
          let n := beField body 0 2
          if n < 2 || body.length < n then none
          else
            let rest := body.drop n
            let k := if m = 0xDA then codedLength rest else 0
            some ({ marker := m.toNat, body := body.take n, coded := rest.take k }, rest.drop k)
  | [] => none

/-- The segments up to EOI, and whether EOI came. -/
def segmentsOf : Nat → List Byte → List Segment × Bool
  | 0, _ => ([], false)
  | k + 1, b =>
    match takeSegment b with
    | none => ([], false)
    | some (x, r) =>
      if x.marker = 0xD9 then ([x], true)
      else
        let (l, ok) := segmentsOf k r
        (x :: l, ok)

/-- A frame header's marker: SOF0 to SOF15 but for DHT, JPG and DAC. -/
def isSof (m : Nat) : Bool := 0xC0 ≤ m && m ≤ 0xCF && m != 0xC4 && m != 0xC8 && m != 0xCC

/-- A frame header: SOF number, precision, height, width, and per component identifier and sampling factors. -/
structure Sof where
  kind : Nat
  precision : Nat
  height : Nat
  width : Nat
  parts : List (Nat × Nat × Nat)
  deriving DecidableEq, Repr

def parseSof (x : Segment) : Option Sof :=
  let n := beField x.body 7 1
  if x.body.length != 8 + 3 * n then none
  else some {
    kind := x.marker - 0xC0, precision := beField x.body 2 1, height := beField x.body 3 2
    width := beField x.body 5 2
    parts := (List.range n).map fun i =>
      (beField x.body (8 + 3 * i) 1, beField x.body (9 + 3 * i) 1 / 16, beField x.body (9 + 3 * i) 1 % 16) }

/-- What stands before the first scan. -/
def beforeScan (l : List Segment) : List Segment := l.takeWhile fun x => x.marker != 0xDA

/-- The frame header of an image, where SOI, a frame header and tables stand before its first scan (R255). -/
def jpegSof (b : List Byte) : Option Sof :=
  let l := (segmentsOf b.length b).1
  let head := beforeScan l
  if (head.headD ⟨0, [], []⟩).marker != 0xD8 || head.length = l.length then none
  else if !((head.any fun x => x.marker == 0xDB) && head.any fun x => x.marker == 0xC4) then none
  else match head.find? fun x => isSof x.marker with
    | some x => parseSof x
    | none => none

/-- The sampling of a supported frame: 0 for 4:4:4, 1 for 4:2:2, 2 for 4:2:0 (R257). -/
def Sof.sampling (f : Sof) : Option Nat :=
  match f.parts.map (·.2) with
  | [y, u, v] =>
    if f.kind != 0 || f.precision != 8 || u != (1, 1) || v != (1, 1) then none
    else if y = (1, 1) then some 0 else if y = (2, 1) then some 1 else if y = (2, 2) then some 2 else none
  | _ => none

def roundUp (a b : Nat) : Nat := (a + b - 1) / b

/-- The 8 × 8 blocks of a scan: in a scan of one component those of the component, otherwise those of whole units. -/
def scanBlocks (f : Sof) (x : Segment) : Nat :=
  let n := beField x.body 2 1
  let parts := (List.range n).filterMap fun i => f.parts.find? fun y => y.1 == beField x.body (3 + 2 * i) 1
  let hMax := max 1 ((f.parts.map (·.2.1)).foldl max 0)
  let vMax := max 1 ((f.parts.map (·.2.2)).foldl max 0)
  match parts with
  | [(_, h, v)] => roundUp (roundUp (f.width * h) hMax) 8 * roundUp (roundUp (f.height * v) vMax) 8
  | _ => roundUp f.width (8 * hMax) * roundUp f.height (8 * vMax)
      * ((parts.map fun y => y.2.1 * y.2.2).foldl (· + ·) 0)

/-- Bytes of a segment that count as work: the segment with its marker, and entropy-coded data. -/
def Segment.bytes (x : Segment) : Nat := (if bareMarker x.marker then 0 else 2 + x.body.length) + x.coded.length

/-- Work units of a list of segments of an image with a frame header (R259). -/
def segmentWork (f : Option Sof) (l : List Segment) : Nat :=
  (l.map fun x => x.bytes + (match f with
    | some f => if x.marker = 0xDA then 8 * scanBlocks f x else 0
    | none => 0)).foldl (· + ·) 0

/-- Work units of a whole image, or up to its first error, and whether there is none. -/
def jpegWork (b : List Byte) : Nat × Bool :=
  let (l, ok) := segmentsOf b.length b
  let n := segmentWork (jpegSof b) l
  match Config.jpegError b with
  | some u => (min u n, false)
  | none => (n, ok)

/-- Work units of an image up to the end of its frame header. -/
def headWork (b : List Byte) : Nat :=
  let l := (segmentsOf b.length b).1
  let head := l.takeWhile fun x => !isSof x.marker
  segmentWork none (l.take (head.length + 1))

/-- Dimensions and sampling of an image. -/
def jpegShape (b : List Byte) : Option (Nat × Nat × Nat) :=
  match jpegSof b with
  | some f => f.sampling.map fun k => (f.width, f.height, k)
  | none => none

/-- Work units over images in turn, each of the shape of the first, up to the first error (R249, R259, R264). -/
def imagesWork (first : Option (Nat × Nat × Nat)) : List (List Byte) → Nat × Bool
  | [] => (0, true)
  | b :: r =>
    if jpegShape b != first then (headWork b, false)
    else
      let (n, ok) := jpegWork b
      if ok then
        let (m, ok) := imagesWork first r
        (n + m, ok)
      else (n, false)

end Sys2Proof.Machine
end

