-- ==== Sys2Proof/Machine/Churn.lean ====
section
/-! DEFINITION. Churn: blocks, codebooks, COMPACT and EXPAND (R190 to R209). -/

namespace Sys2Proof.Machine
open Sys2Proof

/-! ### Codebooks (R196 to R198) -/

/-- A codebook image that keeps R196's rules. -/
def imageOk (l : List Nat) : Bool :=
  l.all (fun n => n ≤ 15) && l.any (fun n => n != 0) &&
    (l.foldl (fun a n => if n = 0 then a else a + 2 ^ (15 - n)) 0) ≤ 2 ^ 15

/-- One assigned code: its length, its value, its symbol. -/
structure Code where
  len : Nat
  value : Nat
  symbol : Nat
  deriving DecidableEq, Repr

/-- Canonical codes: by length ascending, then by symbol ascending (R196). -/
def canonical (l : List Nat) : List Code :=
  ((List.range 15).foldl (fun (a : Nat × List Code) k =>
    let n := k + 1
    let first := a.1 * 2
    let syms := (List.range 256).filter fun s => l.getD s 0 == n
    (first + syms.length, a.2 ++ syms.zipIdx.map fun (s, i) => ⟨n, first + i, s⟩)) (0, [])).2

/-- The references of a codebook slot (R197). -/
def codebookRefs (d : Paddock) (slot : Nat) : Nat :=
  (d.flights.filter fun f => f.codebooks.contains slot).length
    + (d.allocs.filter fun e => e.2.heldSlot == some slot).length

/-! ### Blocks (R192 to R195) -/

/-- Bits of a code, most significant first. -/
def codeBits (c : Code) : List Bool := (List.range c.len).map fun i => c.value.testBit (c.len - 1 - i)

/-- Pack bits into bytes from bit 0 upwards. -/
def packBits (bits : List Bool) : List Byte :=
  (pieces 8 bits).map fun b =>
    BitVec.ofNat 8 (b.zipIdx.foldl (fun a (x, i) => if x then a + 2 ^ i else a) 0)

def padTo (m : Nat) (l : List Byte) : List Byte := l ++ List.replicate (alignUp l.length m - l.length) 0

/-- A compacted block: zero, raw, or coded, with its stored bytes. -/
inductive Packed where
  | zero
  | raw (bytes : List Byte)
  | coded (bytes : List Byte)

/-- The bytes of a coded block; nothing where a symbol has no code (R194, R195). -/
def codedBytes (codes : List Code) (b : Nat) (raw : List Byte) : Option (List Byte) :=
  let els := pieces b raw
  let isZero := fun (e : List Byte) => e.all fun x => x == 0
  let nzs := els.filter fun e => !isZero e
  let bits := nzs.map fun e => codes.find? fun c => c.symbol == (e.getLast?.getD 0).toNat
  if bits.any Option.isNone then none
  else
    let mask := if els.length = nzs.length then []
      else packBits (els.map fun e => !isZero e)
    let plane := packBits (bits.flatMap fun c => match c with | some c => codeBits c | none => [])
    let low := nzs.flatMap fun e => e.take (b - 1)
    let n := 8 + mask.length + plane.length + low.length
    some (leBytes 2 n ++ leBytes 2 nzs.length ++ leBytes 1 (if mask.isEmpty then 0 else 1)
      ++ leBytes 1 b ++ leBytes 2 raw.length ++ mask ++ plane ++ low)

/-- Compact one block (R193 to R195). -/
def packBlock (codes : List Code) (b : Nat) (raw : List Byte) : Packed :=
  if raw.all fun x => x == 0 then .zero
  else match codedBytes codes b raw with
    | none => .raw (padTo 64 raw)
    | some c =>
      let p := padTo 64 c
      if raw.length * 10 < p.length * 11 then .raw (padTo 64 raw) else .coded p

def Packed.stored : Packed → List Byte
  | .zero => []
  | .raw b => b
  | .coded b => b

/-- The index entry of a block at a running offset in 64-byte units (R200). -/
def Packed.entry (p : Packed) (off slot gen : Nat) : Nat :=
  let base := off + gen * 2 ^ 48 + slot * 2 ^ 56
  match p with
  | .zero => base + 2 ^ 47
  | .raw b => base + (b.length / 64 - 1) * 2 ^ 40 + 2 ^ 46
  | .coded b => base + (b.length / 64 - 1) * 2 ^ 40

/-- Offsets of blocks in 64-byte units. -/
def runningOffsets : Nat → List Packed → List Nat
  | _, [] => []
  | o, p :: r => o :: runningOffsets (o + p.stored.length / 64) r

/-- Count blocks compacted, both routes (R209). -/
def countPacked (d : Paddock) (rawLen : Nat) (l : List Packed) : Paddock :=
  let n := fun (f : Packed → Bool) => (l.filter f).length
  let add := fun (d : Paddock) (i k : Nat) => if k = 0 then d else d.addObj i 0 k
  let d := add d 0x6804 (n fun p => match p with | .coded _ => true | _ => false)
  let d := add d 0x6805 (n fun p => match p with | .raw _ => true | _ => false)
  let d := add d 0x6806 (n fun p => match p with | .zero => true | _ => false)
  let d := add d 0x6807 rawLen
  add d 0x6808 ((l.map fun p => p.stored.length).foldl (· + ·) 0)

/-! ### COMPACT -/

def loadedLengths (d : Paddock) (slot : Nat) : List Nat :=
  match d.codebooks.getD slot none with | some c => c.lengths | none => []

def Tensor.slotOf (t : Tensor) : Nat := bitField t.compr 5 4
def Tensor.genOf (t : Tensor) : Nat := bitField t.compr 15 8

/-- The byte stream of a plain tensor (R192). -/
def byteStream (t : Tensor) (rd : Reader_) : List Byte :=
  let b := t.fmt.bits / 8
  (allIdx t.ext).flatMap fun i =>
    let a := t.addr + t.offset i * b
    (List.range b).map fun k => rd (a + k)

/-- The Churn-format bytes of an input under a codebook (R199, R200): the part up to the block region,
and the block region. -/
def churnImage (c : Ctx) (o x : Tensor) (ps : List Packed) : List Byte × List Byte :=
  let offs := runningOffsets 0 ps
  let region := ps.flatMap Packed.stored
  let index := (ps.zip offs).flatMap fun (p, off) => leBytes 8 (p.entry off o.slotOf o.genOf)
  let record := if x.fmt.isF8 then
      padTo 64 ((List.range x.recordBytes).map fun i => c.rd (x.recordBase + i))
    else []
  let count := fun (f : Packed → Bool) => (ps.filter f).length
  let head := leBytes 1 o.fmt.code ++ leBytes 1 (1 + (if x.fmt.isF8 then 2 else 0))
    ++ leBytes 1 o.slotOf ++ leBytes 1 o.genOf ++ leBytes 4 ps.length ++ leBytes 8 o.stream
    ++ leBytes 8 o.churnBytes ++ leBytes 8 region.length
    ++ leBytes 4 (count fun p => match p with | .zero => true | _ => false)
    ++ leBytes 4 (count fun p => match p with | .raw _ => true | _ => false)
    ++ leBytes 4 x.ident ++ leBytes 20 0
  (head ++ padTo 64 index ++ record, region)

/-- What remains of the allocation that holds an output's base (R201). -/
def roomAt (d : Paddock) (a : Nat) : Option Nat :=
  (d.allocOf a 1).map fun (_, x) => x.base + x.len - a

/-- The units of COMPACT in its first or in its last phase: 16 blocks each (R202, R206). -/
def packWork (c : Ctx) (b len : Nat) (ps : List Packed) (writes : Bool) : Work :=
  let n := ceilDiv ps.length 16
  let block := fun (i : Nat) =>
    let l := min 4096 (len - 4096 * i)
    ({ loads := 8 * l, cxl := if c.inCxl 1 then 8 * l else 0, compact := 4 + ceilDiv (l / b) 16, out := c.inCxl 0
       stores := if writes then 8 * ((ps.getD i .zero).stored.length + 8) else 0
       blocks := [0, 0, 0, if writes then 1 else 0] } : Cost)
  { units := n
    shape := .listed ((List.range n).map fun u =>
      Cost.sum ((List.range (min 16 (ps.length - 16 * u))).map fun k => block (16 * u + k))) }

def compactRun (c : Ctx) : Effect :=
  let o := c.must 0
  let x := c.must 1
  let d := c.s.pad c.p
  let codes := canonical (loadedLengths d o.slotOf)
  let stream := byteStream x c.rd
  let ps := (pieces 4096 stream).map (packBlock codes (x.fmt.bits / 8))
  let (front, region) := churnImage c o x ps
  let units := packWork c (x.fmt.bits / 8) stream.length ps false
  let fits := match roomAt d o.addr with | some n => front.length + region.length ≤ n | none => true
  if !fits then { s := c.s, statuses := [0x02], slot := 0, lists := [[units]] }
  else
    let whole : Span := { addr := o.addr, len := front.length + region.length, read := false, write := true
                          hint := o.hint }
    let own : Access := { span := whole, elem := none, fills := fun a n => o.addr ≤ a && a + n ≤ o.addr + whole.len }
    let reads : Span := { addr := x.addr, len := x.footprintIn c.rd, read := true, write := false, hint := x.hint }
    match c.s.makeRoom c.p (needFor c.s c.p [own]) [whole, reads] with
    | none => { s := c.s, statuses := [0x13], lists := [[units]] }
    | some s =>
      let s := noteAccess (plainWrite s c.p (placeAt o.addr (front ++ region))) c.p [own]
      { s := s.modPad c.p fun d => countPacked d stream.length ps, lists := [[{ units with measures := true }, packWork c (x.fmt.bits / 8) stream.length ps true]] }

/-- COMPACT with modifier 0 (R202). A modifier other than 0 and 1 is malformed. -/
def compactOp : Op :=
  { required := fun _ => [0, 1]
    churn := fun _ => [0]
    formats := fun c => [(0, (c.must 0).churn), (0, (c.must 0).fmt == (c.must 1).fmt)]
    shapes := fun c => [(0, (c.must 0).ext == (c.must 1).ext && (c.must 0).churnBlocks ≤ 2 ^ 32)]
    run := compactRun }

def execCompact (p g : Nat) (s : State) : Host.Outcome State Fault Refusal :=
  .next (issue 0x0028 (fun r => r.modifier != 1) compactOp p g s)

/-! ### Loading a codebook (R196, R198) -/

def imageLengths (c : Ctx) : List Nat :=
  let t := c.must 1
  (List.range 256).map fun i => t.code c.rd i

def codebookRun (c : Ctx) : Effect :=
  let slot := c.r.p 0
  if 0 < codebookRefs (c.s.pad c.p) slot then
    { s := c.s.modPad c.p fun d => d.addObj 0x680A 0 1, statuses := [0x42], instant := true }
  else
    let book : Codebook := { generation := c.r.p 1, lengths := imageLengths c }
    { s := c.s.modPad c.p fun d => { d with codebooks := d.codebooks.set slot (some book) }, loads := some slot }

/-- COMPACT with modifier 1. -/
def codebookOp : Op :=
  { required := fun _ => [1]
    form := fun r => r.modifier == 1 && r.p 0 < 4 && r.p 1 < 256
    params := [0, 1]
    relate := fun c =>
      [(1, [1], 0 < codebookRefs (c.s.pad c.p) (c.r.p 0) || (c.must 1).fmt != .u8 || (c.must 1).ext != [256, 1, 1, 1, 1, 1]
        || imageOk (imageLengths c))]
    shapes := fun c => [(1, (c.must 1).fmt == .u8 && (c.must 1).rank == 1 && (c.must 1).e 0 == 256)]
    noop := fun _ => false
    late := fun c =>
      let d := c.s.pad c.p
      [(0xFFFF, 0x01, 0 < codebookRefs d (c.r.p 0) || !loadedCodebook d (c.r.p 0) (c.r.p 1))]
    run := codebookRun }

def execCodebookLoad (p g : Nat) (s : State) : Host.Outcome State Fault Refusal :=
  .next (issue 0x0028 (fun r => r.modifier == 1) codebookOp p g s)

/-! ### EXPAND (R204, R205) -/

/-- Decode one symbol from bits: the symbol and how many bits it took. -/
def decodeSymbol (codes : List Code) : Nat → Nat → Nat → (Nat → Bool) → Option (Nat × Nat)
  | 0, _, _, _ => none
  | f + 1, n, v, bit =>
    let v := 2 * v + (if bit n then 1 else 0)
    match codes.find? fun c => Nat.beq c.len (n + 1) && Nat.beq c.value v with
    | some c => some (c.symbol, n + 1)
    | none => decodeSymbol codes f (n + 1) v bit

/-- Decode a code plane of `n` symbols from bit `at_`; it may not pass bit `limit`. -/
def decodePlane (codes : List Code) (bit : Nat → Bool) (limit : Nat) : Nat → Nat → Option (List Nat × Nat)
  | 0, at_ => some ([], at_)
  | n + 1, at_ =>
    match decodeSymbol codes 15 0 0 fun i => bit (at_ + i) with
    | none => none
    | some (s, k) =>
      if limit < at_ + k then none
      else match decodePlane codes bit limit n (at_ + k) with
        | none => none
        | some (r, e) => some (s :: r, e)

/-- Rebuild elements from the mask, the symbols and the low bytes. -/
def mergeElements (b : Nat) : List Bool → List Nat → List (List Byte) → List Byte
  | [], _, _ => []
  | false :: m, ss, ls => List.replicate b 0 ++ mergeElements b m ss ls
  | true :: m, s :: ss, l :: ls => l ++ [BitVec.ofNat 8 s] ++ mergeElements b m ss ls
  | true :: m, ss, ls => List.replicate b 0 ++ mergeElements b m ss ls

/-- Decode a coded block of stored bytes `bytes`, of raw length `L`; nothing where R205 fails it. -/
def decodeCoded (codes : List Code) (b L : Nat) (bytes : List Byte) : Option (List Byte) :=
  let n := leField bytes 0 2
  let nz := leField bytes 2 2
  let masked := (leField bytes 4 1).testBit 0
  let els := L / b
  let maskBytes := if masked then ceilDiv els 8 else 0
  let maskBit := fun (i : Nat) => (leField bytes (8 + i / 8) 1).testBit (i % 8)
  let mask := (List.range els).map fun i => !masked || maskBit i
  let ones := if masked then ((List.range (8 * maskBytes)).filter maskBit).length else els
  let start := 8 + maskBytes
  if !(bytes.length ≤ n + 63 && n ≤ bytes.length) || leField bytes 5 1 != b || leField bytes 6 2 != L
      || nz != ones then none
  else
    let bit := fun (i : Nat) => (leField bytes (start + i / 8) 1).testBit (i % 8)
    match decodePlane codes bit (8 * (n - start)) nz 0 with
    | none => none
    | some (syms, used) =>
      let low := start + ceilDiv used 8
      let lows := (List.range nz).map fun i => sliceBytes bytes (low + (b - 1) * i) (b - 1)
      some (mergeElements b mask syms lows)

/-- One block of a Churn-format tensor, with whether it failed (R200, R205). -/
def expandBlock (rd : Reader_) (codes : List Code) (x : Tensor) (i : Nat) : List Byte × Bool :=
  let L := min 4096 (x.stream - 4096 * i)
  let w := readLe rd (x.addr + 64 + 8 * i) 8
  let region := x.addr + readLe rd (x.addr + 0x10) 8 + 64 * (w % 2 ^ 40)
  let stored := 64 * (bitField w 45 40 + 1)
  if w.testBit 47 then (List.replicate L 0, false)
  else if w.testBit 46 then ((List.range L).map fun k => rd (region + k), false)
  else
    let bytes := (List.range stored).map fun k => rd (region + k)
    let same := bitField w 55 48 == x.genOf && bitField w 57 56 == x.slotOf
    match (if same then decodeCoded codes (x.fmt.bits / 8) L bytes else none) with
    | some r => (r, false)
    | none => (List.replicate L 0, true)

/-- The first logical index that EXPAND reads. -/
def expandFrom (c : Ctx) : Nat := c.r.p 0 + c.r.p 1 * 2 ^ 32

/-- What one block costs the expander (R206). -/
def expandCost (c : Ctx) (x : Tensor) (i : Nat) : Cost :=
  let L := min 4096 (x.stream - 4096 * i)
  let w := readLe c.rd (x.addr + 64 + 8 * i) 8
  let region := x.addr + readLe c.rd (x.addr + 0x10) 8 + 64 * (w % 2 ^ 40)
  let stored := if w.testBit 47 then 0 else 64 * (bitField w 45 40 + 1)
  let coded := !w.testBit 47 && !w.testBit 46
  { loads := 8 * (stored + 8), cxl := if c.inCxl 1 then 8 * (stored + 8) else 0, stores := 8 * L, out := c.inCxl 0
    expand := if coded then 4 + max (ceilDiv (readLe c.rd (region + 2) 2) 16) (ceilDiv L 64) else ceilDiv L 64
    blocks := [if coded then 1 else 0, if !coded && !w.testBit 47 then 1 else 0, if w.testBit 47 then 1 else 0, 0] }

/-- The units of EXPAND: 16 blocks each (R204, R206). -/
def expandWork (c : Ctx) (b0 b1 : Nat) : Work :=
  let n := ceilDiv (b1 - b0) 16
  { units := n
    shape := .listed ((List.range n).map fun u =>
      Cost.sum ((List.range (min 16 (b1 - b0 - 16 * u))).map fun k => expandCost c (c.must 1) (b0 + 16 * u + k))) }

def expandRun (c : Ctx) : Effect :=
  let o := c.must 0
  let x := c.must 1
  let b := x.fmt.bits / 8
  let f := expandFrom c
  let codes := canonical (loadedLengths (c.s.pad c.p) x.slotOf)
  let b0 := f * b / 4096
  let b1 := ceilDiv ((f + o.numel) * b) 4096
  let blocks := (List.range (b1 - b0)).map fun i => expandBlock c.rd codes x (b0 + i)
  let bytes := (blocks.flatMap (·.1)).toArray
  let body := (allIdx o.ext).zipIdx.flatMap fun (i, j) =>
    placeAt (o.addr + o.offset i * b) ((List.range b).map fun k =>
      bytes.getD ((f + j) * b + k - 4096 * b0) 0)
  let rec0 := x.addr + 64 + alignUp (8 * x.churnBlocks) 64
  let record := if x.fmt.isF8 then
      (List.range o.recordBytes).map fun i => (o.recordBase + i, c.rd (rec0 + i))
    else []
  let failed := (blocks.filter (·.2)).length
  let s := plainWrite c.s c.p (body ++ record)
  { s := if failed = 0 then s else s.modPad c.p fun d => d.addObj 0x6809 0 failed
    lists := [[expandWork c b0 b1]] }

/-- What R201 asks of the header of a Churn-format input. -/
def churnHeaderOk (rd : Reader_) (t : Tensor) : Bool :=
  !t.churn || t.isEmpty ||
    ((rd (t.addr + 1)).toNat.testBit 0 && (rd t.addr).toNat == t.fmt.code
      && (rd (t.addr + 2)).toNat == t.slotOf && (rd (t.addr + 3)).toNat == t.genOf
      && readLe rd (t.addr + 4) 4 == t.churnBlocks && readLe rd (t.addr + 8) 8 == t.stream)

/-- EXPAND (R204). -/
def expandOp : Op :=
  { required := fun _ => [0, 1]
    params := [0, 1]
    churn := fun _ => [1]
    relate := fun c => [(1, [1], churnHeaderOk c.rd (c.must 1))]
    lengths := fun c => [(1, expandFrom c + (c.must 0).numel ≤ (c.must 1).numel)]
    formats := fun c => [(0, (c.must 0).fmt == (c.must 1).fmt), (1, (c.must 1).churn)]
    shapes := fun c =>
      [(0, !(c.must 0).fmt.isF8 || (expandFrom c == 0 && (c.must 0).ext == (c.must 1).ext)),
       (1, (c.must 1).churnBlocks ≤ 2 ^ 32)]
    run := expandRun }

def execExpand (p g : Nat) (s : State) : Host.Outcome State Fault Refusal :=
  .next (issue 0x0029 (fun _ => true) expandOp p g s)

end Sys2Proof.Machine
end

