-- ==== Sys2Proof/Machine/Roce.lean ====
section
/-! DEFINITION. RDMA, acknowledgements and retries, congestion, and carriage between farms (R334,
R339 to R342, R352). -/

namespace Sys2Proof.Machine
open Sys2Proof

/-- A queue pair enters error; what it carried between farms goes another way (R342, R352). -/
def State.failAndMove (s : State) (q : Nat) : State :=
  let cs := carriages (s.qp q).outgoing
  cs.foldl State.routeMsg (s.failQp q)

/-! ### RDMA (R339) -/

/-- Where a range of an RDMA request falls. -/
inductive RdmaRange where
  | inside | outside | refused
  deriving DecidableEq, Repr

/-- A range in the CXL window needs the tier (R231, R234; DESIGN CHOICE, log entry 17). -/
def rdmaRange (s : State) (p a n : Nat) : RdmaRange :=
  if !touchesAny a n then .outside
  else match (s.pad p).allocOf a n with
    | some (_, x) =>
      if x.kind = 0 || (x.kind = 2 && s.tiers.cxlPresent) then .inside else .refused
    | none => .refused

/-- A request reaches a paddock queue pair. -/
def rdmaReaches (s : State) (q : Nat) : Bool := 66 ≤ q && q < 4096 && s.reaches q

/-- NAK for remote access error; a range error is counted, a wrong key is not (R339). -/
def State.refuseAccess (s : State) (q : Nat) (counted : Bool) : State :=
  let s := if counted then s.addObj 0x380E (s.qp q).port 1 else s
  s.nakAndFail q (.nakAccess q)

/-- An RDMA WRITE that its range lets pass. -/
def rdmaWrite (s : State) (q rkey addr : Nat) (data : List Byte) : State :=
  let x := s.qp q
  if rkey != x.rkey then s.refuseAccess q false
  else if data.isEmpty then s.ackOn q
  else match rdmaRange s x.paddock addr data.length with
    | .inside => ((plainWrite s x.paddock (placeAt addr data)).modPad x.paddock fun d =>
        d.dropStaged addr data.length).ackOn q
    | .outside => (s.countOutside x.paddock true).ackOn q
    | .refused => s.refuseAccess q true

/-- An RDMA READ that its range lets pass. -/
def rdmaRead (s : State) (q rkey addr len : Nat) : State :=
  let x := s.qp q
  let answer := fun (b : List Byte) (s : State) =>
    s.post q 3 (packets len) (.readResponse q b)
  if 2 ^ 31 < len then s.nakAndFail q (.nakInvalid q)
  else if rkey != x.rkey then s.refuseAccess q false
  else if len = 0 then answer [] s
  else match rdmaRange s x.paddock addr len with
    | .inside => answer (s.bytesAt x.paddock addr len) s
    | .outside => answer (List.replicate len 0) (s.countOutside x.paddock false)
    | .refused => s.refuseAccess q true

/-- The range of a request. -/
def RdmaRequest.range : RdmaRequest → Nat × Nat
  | .write _ a d => (a, d.length)
  | .read _ a n => (a, n)

/-- A request reaches an allocation that is still being zeroed (R216). -/
def rdmaWaits (s : State) (p : Nat) (x : RdmaRequest) : Bool :=
  (s.pad p).allocs.any fun e => e.2.zeroing && rangesMeet x.range.1 x.range.2 e.2.base e.2.len

def serveRdma (s : State) (q : Nat) (x : RdmaRequest) : State :=
  match x with
  | .write k a d => rdmaWrite s q k a d
  | .read k a n => rdmaRead s q k a n

/-- A request is done, or waits for the zeroing of its allocation; those behind it on its queue pair wait too. -/
def takeRdma (s : State) (q : Nat) (x : RdmaRequest) : State :=
  if !(s.qp q).held.isEmpty || rdmaWaits s (s.qp q).paddock x then s.modQp q fun y => { y with held := y.held ++ [x] }
  else serveRdma s q x

/-- Do the requests that wait on a queue pair, as far as none waits for zeroing. -/
def drainRdma : Nat → Nat → State → State
  | 0, _, s => s
  | n + 1, q, s =>
    match (s.qp q).held with
    | [] => s
    | x :: r =>
      if rdmaWaits s (s.qp q).paddock x then s
      else drainRdma n q (serveRdma (s.modQp q fun y => { y with held := r }) q x)

/-- A paddock's queue pairs hold requests, or held some when they failed that a program waits behind (R340). -/
def State.holds (s : State) (p : Nat) : Bool :=
  (s.qps.any fun x => x.paddock == p && !x.held.isEmpty)
    || (s.pad p).programs.any fun x => !x.active && !(s.qp x.qp).ready

/-- Do what waits on the queue pairs of a paddock, then start the programs that waited for it. -/
def State.serveHeld (s : State) (p : Nat) : State :=
  if s.holds p then
    startAll (s.qps.foldl (fun s x => if x.paddock = p then drainRdma x.held.length x.index s else s) s) p
  else s

def execRdmaWrite (x : Arrival) (rkey addr : Nat) (data : List Byte) (s : State) :
    Host.Outcome State Fault Refusal :=
  .next (
    if !rdmaReaches s x.q then s
    else (takeRdma (s.framesIn (s.qp x.q).port (packets data.length)) x.q (.write rkey addr data)).answerMark x)

def execRdmaRead (x : Arrival) (rkey addr len : Nat) (s : State) : Host.Outcome State Fault Refusal :=
  .next (
    if !rdmaReaches s x.q then s
    else (takeRdma (s.framesIn (s.qp x.q).port 1) x.q (.read rkey addr len)).answerMark x)

/-- A request outside the subset (R334). -/
def execUnsupportedRoceRequest (x : Arrival) (s : State) : Host.Outcome State Fault Refusal :=
  let q := x.q
  .next (
    if q < 2 || 4096 ≤ q || !s.reaches q then s
    else
      let cs := carriages (s.qp q).outgoing
      let s := ((s.framesIn (s.qp q).port 1).nakAndFail q (.nakInvalid q)).answerMark x
      cs.foldl State.routeMsg s)

/-! ### As requester (R340) -/

/-- Try the outstanding messages again, or give up past the retry count. -/
def State.retry (s : State) (q : Nat) : State :=
  let x := s.qp q
  if x.retryCount ≤ x.retries then s.failAndMove q
  else (s.modQp q fun x => { x with retries := x.retries + 1 }).resend q

def execRoceAckTimeout (q : Nat) (s : State) : Host.Outcome State Fault Refusal :=
  .next (if !(s.qp q).ready || (s.qp q).outgoing.isEmpty then s else s.retry q)

/-- An ACK takes the oldest outstanding message; a NAK makes the device try again. -/
def execAckArrival (x : Arrival) (ok : Bool) (s : State) : Host.Outcome State Fault Refusal :=
  let q := x.q
  .next (
    if !s.reaches q || (s.qp q).outgoing.isEmpty then s
    else State.answerMark x <|
      let s := s.framesIn (s.qp q).port 1
      if ok then
        s.modQp q fun x => { x with outgoing := x.outgoing.drop 1, retries := 0, rnrRetries := 0 }
      else s.retry q)

/-- A receiver that is not ready: retried under the entry's RNR retry, 7 without limit. -/
def execRnrNak (a : Arrival) (s : State) : Host.Outcome State Fault Refusal :=
  let q := a.q
  let x := s.qp q
  .next (
    if !s.reaches q || x.outgoing.isEmpty then s
    else State.answerMark a <|
      let s := s.framesIn x.port 1
      if x.rnrRetry != 7 && x.rnrRetry ≤ x.rnrRetries then s.failAndMove q
      else (s.modQp q fun x => { x with rnrRetries := x.rnrRetries + 1 }).resend q)

/-! ### Congestion (R341) -/

/-- The minimum send rate as parts per million of the line rate. -/
def State.minRate (s : State) (port : Nat) : Nat := min 1000000 (s.obj 0x3809 0 * 1000000 / s.lineRate port)

def execCnpReceived (q : Nat) (s : State) : Host.Outcome State Fault Refusal :=
  .next (
    if !s.reaches q then s
    else
      let port := (s.qp q).port
      let t := s.framesIn port 1
      if s.obj 0x3807 0 = 0 then t
      else t.modQp q fun x => { x with rate := max (s.minRate port) (x.rate / 2) })

def execEcnRateRise (q : Nat) (s : State) : Host.Outcome State Fault Refusal :=
  .next (
    if !(s.qp q).ready then s
    else s.modQp q fun x => { x with rate := min 1000000 (x.rate + 50000) })

/-- Pauses in quanta of 512 bit times; a pause of 0 ends one, and what it held goes out. Priorities without PFC do not
heed it. -/
def execPfcPause (port : Nat) (pauses : List (Nat × Nat)) (s : State) :
    Host.Outcome State Fault Refusal :=
  .next (
    if !s.portUp port then s
    else
      let on := pauses.filter fun x => (s.obj 0x3805 port).testBit x.1 && x.1 < 8
      let kept := s.pauses.filter fun x => !(x.1 == port && on.any fun y => y.1 == x.2.1)
      State.drainPort port s.outbox.length { s.framesIn port 1 with
        pauses := kept ++ (on.filter fun x => x.2 != 0).map fun x =>
          (port, x.1, s.power.upNs + 512 * x.2 / s.lineRate port) })

/-! ### Ports (R352) -/

/-- A logical port goes down. Its queue pairs fail later, when their retries run out. -/
def execLogicalPortDown (port : Nat) (s : State) : Host.Outcome State Fault Refusal :=
  .next (if s.obj 0x3801 port = 2 || s.obj 0x3801 port = 1 then
      { s.setObj 0x3801 port 0 with
        pauses := s.pauses.filter fun x => x.1 != port
        outbox := s.outbox.filter fun x => x.port != port }
    else s)

/-- A frame dropped on receipt is counted, whatever the cause (R334, R352, R355). -/
def execFrameDropped (port : Nat) (_cause : DropCause) (s : State) : Host.Outcome State Fault Refusal :=
  .next (if s.portUp port then (s.framesIn port 1).addObj 0x380D port 1 else s)

/-! ### Carriage between farms (R342) -/

/-- A carried message that is whole: its CRCs, its length, its reserved fields. -/
def carriageOk (header payload : List Byte) : Bool :=
  let h := parseMsg header
  header.length == 64 && headerCrcOk header && payload.length == 64 * h.slots
    && payloadCrc payload == h.crc && h.slots ≤ 1024

/-- A message carried from another farm: checked, its hops set to 0, and routed within this farm from
phase 0. Entry 1 carries formation messages as datagrams. -/
def execFabricCarriageReceived (a : Arrival) (header payload : List Byte) (s : State) :
    Host.Outcome State Fault Refusal :=
  let q := a.q
  let x := s.qp q
  let h := parseMsg header
  .next (
    if q = 0 || 66 ≤ q || !s.reaches q then s
    else State.answerMark a <|
      let s := s.framesIn x.port (packets (header.length + payload.length))
      let s := if q = 1 then s else s.ackOn q
      let s := s.modQp q fun x => { x with received := (x.received + 1) % 2 ^ 64 }
      if !carriageOk header payload then s
      else if h.type = 0 || 6 < h.type then s.addObj 0x5405 0 1
      else if reservedSet header then s.addObj 0x5404 0 1
      else
        s.accept { header := MsgHeader.bytes { h with hops := 0, lane := laneOf h.priority 0 }
                   payload := payload })

end Sys2Proof.Machine
end

