-- ==== Sys2Proof/Machine/Faults.lean ====
section
/-! DEFINITION. Detected errors, targeted tests, retirement and spares, and the degraded device (R131,
R184, R264, R330, R357 to R362, R468). -/

namespace Sys2Proof.Machine
open Sys2Proof

/-- The units of a class, where the class numbers the units that a parity error or a test can name. -/
def unitCount (c : UnitClass) : Nat :=
  match c with
  | .plot => 408 | .stripBank => 408 | .edgeEngine => 24 | .hbmBlock => 12 | .chipLink => 48
  | .hostPort => 8 | .collectiveEngine => 4 | .drillUnit => 25 | .controlCore => 32 | .cxl => 16
  | .flash => 128 | .directoryBank => 17 | .device => 1 | .job => 8

/-- The units that meet parity: all but the ones that R357 protects in another way. -/
def hasParity (c : UnitClass) : Bool :=
  match c with
  | .plot => true | .stripBank => true | .edgeEngine => true | .collectiveEngine => true
  | .drillUnit => true | .controlCore => true | .directoryBank => true | .chipLink => true
  | .hostPort => true
  | _ => false

/-- The unit that a test names: the lanes of a host port go by its lower logical port (R468). -/
def testUnit (cls : UnitClass) (unit : Nat) : UnitId := (cls, if cls = .hostPort then 2 * (unit / 2) else unit)

/-- Whether object 0x2401 selects a unit for a phase of the self-test (R458, R466). Phase 2 takes the plots of eight strips a wave. -/
def Bist.tests (b : Bist) (phase wave : Nat) (u : UnitId) : Bool :=
  let on := fun (k : Nat) => b.classes.testBit k
  u.2 < unitCount u.1 && (match u.1 with
    | .plot => (phase == 1 && on 0) || (phase == 2 && on 1 && u.2 / 17 / 8 == wave)
    | .stripBank => phase == 1 && on 2
    | .directoryBank => phase == 1 && on 3
    | .edgeEngine => phase == 3 && on 4
    | .collectiveEngine => phase == 3 && on 5
    | .drillUnit => phase == 3 && on 6
    | .controlCore => (phase == 1 || phase == 3) && on 7 && u.2 < 30
    | .hbmBlock => phase == 4 && on 8
    | .chipLink => phase == 5 && on 9 && b.links.testBit u.2
    | .hostPort => phase == 5 && on 10 && b.ports.testBit u.2
    | _ => false)

def State.isRetired (s : State) (u : UnitId) : Bool := s.faults.retired.contains u
def State.isTesting (s : State) (u : UnitId) : Bool := s.faults.testing.any fun x => x.unit == u

/-! ### The degraded device (R362) -/

/-- Every program of a paddock stops with 0x51. -/
def stopPrograms (p : Nat) (s : State) : State :=
  s.modPad p fun d => { d with programs := d.programs.map fun pr =>
    if pr.active && pr.stop.isNone then { pr with stop := some ⟨0x51, 0xFFFFFFFF, 0, 0xFFFF⟩ } else pr }

/-- The device becomes degraded: its programs stop, and its jobs recover with this device counted as
failed. -/
def State.degrade (s : State) : State :=
  if s.faults.degraded then s
  else
    let s := { s with
      faults := { s.faults with degraded := true }
      bist := { s.bist with passedSince := false } }
    (List.range 8).foldl (fun s p =>
      if (s.pad p).present then (stopPrograms p s).detect p 0x51 (some s.address) else s) s

/-! ### A unit that meets a marked byte runs its work again -/

/-- A status returned by an instruction in flight, or recorded by a batch in preparation (R267). -/
def addStatus (s : State) (p n st : Nat) : State :=
  s.modPad p fun d => { d with
    flights := modWhere d.flights (fun f => f.serial == n) fun f => { f with statuses := f.statuses ++ [st] }
    batches := modWhere d.batches (fun b => b.flight == n && !b.waits) fun b =>
      { b with statuses := b.statuses ++ [st] } }

/-- A DECODE_BATCH that loses a read, or the last unit of a kind, ends without writing a batch; a batch in
preparation goes (R264). -/
def dropBatch (s : State) (p n : Nat) : State :=
  s.modPad p fun d =>
    if d.batches.any fun b => b.flight == n then
      { d with
        batches := d.batches.filter fun b => b.flight != n
        samples := d.samples.filter fun x => x.flight != n
        flights := modWhere d.flights (fun f => f.serial == n) fun f => { f with hold := .none } }
    else d

/-- The batches in decode of which a sample that is not over passes a test. -/
def State.batchesThat (s : State) (f : Nat → Sample → Bool) : List (Nat × Nat) :=
  (List.range 8).flatMap fun p =>
    (((s.pad p).samples.filter fun x => x.stage != .over && f p x).map fun x => (p, x.flight)).eraseDups

/-- One of several instructions, by a free value: which of them the faulty unit was serving (log
entry 27). -/
def chooseOne (s : State) (l : List (Nat × Nat)) : Option (Nat × Nat) × State :=
  let l := l.eraseDups
  match l with
  | [] => (none, s)
  | [x] => (some x, s)
  | _ =>
    let (w, s) := s.draw
    (l[w % l.length]?, s)

/-- A status for the instruction that a test or an error names. -/
def addStatusTo (s : State) (x : Option (Nat × Nat)) (st : Nat) : State :=
  match x with
  | some (p, n) => addStatus s p n st
  | none => s

/-- Every instruction in flight that a test picks. -/
def State.flightsThat (s : State) (f : Flight → Bool) : List (Nat × Nat) :=
  (List.range 8).flatMap fun p => ((s.pad p).flights.filter f).map fun x => (p, x.serial)

/-- The instructions that a unit may be serving. -/
def State.servedBy (s : State) (u : UnitId) : List (Nat × Nat) :=
  let started := fun (k : Nat) (ok : Started → Bool) =>
    ((s.strip k).started.filter ok).map fun x => (x.paddock, x.flight)
  match u.1 with
  | .plot =>
    let st := s.strip (u.2 / 17)
    started (u.2 / 17) fun x => (st.map[x.plot]?).getD none == some (u.2 % 17)
  | .stripBank => started (u.2 / 17) fun _ => true
  | .edgeEngine => started u.2 fun x => x.plot == 16
  | .collectiveEngine => s.flightsThat fun f => f.hold == .fabric
  | .directoryBank => s.flightsThat fun f => f.hold == .fabric && (f.opcode == 0x0031 || f.opcode == 0x0032)
  | .drillUnit => s.batchesThat fun _ x => x.stage == .admitted && x.unit == some u.2
  | _ => []

/-- The edge engine of a strip becomes unavailable: the swath in progress is discarded unwritten, and
it and every unclaimed swath go to the plots (R184). -/
def Strip.dropEdge (st : Strip) (new : UnitState) : Strip :=
  let back := st.started.filter fun x => x.plot == 16
  { st with
    edge := new
    parked := []
    started := st.started.filter fun x => x.plot != 16
    contexts := st.contexts.map fun c =>
      if !c.edge then c
      else
        let c := { c with edge := false }
        match back.find? fun x => c.of x with
        | some x =>
          match (List.range 16).find? fun q => (st.map[q]?).getD none |>.isSome with
          | some q => setRange c q (x.unit, x.unit + 1)
          | none => c
        | none => c
    waiting := st.waiting.map fun c => { c with edge := false } }

/-- A unit enters its targeted test. An error in a unit that the self-test has in hand is that unit's
result there, and no targeted test runs (R461). -/
def enterTest (s : State) (u : UnitId) (detection paddock detail : Nat) (victim : Option (Nat × Nat)) : State :=
  if s.bist.state = 1 && s.bist.tests s.bist.phase s.bist.wave u then
    { s with bist := { s.bist with failed := s.bist.failed ++ [u] } }
  else
  let s := { s with faults := { s.faults with testing := s.faults.testing ++ [⟨u, detection, paddock, detail, victim, false⟩] } }
  match u.1 with
  | .edgeEngine => s.setStrip u.2 ((s.strip u.2).dropEdge .testing)
  | _ => s

/-- The paddock that holds the strip of a unit, or 0xFF where the unit has no strip or no paddock holds
it. -/
def State.holderOf (s : State) (u : UnitId) : Nat :=
  let held := fun (k : Nat) =>
    ((List.range 8).find? fun p => (s.pad p).phase != .absent && (s.stripMask p).testBit k).getD 0xFF
  match u.1 with
  | .plot | .stripBank => held (u.2 / 17)
  | .edgeEngine => held u.2
  | _ => 0xFF

/-- Note an error toward the limit of object 0x9010. -/
def noteError (s : State) (u : UnitId) : State :=
  { s with faults := { s.faults with errors := s.faults.errors ++ [(u, s.now)] } }

/-! ### Retirement (R361) -/

/-- Errors of a unit within the last 3,600 s. -/
def State.recentErrors (s : State) (u : UnitId) : Nat :=
  (s.faults.errors.filter fun e => e.1 == u && s.now < e.2 + 3600000000000).length

/-- A unit returns, unstarted, to the front of a range, where it joins it. -/
def returnUnit (q : Nat) (c : Context) (u : Nat) : Context :=
  let (b, e) := rangeOf c q
  if b < e && u + 1 = b then setRange c q (u, e)
  else if b < e then { c with returned := c.returned ++ [u] }
  else setRange c q (u, u + 1)

/-- A plot without a spare: its started units return, unstarted, to the front of its range (R131). Parked plots wake
(DESIGN CHOICE, log entry 115). -/
def Strip.losePlot (st : Strip) (q : Nat) : Strip :=
  let back := (st.started.filter fun x => x.plot == q).reverse
  { st.setPlot q .idle with
    map := st.map.set q none
    started := st.started.filter fun x => x.plot != q
    parked := []
    contexts := st.contexts.map fun c => (back.filter fun x => c.of x).foldl (fun c x => returnUnit q c x.unit) c }

/-- A unit's run so far is discarded and counted, and it begins again (R131, R358, R413). -/
def State.abandon (k q : Nat) (s : State) (u : Started) : State :=
  match ((s.strip k).plot q).runs.find? fun r => r.unit == u with
  | none => s
  | some r => (s.countTally k q { unit := u, code := 0x03, n := r.live + r.dead }).modPlot k q fun e => e.restart u

/-- The unit in which a parity error was met runs again: on its plot, or a swath on the edge engine (R131, R184). -/
def State.rerun (s : State) (u : UnitId) (x : Option (Nat × Nat)) : State :=
  match x with
  | none => s
  | some (p, n) =>
    let mine := fun (y : Started) => y.paddock == p && y.flight == n
    match u.1 with
    | .edgeEngine =>
      match (s.strip u.2).started.find? fun y => y.plot == 16 && mine y with
      | some y => s.setStrip u.2 ((s.strip u.2).finish y).settle
      | none => s
    | .plot | .stripBank =>
      let k := u.2 / 17
      let here := fun (q : Nat) => u.1 == .stripBank || ((s.strip k).map[q]?).getD none == some (u.2 % 17)
      match (List.range 16).findSome? fun q =>
          if here q then (((s.strip k).plot q).runs.find? fun r => mine r.unit).map fun r => (q, r.unit) else none with
      | some (q, y) => (s.countTally k q { unit := y, code := 0x54, n := 1 }).abandon k q y
      | none => s
    | _ => s

/-- Retire a plot: the strip's spare takes its logical number, or the number is left without a plot. -/
def retirePlot (s : State) (unit : Nat) : State × Bool :=
  let k := unit / 17
  let phys := unit % 17
  let st := s.strip k
  match (List.range 16).find? fun q => (st.map[q]?).getD none == some phys with
  | none => (s.setStrip k { st with spareFree := false }, true)
  | some q =>
    let s := (st.plot q).runs.foldl (fun s r => State.abandon k q s r.unit) s
    let st := s.strip k
    if st.spareFree then
      (s.setStrip k { st with map := st.map.set q (some 16), spareFree := false }, true)
    else
      let hit := (st.started.filter fun x => x.plot == q).map fun x => (x.paddock, x.flight)
      let s := s.setStrip k (st.losePlot q)
      ((hit.foldl (fun s x => addStatus s x.1 x.2 0x151) s).degrade, false)

/-- How many units of a list are retired. -/
def State.retiredIn (s : State) (f : UnitId → Bool) : Nat := (s.faults.retired.filter f).length

/-- The sample that a unit holds is decoded again on another unit of its kind (R264). -/
def State.restartSample (s : State) (u : Nat) : State :=
  let again := fun (x : Sample) =>
    if x.unit == some u && x.stage != .over then { x with stage := .waiting, unit := none } else x
  { s with paddocks := s.paddocks.map fun d => { d with samples := d.samples.map again } }

/-- Retire a unit; the answer says whether a spare, another unit of its kind or, for an edge engine, the plot
path takes over (R361). -/
def retireUnit (s : State) (u : UnitId) : State × Bool :=
  let others := fun (s : State) (f : Nat → Bool) (total : Nat) =>
    if s.retiredIn (fun x => x.1 == u.1 && f x.2) < total then (s, true) else (s.degrade, false)
  let s := { s with faults := { s.faults with retired := s.faults.retired ++ [u] } }
  let s := if u.1 = .chipLink then s else s.addObj 0x9011 0 1
  match u.1 with
  | .plot => retirePlot s u.2
  | .stripBank => others s (fun n => n / 17 == u.2 / 17) 2
  | .directoryBank => others s (fun _ => true) 2
  | .edgeEngine =>
    let s := s.setStrip u.2 ((s.strip u.2).dropEdge .retired)
    let hit := ((s.strip u.2).contexts ++ (s.strip u.2).waiting).map fun c => (c.paddock, c.flight)
    let edge := s.flightsThat fun f => f.opcode == 0x000C
    ((hit.filter edge.contains).eraseDups.foldl (fun s x => addStatus s x.1 x.2 0x51) s, true)
  | .collectiveEngine =>
    let s := s.setObj 0x5801 0 (s.obj 0x5801 0 - 1)
    let hit := s.flightsThat fun f => f.hold == .fabric
    let (s, more) := others s (fun _ => true) 4
    (hit.foldl (fun s x => addStatus s x.1 x.2 (if more then 0x51 else 0x151)) s, more)
  | .drillUnit =>
    if 24 ≤ u.2 then (s.degrade, false)
    else
      let video := decide (u.2 < 16)
      let (s, more) := others s (fun n => if video then n < 16 else 16 ≤ n && n < 24) (if video then 16 else 8)
      if more then (s.restartSample u.2, true)
      else ((s.batchesThat fun _ x => x.video == video).foldl (fun s x =>
        dropBatch (addStatus s x.1 x.2 0x151) x.1 x.2) s, false)
  | .hostPort =>
    let down := fun (s : State) (n : Nat) =>
      let s := s.setObj 0x3801 n 0
      s.qps.foldl (fun s x => if x.port = n && x.ready then s.failAndMove x.index else s) s
    others ((s.logicalOf (u.2 / 2)).foldl down s) (fun _ => true) 4
  | .controlCore => (s.degrade, false)
  | .chipLink => (s.retireLink u.2 2, (s.freeSpare u.2).isSome)
  | .hbmBlock => (s.addObj 0x4004 0 1, true)
  | _ => (s, true)

/-- A parity error in the buffer of a logical port costs the packet, which is counted (R352). -/
def dropInPort (s : State) (cls : UnitClass) (unit : Nat) : State :=
  if cls = .hostPort && s.portUp unit then s.addObj 0x380D unit 1 else s

/-- A detected error in a unit: its work runs again with 0x50, and it is tested. An error in a unit
under test is part of that test (R360). -/
def execParityError (cls : UnitClass) (unit : Nat) (s : State) : Host.Outcome State Fault Refusal :=
  let u := testUnit cls unit
  .next (
    if !s.power.running || unitCount cls ≤ unit || !hasParity cls || s.isRetired u then s
    else if s.isTesting u then noteError s u
    else
      let (x, s') := chooseOne (noteError (dropInPort s cls unit) u) (s.servedBy u)
      enterTest ((addStatusTo s' x 0x50).rerun u x) u 0 (s.holderOf u) (if cls = .chipLink then unit else 0) x)

/-- A targeted test ends: the test alone decides, but a unit with more errors than object 0x9010 in
3,600 s is retired all the same (R360). -/
def execTargetedTestEnd (cls : UnitClass) (unit : Nat) (pass : Bool) (s : State) :
    Host.Outcome State Fault Refusal :=
  let u := testUnit cls unit
  .next (match s.faults.testing.find? fun x => x.unit == u with
    | none => s
    | some e =>
      let s := { s with faults := { s.faults with testing := s.faults.testing.filter fun x => x.unit != u } }
      let entry := fun (st outcome : Nat) =>
        ({ status := st, cls := cls, unit := u.2, detection := e.detection, outcome := outcome,
           paddock := e.paddock, detail := e.detail } : LogEntry)
      if pass && s.recentErrors u ≤ s.obj 0x9010 0 then
        let s := s.log (entry 0x50 1)
        if cls = .edgeEngine then s.setStrip unit { s.strip unit with edge := .available } else s
      else
        let (t, spare) := if e.counted then (s, true) else retireUnit s u
        let t := addStatusTo t e.victim (if spare then 0x51 else 0x151)
        if cls = .chipLink then t else t.log (entry 0x51 (if spare then 2 else 3)))

end Sys2Proof.Machine
end

