-- ==== Sys2Proof/Machine/Tiers.lean ====
section
/-! DEFINITION. The tiers at work: off-load and fetch, recompute, staging, the end of zeroing and of a
release, held form, retention, and the events of HBM, CXL and flash (R208, R215 to R224, R228, R231 to
R241). -/

namespace Sys2Proof.Machine
open Sys2Proof

/-! ### Off-load (R219, R220) -/

/-- With the free quota below the headroom, candidates are off-loaded until it reaches the headroom or
none is left; what is already on its way counts. -/
def execOffloadStart (p : Nat) (s : State) : Host.Outcome State Fault Refusal :=
  let d := s.pad p
  let lack := d.obj 0x4024 0 - (s.freeQuota p + d.offloading)
  .next (
    if !d.present || !s.tiers.cxlPresent || lack = 0 then s
    else s.modPad p fun d => ((s.candidates p).take lack).foldl (fun d c => startOffload d c.1 c.2) d)

/-- The blocks in a place, oldest movement first: entry, index, order. -/
def Paddock.moving (d : Paddock) (w : Place) : List (Nat × Nat × Nat) :=
  sortBy (fun x y => decide (x.2.2 ≤ y.2.2)) (d.allocs.flatMap fun e =>
    (e.2.blocks.filter fun b => b.place == w).map fun b => (e.1, b.index, b.order))

/-- CXL acknowledges the oldest block on its way, and its charge is freed for what waits for it. -/
def execOffloadComplete (p : Nat) (s : State) : Host.Outcome State Fault Refusal :=
  .next (match (s.pad p).moving .offloading with
    | [] => s
    | (j, i, _) :: _ => (s.modPad p fun d => d.evict j i).grant p)

/-! ### Fetch (R220, R221) -/

/-- The first allocation that the lookahead reads through a block in CXL, with the range. -/
def firstWanted (s : State) (p : Nat) : Option (Nat × Nat × Nat) :=
  (s.lookahead p).findSome? fun (x, n) =>
    match (s.pad p).allocOf x n with
    | some (j, a) => if a.kind == 1 && a.reads x n .offloaded then some (j, x, n) else none
    | none => none

/-- The fetch of blocks of an allocation starts, by ascending address, as far as the free quota holds them. -/
def startFetch (d : Paddock) (j free : Nat) (l : List Nat) : Paddock :=
  { d.modAlloc j (fun a => { a with
      wanted := true
      blocks := a.blocks.map fun b =>
        if (l.take free).contains b.index then { b with place := .fetching, order := d.moves } else b }) with
    moves := d.moves + 1 }

/-- The fetch for the record that entered the lookahead first, room being made first; without room it waits. -/
def execFetchStart (p : Nat) (s : State) : Host.Outcome State Fault Refusal :=
  .next (
    if !(s.pad p).present || !s.tiers.cxlPresent then s
    else match firstWanted s p with
      | none => s
      | some (j, x, n) =>
        let l := match (s.pad p).alloc j with
          | some a => (a.blocks.filter fun b => b.place == .offloaded && blockMeets a b x n).map (·.index)
          | none => []
        match s.makeRoom p l.length with
        | none => s
        | some s => s.modPad p fun d => startFetch d j (s.freeQuota p) l)

/-- Instructions stop waiting for an allocation, with the statuses this brings them. -/
def stopWaiting (d : Paddock) (j : Nat) (statuses : List Nat) : Paddock :=
  { d with flights := d.flights.map fun f =>
      if f.waits.contains j then
        { f with waits := f.waits.filter (· != j), statuses := f.statuses ++ statuses } else f }

/-- The race of an allocation's recompute program is decided: its units' cycles are retired or wasted, and those of units
under way are wasted (R413). -/
def settleRace (s : State) (p j : Nat) (won : Bool) : State :=
  let d := s.pad p
  let prs := d.programs.filter fun x => x.recompute == some j
  let owed := prs.flatMap (·.owed)
  let s := owed.foldl (fun s o => s.count o.strip o.plot (if won then 0x02 else 0x03) o.cycles
    { priv := some 9, cls := some o.cls }) s
  let gone := (d.flights.filter fun f => prs.any fun x => x.serial == f.prog).map (·.serial)
  (List.range 24).foldl (fun s k => (List.range 16).foldl (fun s q =>
    ((s.strip k).plot q).runs.foldl (fun s r =>
      if r.unit.paddock = p && gone.contains r.unit.flight then
        s.countTally k q { unit := r.unit, code := 0x03, n := r.live + r.dead }
      else s) s) s) s

/-- Remove the recompute program of an allocation, with its instructions. -/
def dropRecompute (s : State) (p j : Nat) (won : Bool) : State :=
  ((settleRace s p j won).modPad p fun d =>
    let gone := (d.programs.filter fun x => x.recompute == some j).map (·.serial)
    { d with
      programs := d.programs.filter fun x => x.recompute != some j
      flights := d.flights.filter fun f => !gone.contains f.prog }).sweep p

/-- Put back the bytes that a recompute program has overwritten. -/
def putBack (d : Paddock) (j : Nat) : Paddock :=
  match d.alloc j with
  | some a =>
    match a.saved with
    | some m =>
      { d.modAlloc j (fun a => { a with saved := none }) with
        hbm := memWrites 0 (memClear d.hbm a.base a.len) m }
    | none => d
  | none => d

/-- A fetch completes with every block resident: its blocks stay clean, what a recompute program wrote
is discarded, and the readers go on. -/
def execFetchComplete (p j : Nat) (s : State) : Host.Outcome State Fault Refusal :=
  .next (match (s.pad p).alloc j with
    | none => s
    | some a =>
      let n := (a.blocks.filter fun b => b.place == .fetching).length
      if !s.tiers.cxlPresent then s
      else if n = 0 then
        if a.blocks.any fun b => b.place == .offloaded || b.place == .lost then s
        else s.modPad p fun d => stopWaiting d j []
      else
        let s := dropRecompute s p j false
        s.modPad p fun d =>
          let d := (putBack d j).addObj 0x4027 0 n
          let d := d.modAlloc j fun a => Alloc.settleHeld { a with
            blocks := a.blocks.map fun b =>
              if b.place == .fetching then { b with place := .resident, held := if b.clean then b.held else none }
              else b }
          if a.blocks.any fun b => b.place == .lost then d else stopWaiting d j [])

/-! ### Deadlines and recompute (R222, R223) -/

/-- The bytes still outstanding for an allocation. -/
def Alloc.outstanding (a : Alloc) : Nat :=
  ((a.blocks.filter fun b => b.place == .fetching).map Block.stored).foldl (· + ·) 0

/-- Paddocks with outstanding CXL reads. -/
def State.cxlReaders (s : State) : Nat :=
  ((List.range 8).filter fun p => (s.pad p).allocs.any fun e =>
    e.2.blocks.any fun b => b.place == .fetching).length

/-- Start the recompute program of an allocation. -/
def startRecompute (d : Paddock) (j : Nat) (a : Alloc) : Paddock :=
  let pr : Program :=
    { serial := d.nextSerial, qp := 0, ident := 0, flags := 0, nI := a.recI, nD := a.recD,
      body := .byRef a.recAddr, tableAddr := 0, tableEntries := 0, mask := 0, pieces := 0,
      recompute := some j, active := true, next := 0, entered := 0, issued := 0, completed := 0,
      seen := [], stop := none, waitSince := none, deferred := [], barrier := none }
  { d.modAlloc j (fun a => { a with
      saved := some (d.hbm.filter fun c => a.base ≤ c.1 && c.1 < a.base + a.len), wanted := false }) with
    programs := d.programs ++ [pr], nextSerial := d.nextSerial + 1 }.lookIn

/-- The rate at which a paddock's CXL reads ran over the last 100 µs is a free value in MB/s, 0 where
nothing was read (log entry 28); then 242 GB/s is shared by the paddocks that read. -/
def State.cxlRate (s : State) : Nat × State :=
  let (w, s) := s.draw
  (if w = 0 then 242000 / max 1 s.cxlReaders else w, s)

/-- At a missed deadline Silo waits for the fetch, or starts the recompute program where its cost in µs
is less than E and there is room for it; for a lost block E is infinite (R222, R241). -/
def decideDeadline (s : State) (p j : Nat) (a : Alloc) : State :=
  let d := s.pad p
  let lost := a.blocks.any fun b => b.place == .lost
  let (rate, s) := s.cxlRate
  let cheap := lost || a.recCost * rate < a.outstanding
  let starts := a.recI != 0 && cheap && a.len / blockSize ≤ s.freeQuota p && d.activeCount < 16
    && !(d.programs.any fun x => x.recompute == some j)
  if starts then s.modPad p fun d => startRecompute d j a
  else if lost && a.recI = 0 then s.modPad p fun d => stopWaiting d j [0x11]
  else if a.wanted then
    s.modPad p fun d => (d.modAlloc j fun a => { a with wanted := false }).addObj 0x402A 0 1
  else s

/-- The deadline of the first fetch that an instruction waits for. -/
def execDeadlineDecision (p n : Nat) (s : State) : Host.Outcome State Fault Refusal :=
  .next (match (s.pad p).flights.find? fun f => f.serial == n with
    | none => s
    | some f =>
      match f.waits with
      | [] => s
      | j :: _ =>
        match (s.pad p).alloc j with
        | some a => decideDeadline s p j a
        | none => s.modPad p fun d => stopWaiting d j [])

/-- A recompute program is over. One that ran to its end makes every block fresh and resident, and its
readers return 0x12; one that stopped is abandoned and counted, and Silo waits for the fetch. -/
def execRecomputeComplete (p j : Nat) (s : State) : Host.Outcome State Fault Refusal :=
  let d := s.pad p
  .next (match d.programs.find? fun x => x.recompute == some j, d.alloc j with
    | some pr, some a =>
      if !programOver d pr then s
      else if pr.stop.isSome then
        (dropRecompute s p j false).modPad p fun d =>
          let d := (putBack d j).addObj 0x402C 0 1
          if a.blocks.any fun b => b.place == .lost then stopWaiting d j [0x11] else d
      else
        let readers := (d.flights.filter fun f => f.waits.contains j).length
        (dropRecompute s p j true).modPad p fun d =>
          let d := d.modAlloc j fun a => Alloc.settleHeld { a with
            saved := none
            blocks := a.blocks.map fun b => { b with place := .resident, clean := false, held := none } }
          (stopWaiting d j [0x12]).addObj 0x402B 0 readers
    | _, _ => s)

/-! ### Staging, zeroing, release (R215, R216, R224) -/

/-- The first part of a CXL operand that a record of the lookahead reads and that does not lie in the staging
area. -/
def firstUnstaged (s : State) (p : Nat) : Option StagePart :=
  (s.lookahead p).findSome? fun (x, n) =>
    match partsOf { addr := x, len := n, read := true, write := false, hint := 0 } with
    | y :: _ => if (s.pad p).staged.any fun z => z.addr == y.addr && z.len == y.len then none else some y
    | [] => none

/-- The next part of a flight's CXL operands is staged, or its write-back acknowledged. A number that names no
flight stages the first part of an operand that the lookahead reads (R221). -/
def stageNext (s : State) (p n : Nat) : State :=
  let d := s.pad p
  let area := s.obj 0x4011 p
  match d.flights.find? fun f => f.serial == n with
  | none =>
    match firstUnstaged s p with
    | none => s
    | some x => (d.stagePart area x none).elim s fun d => s.setPad p d
  | some f =>
    match f.stage with
    | [] => s
    | x :: r => (d.stagePart area x (some n)).elim s fun d =>
        s.setPad p { d with flights := modWhere d.flights (fun g => g.serial == n) fun g => { g with stage := r } }

def execStaging (p n : Nat) (s : State) : Host.Outcome State Fault Refusal :=
  .next (if s.tiers.cxlPresent then stageNext s p n else s)

/-- Zeroing ends, and the requests that waited for it are done in their order (R216). -/
def execAllocationZeroed (p j : Nat) (s : State) : Host.Outcome State Fault Refusal :=
  .next ((s.modPad p fun d => d.modAlloc j fun a => { a with zeroing := false }).serveHeld p)

/-- A releasing entry whose last user has completed becomes unused. -/
def execAllocationReleaseEnd (p j : Nat) (s : State) : Host.Outcome State Fault Refusal :=
  let d := s.pad p
  .next (match d.alloc j with
    | some a =>
      if a.releasing && !(d.flights.any fun f =>
          (d.program f.prog).any (fun pr => pr.recompute != some j)
            && f.spans.any fun x => rangesMeet x.addr x.len a.base a.len) then
        (((settleRace s p j false).modPad p fun d => d.free j).sweep p).grant p
      else s
    | none => s)

/-! ### Held form (R190 to R195, R208) -/

/-- What a 4,096-byte part of a block takes in held form, in 64-byte units, with the kind of block: under a loaded
codebook what R193 to R195 say; under the device's fixed codebook, which is not visible, a free value with the
limits of R195 (log entry 29). -/
def heldUnits (codes : Option (List Code)) (b : Nat) (raw : List Byte) (w : Nat) : Nat :=
  if raw.all (· == 0) then 0
  else match codes with
    | some l => (packBlock l b raw).stored.length / 64
    | none => if w % 59 = 0 then 64 else w % 59

/-- Put one part of a block into held form, and count it (R209). -/
def heldPart (p a b : Nat) (codes : Option (List Code)) (acc : Nat × State) (i : Nat) : Nat × State :=
  let (n, s) := acc
  let (w, s) := s.draw
  let units := heldUnits codes b (s.bytesAt p (a + 4096 * i) 4096) w
  (n + 64 * units, s.modPad p fun d =>
    (((d.addObj (if units = 0 then 0x6806 else if units = 64 then 0x6805 else 0x6804) 0 1).addObj 0x6807 0
      4096).addObj 0x6808 0 (64 * units)))

/-- Compact one resident block of a held activation. -/
def holdBlock (p j base : Nat) (codes : Option (List Code)) (s : State) (b : Block) : State :=
  match b.elem with
  | none => s
  | some e =>
    if b.place != .resident || b.held.isSome then s
    else
      let (n, s) := (List.range 8).foldl (heldPart p (base + blockSize * b.index) e codes) (0, s)
      s.modPad p fun d => d.modBlock j b.index fun b => { b with held := some n }

/-- The codebook slot of an allocation's held form: the one it has, or the one that object 0x6801 names where that
is loaded. -/
def slotOfHeld (d : Paddock) (a : Alloc) : Option Nat :=
  if a.blocks.any fun b => b.held.isSome then a.heldSlot
  else if (d.codebooks.getD (d.obj 0x6801 0) none).isSome then some (d.obj 0x6801 0) else none

/-- Silo compacts a held activation, a tensor of layout flag [1] and compression 0b00, whose last writer has
completed. -/
def execHeldFormCompaction (p j : Nat) (s : State) : Host.Outcome State Fault Refusal :=
  let d := s.pad p
  .next (match d.alloc j with
    | some a =>
      let busy := d.flights.any fun f => f.spans.any fun x => x.write && rangesMeet x.addr x.len a.base a.len
      if a.kind != 1 || !(a.blocks.any fun b => b.elem.isSome) || a.releasing || busy || d.obj 0x6800 0 = 0 then s
      else
        let slot := slotOfHeld d a
        let codes := slot.map fun k => canonical (loadedLengths d k)
        (a.blocks.foldl (holdBlock p j a.base codes) s).modPad p fun d => d.modAlloc j fun a =>
          Alloc.settleHeld { a with heldSlot := slot }
    | none => s)

/-! ### Retention (R227, R228) -/

/-- Blocks of the retained region. -/
def retainedRegion : Nat := 1195376640 / 32768

/-- The retained allocations with the blocks that the region has for each: by ascending base address, until it is full
(R227). -/
def retainedWanted (d : Paddock) : List (Nat × Nat) :=
  let as := sortBy (fun (x y : Nat × Alloc) => decide (x.2.base ≤ y.2.base))
    (d.allocs.filter fun e => e.2.kind == 0 && e.2.flags == 1 && !e.2.releasing)
  (as.foldl (fun (acc : List (Nat × Nat) × Nat) e =>
    let n := min (e.2.len / blockSize) acc.2
    (acc.1 ++ [(e.1, n)], acc.2 - n)) ([], retainedRegion)).1

def Paddock.retainedOf (d : Paddock) (j : Nat) : Nat := match d.alloc j with | some a => a.retained | none => 0

/-- The products of the plans that issued instructions still have in a strip. -/
def Strip.products (st : Strip) : List Product :=
  (st.contexts ++ st.waiting).flatMap fun c => (c.phase :: c.later).filterMap fun f =>
    match f.work.shape with | .product x => some x | _ => none

/-- Bytes of a plot store and of a strip store that issued plans use (R114, R228). -/
def State.planBytes (s : State) : Nat × Nat :=
  let l := s.strips.toList.flatMap Strip.products
  let top := fun (f : Product → Nat) => (l.map f).foldl max 0
  (top fun x => x.t1Bytes x.t1.1 x.t1.2.1 x.slice, top fun x => x.t2Bytes x.t2.1 x.t2.2)

/-- The store has room for `n` retained blocks beside what issued plans use. -/
def retainedFits (s : State) (n : Nat) : Bool :=
  let used := s.planBytes
  plotShare n + used.1 ≤ 2883584 && stripShare n + used.2 ≤ 8388608

/-- The next step of a filling: an allocation that holds more blocks than are its due gives them back; else one block
of the first that holds fewer, where there is space (R228; one block at a time: DESIGN CHOICE, log entry 137). -/
def fillStep (s : State) (p : Nat) : Option (Nat × Nat) :=
  let d := s.pad p
  let l := retainedWanted d
  match l.find? fun x => x.2 < d.retainedOf x.1 with
  | some x => some x
  | none =>
    if retainedFits s (d.retainedBlocks + 1) then
      (l.find? fun x => d.retainedOf x.1 < x.2).map fun x => (x.1, d.retainedOf x.1 + 1)
    else none

/-- A step of the filling of the retained region. -/
def execRetainedFill (p : Nat) (s : State) : Host.Outcome State Fault Refusal :=
  let d := s.pad p
  .next (
    if d.active && d.retainedOn && (s.stripsOf p).length = 24 then
      match fillStep s p with
      | some (j, n) => s.setPad p (d.keepRetained j n)
      | none => s
    else s)

/-! ### CXL (R231 to R234) -/

/-- Log an event of a tier. -/
def State.logTier (s : State) (cls : UnitClass) (unit status detection outcome detail : Nat) : State :=
  s.log { status := status, cls := cls, unit := unit, detection := detection, outcome := outcome,
          detail := detail }

/-- The devices that can be used: Type 3 with 256-byte flits, at most 8 per port and 16 in all, by
port and then by position. -/
def usableCxl (l : List CxlDevice) : List CxlDevice :=
  let ok := fun (q : Nat) => (l.filter fun x => x.port == q && x.type3 && x.flit256).take 8
  ok 0 ++ ok 1

/-- The width and the rate of the links of a port, used devices or not: 4 lanes at most where it is bifurcated
(R231, R243). -/
def portLink (cfg : List Nat) (l : List CxlDevice) (q : Nat) : Nat :=
  match l.find? fun x => x.port == q with
  | some x => min (if cfg.getD q 0 = 1 then 4 else 16) x.lanes + 256 * (x.gtps % 256)
  | none => 0

/-- Start-up enumeration: the usable devices form one interleave set. -/
def execCxlEnumeration (devices : List CxlDevice) (s : State) : Host.Outcome State Fault Refusal :=
  .next (
    if !s.power.running || s.power.cxlDone then s
    else
      let l := usableCxl devices
      let least := match l.map (·.capacity) with | [] => 0 | x :: r => r.foldl min x
      let total := (l.map (·.capacity)).foldl (· + ·) 0
      let tier := min (l.length * least) (8 * 2 ^ 40)
      let s := (devices.filter fun x => !x.type3).foldl (fun s x => s.logTier .cxl 0 0 7 0 x.port) s
      let s := ((s.setObj 0x4400 0 l.length).setObj 0x4404 0 tier).setObj 0x4405 0 (total - tier)
      let s := s.setObj 0x4403 0 (portLink s.tiers.bifurcation devices 0 + 65536 * portLink s.tiers.bifurcation devices 1)
      let s := l.zipIdx.foldl (fun s (x, i) => s.setObj 0x4430 i x.capacity) s
      { s with
        tiers := { s.tiers with cxlDevices := l, cxlPresent := !l.isEmpty }
        power := { s.power with cxlDone := true } })

/-- The readers in flight of a range return a status, or wait for the recompute of their allocation. -/
def failReaders (d : Paddock) (x n : Nat) (j : Option Nat) (status : Nat) : Paddock :=
  { d with flights := d.flights.map fun f =>
      if f.spans.any fun y => y.read && rangesMeet y.addr y.len x n then
        match j with
        | some j => if f.waits.contains j then f else { f with waits := f.waits ++ [j] }
        | none => { f with statuses := f.statuses ++ [status] }
      else f }

/-- The writers that wait for the fetch of a block return a status (R220, R234). -/
def failWriters (d : Paddock) (x n : Nat) (status : Nat) : Paddock :=
  { d with flights := d.flights.map fun f =>
      if f.spans.any fun y => y.write && rangesMeet y.addr y.len x n then
        { f with statuses := f.statuses ++ [status] } else f }

/-- A block that cannot be read again is lost: its readers take the recompute program, or return the
status. -/
def loseBlock (d : Paddock) (j i status : Nat) : Paddock :=
  match d.alloc j with
  | none => d
  | some a =>
    let d := if a.blocks.any fun b => b.index == i && b.place == .fetching then
        failWriters d (a.base + blockSize * i) blockSize status else d
    let d := d.modBlock j i fun b => { b with place := .lost, clean := false }
    let x := a.base + blockSize * i
    if a.recI != 0 then failReaders d x blockSize (some j) status
    else failReaders (stopWaiting d j [status]) x blockSize none status

/-- Bytes of a range can no longer be trusted: their readers in flight return the status, and so do later ones
(R241). -/
def spoil (d : Paddock) (a n status : Nat) : Paddock :=
  (failReaders d a n none status).distrust a n status

/-- A poisoned read: the granule is withdrawn; an allocation with a recompute program is recomputed. -/
def execCxlPoison (p addr : Nat) (s : State) : Host.Outcome State Fault Refusal :=
  .next (
    if !s.tiers.cxlPresent then s
    else
      let g := addr / 4096
      let s := (s.addObj 0x4440 0 1).logTier .cxl (g % max 1 s.tiers.cxlDevices.length) 0 3 0 addr
      let s := { s with tiers := { s.tiers with withdrawn := s.tiers.withdrawn ++ [g] } }
      match (s.pad p).allocOf addr 1 with
      | some (j, a) =>
        if a.kind = 1 then s.modPad p fun d => loseBlock d j ((addr - a.base) / blockSize) 0x11
        else s.modPad p fun d => spoil d (4096 * g) 4096 0x11
      | none => s)

/-- What the loss of the tier does to one paddock: off-loads under way end in HBM, blocks in CXL are
lost, and instructions that touch the CXL window return 0x11. -/
def loseCxl (d : Paddock) : Paddock :=
  let d : Paddock := { d with
    allocs := d.allocs.map fun e => (e.1, { e.2 with
      blocks := e.2.blocks.map fun b =>
        if b.place == .offloading then { b with place := .resident } else { b with clean := false } })
    flights := d.flights.map fun f =>
      if f.spans.any fun x => touches .cxl x.addr x.len then
        { f with statuses := f.statuses ++ [0x11], stage := [] } else f
    staged := [] }
  d.allocs.foldl (fun d e =>
    (e.2.blocks.filter fun b => b.place == .offloaded || b.place == .fetching).foldl
      (fun d b => loseBlock d e.1 b.index 0x11) d) d

/-- The link state that object 0x4403 shows, after a port's link has gone down. -/
def State.dropPortLink (s : State) (port : Option Nat) : State :=
  let v := s.obj 0x4403 0
  match port with
  | some 0 => s.setObj 0x4403 0 (v / 65536 * 65536)
  | some _ => s.setObj 0x4403 0 (v % 65536)
  | none => s

/-- The CXL tier is lost until the next reset of the main die; `port` is the one whose link went down. -/
def State.loseTier (s : State) (port : Option Nat) : State :=
  if !s.tiers.cxlPresent then s
  else
    let s := (s.addObj 0x4441 0 1).logTier .cxl 0 0 3 3 0
    let s := ((s.setObj 0x4400 0 0).setObj 0x4404 0 0).setObj 0x4405 0 0
    { s.dropPortLink port with
      paddocks := s.paddocks.map loseCxl
      tiers := { s.tiers with cxlPresent := false } }

/-- A port's link goes down, or a device stops answering; a free value says which. -/
def execCxlTierLost (s : State) : Host.Outcome State Fault Refusal :=
  .next (if s.tiers.cxlPresent then
      let (n, s) := s.draw
      s.loseTier (if n % 3 = 2 then none else some (n % 3))
    else s)

/-! ### HBM errors (R241, R242) -/

def day : Nat := 86400000000000

/-- The test of the block at an address of a paddock. -/
def testBlock (s : State) (p addr stack : Nat) (counted : Bool) : State :=
  if s.isTesting (.hbmBlock, stack) then s
  else
    let s := enterTest s (.hbmBlock, stack) 1 p (addr / blockSize * blockSize) none
    let mark := fun (x : UnitTest) =>
      if x.unit == (UnitClass.hbmBlock, stack) then { x with counted := counted } else x
    { s with faults := { s.faults with testing := s.faults.testing.map mark } }

/-- A block with 16 corrections in 24 h is copied to a fresh block and tested. -/
def noteCorrection (s : State) (p addr stack : Nat) : State :=
  let key := addr / blockSize * 8 + p
  let recent := (s.tiers.corrections ++ [(key, s.now)]).filter fun x => s.now < x.2 + day
  if 16 ≤ (recent.filter fun x => x.1 == key).length then
    let s := { s with tiers := { s.tiers with corrections := recent.filter fun x => x.1 != key } }
    testBlock s p addr stack false
  else { s with tiers := { s.tiers with corrections := recent } }

/-- An uncorrectable error in a block of a paddock: a retained block is read from its retained copy; a clean block is
fetched again; one with a recompute program is recomputed; the readers of any other, now and later, stop their
programs (R229, R241). -/
def loseHbm (s : State) (p addr : Nat) : State :=
  let d := s.pad p
  let base := addr / blockSize * blockSize
  match d.allocOf addr 1 with
  | none => s
  | some (j, a) =>
    let i := (addr - a.base) / blockSize
    let clean := a.blocks.any fun b => b.index == i && b.clean
    if i < a.retained then s.modPad p fun d => d.modAlloc j fun a => { a with homeLost := a.homeLost ++ [i] }
    else if a.kind = 1 && clean && s.tiers.cxlPresent then
      s.modPad p fun d => failReaders (d.modBlock j i fun b => { b with place := .fetching })
        base blockSize (some j) 0
    else if a.kind = 1 && a.recI != 0 then s.modPad p fun d => loseBlock d j i 0x151
    else
      s.modPad p fun d =>
        spoil (if a.kind = 1 then stopWaiting d j [0x151] else d) base blockSize 0x151

/-- An HBM ECC event at an address of a paddock (its block's stack is the command's own). The affected
block is tested after an error that was not corrected. -/
def execHbmEccError (kind : EccKind) (p addr stack : Nat) (s : State) : Host.Outcome State Fault Refusal :=
  .next (
    if !s.power.running || 12 ≤ stack then s
    else match kind with
      | .corrected => noteCorrection (s.addObj 0x4006 0 1) p addr stack
      | .uncorrectable =>
        let s := loseHbm ((s.addObj 0x4007 0 1).addObj 0x4004 0 1) p addr
        testBlock s p addr stack true)

def execPatrolScrub (s : State) : Host.Outcome State Fault Refusal :=
  .next (if s.power.running then { s with tiers := { s.tiers with scrubs := s.tiers.scrubs + 1 } } else s)

/-! ### Flash (R235 to R241) -/

/-- Targets present: the set bits of the 16-byte map. -/
def bitCount (n v : Nat) : Nat := ((List.range n).filter v.testBit).length

def Tiers.raw (t : Tiers) : Nat := min (bitCount 128 t.targets * t.targetBytes) (128 * 2 ^ 40)

/-- The logical capacity, in whole GiB. -/
def Tiers.logical (t : Tiers) : Nat :=
  let n := t.raw * 7 / 8
  (if t.parityInForce then n * 15 / 16 else n) / 2 ^ 30 * 2 ^ 30

/-- The translation layer has mounted. A mix of cell types or geometries (cell type 0 here) leaves the
tier absent and is logged. -/
def execFlashMount (targets cellType targetBytes : Nat) (_clean : Bool) (s : State) :
    Host.Outcome State Fault Refusal :=
  .next (
    if !s.power.running || s.tiers.flashState != 1 then s
    else
      if targets % 2 ^ 128 = 0 then { s with tiers := { s.tiers with flashState := 0 } }
      else if cellType = 3 || cellType = 4 then
        { s with tiers := { s.tiers with
            targets := targets % 2 ^ 128, cellType := cellType, targetBytes := targetBytes
            flashState := if s.tiers.readOnly then 3 else 2, cleanStop := false } }
      else
        let s := s.logTier .flash 0 0 7 0 targets
        { s with tiers := { s.tiers with flashState := 0 } })

/-- Flash programs its own copies: a free number of bytes (log entry 29). -/
def State.relocate (s : State) : State :=
  let (w, s) := s.draw
  s.addObj 0x4810 0 w

def State.mounted (s : State) : Bool := s.tiers.flashState == 2 || s.tiers.flashState == 3

def execWearLeveling (highest average : Nat) (s : State) : Host.Outcome State Fault Refusal :=
  .next (if s.mounted then
      ((s.setObj 0x4809 0 (objWrap 0x4809 0 highest)).setObj 0x480A 0 (objWrap 0x480A 0 average)).relocate
    else s)

/-- A block reaches its read-disturbance limit for the cell type. -/
def execDisturbanceRelocation (reads : Nat) (s : State) : Host.Outcome State Fault Refusal :=
  .next (if s.mounted && (if s.tiers.cellType = 3 then 50000 else 20000) ≤ reads then
      (s.addObj 0x480C 0 1).relocate
    else s)

/-- The retention scan changes nothing that software sees. -/
def execRetentionScan (_poweredHours : Nat) (s : State) : Host.Outcome State Fault Refusal := .next s

/-- Garbage is collected while free blocks are below 2 % of raw capacity; with spare blocks below 0.5 % the tier
becomes read-only, and stays so (log entry 125). -/
def execGarbageCollection (levels : FlashLevels) (s : State) : Host.Outcome State Fault Refusal :=
  .next (
    if !s.mounted then s
    else
      let s := if levels.free < 20 then s.relocate else s
      if levels.spare < 5 then { s with tiers := { s.tiers with flashState := 3, readOnly := true } } else s)

/-- A read of an instruction that cannot be decoded: rebuilt from parity, or it fails with 0x11. -/
def unreadableCodeword (s : State) (p n : Nat) : State :=
  if s.tiers.parityInForce then ((s.addObj 0x480D 0 1).addObj 0x480B 0 1).relocate
  else dropBatch (addStatus (s.addObj 0x480E 0 1) p n 0x11) p n

/-- The batches in decode that still read mapping units of a lost target end with 0x11 (R264). -/
def State.loseBatches (s : State) (target : Nat) : State :=
  let lost := fun (p a n : Nat) => touches .flash a n
    && (List.range (ceilDiv (s.flashOffset p a % mappingUnit + n) mappingUnit)).any fun i =>
      Config.onTarget (s.flashOffset p a / mappingUnit + i) target
  let reads := fun (p : Nat) (x : Sample) => (s.pad p).batches.any fun b => b.flight == x.flight
    && b.looks.any fun y => y.1 == x.position
      && (lost p y.2.addr y.2.bytes.length || lost p y.2.capAddr y.2.captionLen)
  (s.batchesThat reads).foldl (fun s x => dropBatch (addStatus s x.1 x.2 0x11) x.1 x.2) s

def execNandFailure (kind : NandFailure) (unit : Nat) (s : State) : Host.Outcome State Fault Refusal :=
  .next (
    if !s.mounted then s
    else match kind with
      | .program => ((s.addObj 0x480B 0 1).relocate).logTier .flash unit 0x50 4 0 0
      | .erase => ((s.addObj 0x480B 0 1).relocate).logTier .flash unit 0x50 4 0 0
      | .target =>
        if s.tiers.parityInForce then
          ((s.addObj 0x480D 0 1).relocate).logTier .flash unit 0x51 4 2 0
        else
          ({ s with tiers := { s.tiers with
              lostTargets := s.tiers.lostTargets ++ [(unit, [])] } }.loseBatches unit).logTier .flash unit 0x51 4 3 0
      | .unreadable p n => unreadableCodeword s p n)

end Sys2Proof.Machine
end

