-- ==== Sys2Proof/Machine/Drill.lean ====
section
/-! DEFINITION. The Drill: sample order, admission, budgets, augmentation, the batch and its sample
table, prepared batches (R245 to R270). What the coded data of AV1 and JPEG samples decode to is open (log entry 30). -/

namespace Sys2Proof.Machine
open Sys2Proof

/-! ### The order of samples (R253) and the draws (R260) -/

def drillKey (seed : Word64) (epoch op : Nat) : Word64 :=
  mix (seed ^^^ mix (BitVec.ofNat 64 (epoch * 256 + op)))

/-- The even number of bits of the permutation: the smallest whose power is not below `n`. -/
def orderBits (n : Nat) : Nat :=
  ((List.range 17).map fun i => 2 * i + 2).find? (fun b => n ≤ 2 ^ b) |>.getD 34

/-- Six rounds on the halves. -/
def feistel (key : Word64) (h x : Nat) : Nat :=
  let m := 2 ^ h
  let (l, r) := (List.range 6).foldl (fun (acc : Nat × Nat) k =>
    let t := acc.1 ^^^ ((mix (key + BitVec.ofNat 64 (k * 2 ^ 32) + BitVec.ofNat 64 acc.2)).toNat % m)
    (acc.2, t)) (x / m, x % m)
  l * m + r

/-- Walk the cycle until the value lies below `n`. -/
def walk (key : Word64) (h n : Nat) : Nat → Nat → Nat
  | 0, x => x
  | k + 1, x =>
    let y := feistel key h x
    if y < n then y else walk key h n k y

def orderOf (p n : Nat) (seed : Word64) (epoch : Nat) (strict : Bool) : Nat :=
  if strict then p
  else
    let b := orderBits n
    walk (drillKey seed epoch 0) (b / 2) n (2 ^ b) p

def drawOf (seed : Word64) (epoch index op : Nat) : Word64 :=
  mix (drillKey seed epoch op + BitVec.ofNat 64 index)

def uniform (r : Word64) (n : Nat) : Nat := (r.toNat / 2 ^ 32) * n / 2 ^ 32

/-! ### What a batch is made from -/

/-- The augmentation record (R252). -/
structure Aug where
  flags : Nat
  matrix : Nat
  range : Nat
  stride : Nat
  mean : List F32
  scale : List F32

def parseAug (b : List Byte) : Aug :=
  { flags := leField b 0 1, matrix := leField b 1 1, range := leField b 2 1, stride := leField b 3 1
    mean := (List.range 3).map fun i => BitVec.ofNat 32 (leField b (8 + 4 * i) 4)
    scale := (List.range 3).map fun i => BitVec.ofNat 32 (leField b (0x14 + 4 * i) 4) }

def augOk (b : List Byte) (channels : Nat) : Bool :=
  let a := parseAug b
  a.flags < 64 && a.matrix < 4 && a.range < 3 && 1 ≤ a.stride && a.stride ≤ 16 && zeroField b 4 4
    && zeroField b 0x20 32 && a.mean.all F32.finite && a.scale.all F32.finite
    && !(channels == 1 && a.flags.testBit 4)

/-- The group-relevant objects of the chapter: budget factor and base, minimum bits, decode area length, pad token
(R267, R274, R275). -/
def drillEnv (d : Paddock) : List Nat :=
  [d.obj 0x7004 0, d.obj 0x7005 0, d.obj 0x7006 0, d.obj 0x7008 0, d.obj 0x7405 0]

/-- A view of the operands of a DECODE_BATCH. -/
structure Job where
  c : Ctx
  aug : Aug
  env : List Nat
  first : Nat

namespace Job

def seed (j : Job) : Word64 := BitVec.ofNat 64 (j.c.r.p 0 + j.c.r.p 1 * 2 ^ 32)
def epoch (j : Job) : Nat := j.c.r.p 2
def size (j : Job) : Nat := j.c.r.p 4
def out (j : Job) : Tensor := j.c.must 0
def channels (j : Job) : Nat := j.out.e 0
def wo (j : Job) : Nat := j.out.e 1
def ho (j : Job) : Nat := j.out.e 2
def fo (j : Job) : Nat := j.out.e 3
def count (j : Job) : Nat := ((j.c.must 1).e 0 - 64) / 32
def span (j : Job) : Nat := (j.fo - 1) * j.aug.stride + 1

/-- The dataset index at a position. -/
def indexAt (j : Job) (p : Nat) : Nat := orderOf p j.count j.seed j.epoch (j.c.r.modifier == 1)

/-- Index entry `i` (R248). -/
def entry (j : Job) (i : Nat) : List Byte := j.c.s.bytesAt j.c.p ((j.c.must 1).addr + 64 + 32 * i) 32

end Job

/-! ### Samples and their headers (R249, R255) -/

/-- The images of a JPEG sequence, where its length table holds. -/
def sequenceImages (b : List Byte) : Option (List (List Byte)) :=
  let n := leField b 0 4
  let lens := (List.range n).map fun i => leField b (4 + 4 * i) 4
  if n = 0 || b.length < 4 + 4 * n || lens.foldl (· + ·) 0 != b.length - 4 - 4 * n then none
  else some (lens.foldl (fun (acc : List (List Byte) × List Byte) k =>
    (acc.1 ++ [acc.2.take k], acc.2.drop k)) ([], b.drop (4 + 4 * n))).1

def imagesOf (kind : Nat) (b : List Byte) : Option (List (List Byte)) :=
  if kind = 2 then some [b] else sequenceImages b

def claimsOf (kind : Nat) (b : List Byte) : Option Claims :=
  if kind = 1 then
    (av1Info b).map fun x =>
      { w := x.seq.width, h := x.seq.height, f := x.frames, supported := x.kept, depth := x.seq.depth
        coefficients := x.seq.matrix, full := x.seq.full, sampling := 2 }
  else
    match imagesOf kind b with
    | some (x :: r) =>
      (jpegSof x).map fun f =>
        { w := f.width, h := f.height, f := 1 + r.length, supported := f.sampling.isSome, depth := 8
          coefficients := 5, full := true, sampling := f.sampling.getD 0 }
    | _ => none

/-- A range of an index entry lies in one flash allocation; one wholly outside the paddock reads as
zeros (R97). -/
def sampleRangeOk (d : Paddock) (a n : Nat) : Bool :=
  !touchesAny a n || match d.allocOf a n with
    | some e => e.2.kind == 3 || e.2.kind == 4
    | none => false

/-- The frame store of a sample (R258). -/
def frameStore (kind : Nat) (x : Claims) : Nat :=
  if kind = 1 then 10 * x.w * x.h * 3 / 2 * (if x.depth = 8 then 1 else 2) else 3 * x.w * x.h

def unitShare (env : List Nat) : Nat := env.getD 3 0 / 24 / 32768 * 32768

/-- Checks 3 to 9 of R255. -/
def admission (j : Job) (kind len : Nat) (x : Claims) : Fate :=
  let blocks := ceilDiv x.w 8 * ceilDiv x.h 8
  if !x.supported then .headers 0x40 7
  else if 16384 < x.w || 16384 < x.h then .headers 0x40 1
  else if 4096 < x.f then .headers 0x40 2
  else if 2 ^ 34 < x.w * x.h * x.f then .headers 0x40 3
  else if 2048 * len < j.env.getD 2 0 * (blocks * x.f) then .headers 0x40 4
  else if x.w < j.wo || x.h < j.ho || x.f < j.span then .headers 0x40 6
  else if unitShare j.env < frameStore kind x then .headers 0x40 5
  else .accepted

/-- Work units of a sample up to its last needed frame, or up to its first error, and whether there is none
(R259, R264). -/
def decodeWork (kind : Nat) (b : List Byte) (last : Nat) : Nat × Bool :=
  if kind = 1 then
    match av1Info b with
    | some x => x.work b last
    | none => (0, false)
  else
    let l := ((imagesOf kind b).getD []).take (last + 1)
    imagesWork (jpegShape (l.headD [])) l

def noClaims : Claims :=
  { w := 0, h := 0, f := 0, supported := false, depth := 0, coefficients := 0, full := false, sampling := 0 }

/-- Everything that becomes of the sample at a position. -/
def lookAt (j : Job) (p : Nat) : Look :=
  let d := j.c.s.pad j.c.p
  let i := j.indexAt p
  let e := j.entry i
  let addr := leField e 0 8
  let len := leField e 8 4
  let kind := leField e 0xC 1
  let capLen := leField e 0xE 2
  let capAddr := leField e 0x10 8
  let base : Look :=
    { index := i, kind := kind, addr := addr, bytes := [], capAddr := capAddr, caption := [], captionLen := capLen
      label := leField e 0x18 4, claims := noClaims, f0 := 0, x0 := 0, y0 := 0, hflip := false, vflip := false, work := 0,
      fate := .accepted }
  if !(sampleRangeOk d addr len && (capLen == 0 || sampleRangeOk d capAddr capLen)) then
    { base with fate := .headers 0x43 0x22 }
  else if len = 0 || kind < 1 || 3 < kind || !zeroField e 0xD 1 || !zeroField e 0x1C 4 then
    { base with fate := .headers 0x43 0x23 }
  else
    let b := j.c.s.bytesAt j.c.p addr len
    match if touchesAny addr len then claimsOf kind b else none with
    | none => { base with fate := .headers 0x43 0x20 }
    | some x =>
      match admission j kind len x with
      | .accepted =>
        let dr := drawOf j.seed j.epoch i
        let pickN := fun (bit op n : Nat) (mid : Nat) =>
          if j.aug.flags.testBit bit then uniform (dr op) n else mid
        let f0 := pickN 3 3 (x.f - j.span + 1) 0
        let last := f0 + j.span - 1
        let (work, sound) := decodeWork kind b last
        let budget := j.env.getD 1 0 + j.env.getD 0 0 * (ceilDiv x.w 8 * ceilDiv x.h 8) * (f0 + j.span)
        { base with
          bytes := b, claims := x, f0 := f0, work := work
          caption := j.c.s.bytesAt j.c.p capAddr capLen
          x0 := pickN 0 1 (x.w - j.wo + 1) ((x.w - j.wo) / 2)
          y0 := pickN 0 2 (x.h - j.ho + 1) ((x.h - j.ho) / 2)
          hflip := j.aug.flags.testBit 1 && (dr 4).toNat.testBit 63
          vflip := j.aug.flags.testBit 2 && (dr 5).toNat.testBit 63
          fate := if budget < work then .budget else if !sound then .syntaxError else .accepted }
      | fate => { base with claims := x, fate := fate }

/-! ### Scanning positions (R254) -/

/-- Positions from `p` until `need` samples are accepted or the epoch ends. -/
def scanFrom (j : Job) : Nat → Nat → Nat → List (Nat × Look)
  | 0, _, _ => []
  | k + 1, need, p =>
    if need = 0 || j.count ≤ p then []
    else
      let x := lookAt j p
      (p, x) :: scanFrom j k (if x.fate = .accepted then need - 1 else need) (p + 1)

def Job.scan (j : Job) : List (Nat × Look) := scanFrom j (j.count - j.first) j.size j.first

/-- The position after the last one examined. -/
def nextPosition (j : Job) (l : List (Nat × Look)) : Nat := j.first + l.length

/-! ### Augmentation (R261 to R263) -/

/-- The constants of a colour matrix: kcr, kcb, gcb, gcr, nearest-even in F32. -/
def matrixConstants (m : Nat) : F32 × F32 × F32 × F32 :=
  let k := fun (n : Int) (d : Int) => F32.ofVal (F32.divVal (Val.ofInt n) (Val.ofInt d))
  match m with
  | 1 => (k 1402 1000, k 1772 1000, k 34413629 100000000, k 71413629 100000000)
  | 2 => (k 15748 10000, k 18556 10000, k 18732427 100000000, k 46812427 100000000)
  | _ => (k 14746 10000, k 18814 10000, k 16455313 100000000, k 57135313 100000000)

/-- The colour matrix that a sample takes, and whether another was substituted. -/
def matrixOf (a : Aug) (x : Claims) : Nat × Bool :=
  if a.matrix != 0 then (a.matrix, false)
  else match x.coefficients with
    | 1 => (2, false)
    | 5 => (1, false)
    | 6 => (1, false)
    | 9 => (3, false)
    | _ => (2, true)

def fullRange (a : Aug) (x : Claims) : Bool := if a.range = 0 then x.full else a.range == 2

/-- A code value of a source pixel; chroma is read at its own positions. -/
def codeAt (l : Look) (frame plane xs ys : Nat) : Nat :=
  let x := l.claims
  let (u, v) :=
    if plane = 0 || x.sampling = 0 then (xs, ys) else if x.sampling = 1 then (xs / 2, ys) else (xs / 2, ys / 2)
  (if l.kind = 1 then Config.av1Code l.bytes frame plane u v
    else Config.jpegCode (((imagesOf l.kind l.bytes).getD []).getD frame []) plane u v) % 2 ^ x.depth

/-- The components of one output pixel (R262). -/
def components (j : Job) (l : Look) (x y t : Nat) : List F32 :=
  let xs := l.x0 + (if l.hflip then j.wo - 1 - x else x)
  let ys := l.y0 + (if l.vflip then j.ho - 1 - y else y)
  let frame := l.f0 + t * j.aug.stride
  let n := l.claims.depth
  let code := fun (plane : Nat) => (codeAt l frame plane xs ys : Int)
  let q := fun (a b : Int) => F32.div (F32.ofInt a) (F32.ofInt b)
  let o : Int := 2 ^ (n - 1)
  let m : Int := 2 ^ n - 1
  let s : Int := 2 ^ (n - 8)
  let full := fullRange j.aug l.claims
  let yv := if full then q (code 0) m else q (code 0 - 16 * s) (219 * s)
  let cb := if full then q (code 1 - o) m else q (code 1 - 128 * s) (224 * s)
  let cr := if full then q (code 2 - o) m else q (code 2 - 128 * s) (224 * s)
  let clamp := fun (lo hi v : F32) => F32.min (F32.max v lo) hi
  let half : F32 := 0x3F000000#32
  if j.aug.flags.testBit 4 then
    let (kcr, kcb, gcb, gcr) := matrixConstants (matrixOf j.aug l.claims).1
    [clamp 0 F32.one (F32.fma kcr cr yv),
     clamp 0 F32.one (F32.sub (F32.sub yv (F32.mul gcb cb)) (F32.mul gcr cr)),
     clamp 0 F32.one (F32.fma kcb cb yv)]
  else [clamp 0 F32.one yv, clamp (F32.neg half) half cb, clamp (F32.neg half) half cr]

/-- The value of one channel before its conversion (R263). -/
def channelValue (j : Job) (cs : List F32) (k : Nat) : F32 :=
  let c := cs.getD k 0
  if j.out.fmt = .u8 then
    let off : F32 := if k != 0 && !j.aug.flags.testBit 4 then 0x3F000000#32 else 0
    F32.mul (F32.add c off) (F32.ofNat 255)
  else F32.mul (F32.sub c (j.aug.mean.getD k 0)) (j.aug.scale.getD k 0)

/-- Every value of D0; slots that stay empty hold +0. -/
def batchValues (j : Job) (filled : List Look) : Array F32 :=
  ((allIdx j.out.ext).map fun i =>
    match filled[i.getD 4 0]? with
    | some l => channelValue j (components j l (i.getD 1 0) (i.getD 2 0) (i.getD 3 0)) (i.getD 0 0)
    | none => (0 : F32)).toArray

/-! ### The sample table (R265, R266) -/

/-- Status and reason of a rejection. -/
def Fate.rejection (f : Fate) : Nat × Nat :=
  match f with
  | .accepted => (0, 0)
  | .headers st r => (st, r)
  | .budget => (0x41, 0x10)
  | .syntaxError => (0x43, 0x21)

def countStatus (l : List (Nat × Look)) (st : Nat) : Nat := (l.filter fun x => x.2.fate.rejection.1 == st).length

def batchHeader (j : Job) (l : List (Nat × Look)) : List Byte :=
  let acc := l.filter fun x => x.2.fate == .accepted
  let next := nextPosition j l
  leBytes 4 next ++ leBytes 4 0x7FFFFFFF ++ leBytes 4 j.first ++ leBytes 4 acc.length
    ++ leBytes 4 (countStatus l 0x40) ++ leBytes 4 (countStatus l 0x41) ++ leBytes 4 (countStatus l 0x43)
    ++ leBytes 4 j.epoch ++ leBytes 8 ((acc.map fun x => x.2.work).foldl (· + ·) 0)
    ++ leBytes 1 (if j.count ≤ next then 1 else 0) ++ leBytes 23 0

/-- Film grain of the first output frame, and whether it differs in a later one. -/
def grainOf (j : Job) (l : Look) : List Byte × Bool :=
  if l.kind != 1 then ([], false)
  else
    let g := Config.av1Grain l.bytes l.f0
    (g, (List.range j.fo).any fun t => Config.av1Grain l.bytes (l.f0 + t * j.aug.stride) != g)

/-- The record of a filled slot with the rejections it absorbed, and its passage area. -/
def sampleRecord (j : Job) (p : Nat) (l : Look) (absorbed : List (Nat × Look)) (room : Nat) : List Byte :=
  let (g, differs) := grainOf j l
  let grain := if j.aug.flags.testBit 5 && g.length ≤ room then g else []
  let cap := l.caption.take (room - grain.length)
  let (m, sub) := matrixOf j.aug l.claims
  let bit := fun (b : Bool) (k : Nat) => if b then 2 ^ k else 0
  let first := absorbed.head?.map (·.2)
  let rej := match first with | some x => x.fate.rejection | none => (0, 0)
  let b := leBytes 4 l.index ++ leBytes 4 p ++ leBytes 1 0 ++ leBytes 1 l.kind ++ leBytes 1 l.claims.depth
    ++ leBytes 1 m
    ++ leBytes 1 (bit l.hflip 0 + bit l.vflip 1 + bit (!g.isEmpty) 2 + bit differs 3
        + bit (fullRange j.aug l.claims) 4 + bit sub 5)
    ++ leBytes 1 rej.2 ++ leBytes 2 absorbed.length ++ leBytes 2 l.claims.w ++ leBytes 2 l.claims.h
    ++ leBytes 2 l.claims.f ++ leBytes 2 l.f0 ++ leBytes 2 l.x0 ++ leBytes 2 l.y0 ++ leBytes 4 l.label
    ++ leBytes 4 l.work ++ leBytes 4 (match first with | some x => x.index | none => 0) ++ leBytes 1 rej.1
    ++ leBytes 1 grain.length ++ leBytes 2 cap.length ++ leBytes 2 l.captionLen ++ leBytes 18 0
  b ++ grain ++ cap ++ List.replicate (room - grain.length - cap.length) 0

/-- Records of the filled slots, in order. -/
def slotRecords (j : Job) (room : Nat) : List (Nat × Look) → List (Nat × Look) → List (List Byte)
  | _, [] => []
  | absorbed, (p, x) :: r =>
    if x.fate = .accepted then sampleRecord j p x absorbed room :: slotRecords j room [] r
    else slotRecords j room (absorbed ++ [(p, x)]) r

/-- The bytes of D2, column by column. -/
def tableWrites (j : Job) (l : List (Nat × Look)) : List (Nat × Byte) :=
  let t := j.c.must 2
  let e := t.e 0
  let room := 4 * e - 64
  let recs := slotRecords j room [] l
  let column := fun (k : Nat) =>
    if k = 0 then batchHeader j l
    else match recs[k - 1]? with
      | some b => b
      | none => List.replicate 8 0 ++ [0xFF#8]
  (List.range (j.size + 1)).flatMap fun k =>
    (List.range e).flatMap fun i => codeBytes t (t.offset [i, k, 0, 0, 0, 0]) (leField (column k) (4 * i) 4)

/-! ### Writing a batch -/

/-- The statuses that a batch records. -/
def batchStatuses (l : List (Nat × Look)) : List Nat :=
  [0x40, 0x41, 0x43].filter fun st => 0 < countStatus l st

/-- Bytes of D0 in F32, which a narrow output holds in the prepared area (R263). -/
def widened32 (t : Tensor) : Nat := 4 * t.numel

/-- Write D0 and D2 from the positions examined, and count the samples. -/
def finishBatch (j : Job) (l : List (Nat × Look)) : Effect :=
  let acc := (l.map (·.2)).filter fun x => x.fate == .accepted
  let rs := batchValues j acc
  let w := writeOut j.out (j.c.outSpec .measured) rs j.c.pool
  let table : Written := { Written.none w.pool with bytes := tableWrites j l }
  let e := outEffect j.c [{ t := j.out, w := w }, { t := j.c.must 2, w := table, copied := true }]
    (if measuredSlot j.out then some (widened32 j.out) else none) (anyNonFinite rs) []
  { e with
    statuses := e.statuses ++ batchStatuses l
    s := e.s.modPad j.c.p fun d =>
      let big := (acc.map (·.work)).foldl max (d.obj 0x7014 0)
      ((d.addObj 0x7012 0 acc.length).addObj 0x7013 0 (l.length - acc.length)).setObj 0x7014 0 big }

/-! ### Streams and the prepared area (R267 to R269) -/

/-- A record without its first position. -/
def streamRec (r : Rec) : Rec :=
  { r with params := r.params.set 3 0, flags := 0, counter := 0 }

def Stream.serves (x : Stream) (r : Rec) (ts : List (Option Tensor)) (aug : List Byte) (env : List Nat) : Bool :=
  x.r == streamRec r && x.ts == ts && x.aug == aug && x.env == env

/-- A batch in decode belongs to a stream. -/
def Batch.of (b : Batch) (x : Stream) : Bool := x.serves b.r b.ts b.aug b.env

/-- Put a stream in place: at most 4, the least recently served giving way. -/
def putStream (l : List Stream) (x : Stream) : List Stream :=
  let rest := l.filter fun y => !(y.serves x.r x.ts x.aug x.env)
  let oldest := (rest.map (·.lastUse)).foldl min x.lastUse
  let rest := if rest.length < 4 then rest else rest.eraseIdx ((rest.findIdx? fun y => y.lastUse == oldest).getD 0)
  rest ++ [x]

/-- The prepared area of a paddock lies in one fixed allocation. -/
def preparedArea (d : Paddock) : Option Nat :=
  let n := d.obj 0x700B 0
  if 0 < n && d.inFixed (d.obj 0x700A 0) n then some n else none

/-- Bytes of the area that a complete batch takes: D0, D2 and the statistics counts. -/
def keptBytes (ts : List (Option Tensor)) : Nat :=
  let foot := fun (i : Nat) => match ts.getD i none with | some t => t.footprint | none => 0
  foot 0 + foot 2 + Config.preparedCounts

/-- Bytes that a batch in preparation takes: a narrow D0 is held in F32 as well (R263). -/
def workBytes (ts : List (Option Tensor)) : Nat :=
  keptBytes ts + match ts.getD 0 none with
    | some t => if t.fmt.isNarrow then widened32 t else 0
    | none => 0

/-- The parts of the area in use: offset and length. -/
def Paddock.areaUsed (d : Paddock) : List (Nat × Nat) :=
  d.streams.flatMap (fun x => x.ready.map fun y => (y.offset, keptBytes x.ts))
    ++ d.batches.filterMap fun b => b.ahead.map fun o => (o, workBytes b.ts)

/-- The lowest offset at which a part of the area is free (log entry 128). -/
def Paddock.areaRoom (d : Paddock) (n : Nat) : Option Nat :=
  match preparedArea d with
  | none => none
  | some size =>
    let used := d.areaUsed
    ((0 :: used.map fun x => x.1 + x.2).filter fun o =>
      o + n ≤ size && used.all fun x => !rangesMeet o n x.1 x.2).min?

/-- Where a stream's preparation goes on: past the batches that stand in an unbroken row from the position that its
newest instruction left; nothing once the prepared depth is full (R267). -/
def Stream.frontier (d : Paddock) (x : Stream) : Nat → Nat → Option Nat
  | 0, _ => none
  | k + 1, p =>
    match (x.ready.find? fun y => y.first == p).map (·.looks.length) with
    | some n => x.frontier d k (p + n)
    | none =>
      match d.batches.find? fun b => b.of x && !b.waits && b.first == p with
      | some b => x.frontier d k (p + b.looks.length)
      | none => some p

/-! ### Issue (R250 to R252, R258) -/

/-- The bound slot that P3 names. -/
def positionRef (r : Rec) : Option Nat := boundRef (r.p 3)

/-- P3 as resolved. -/
def firstPosition (s : State) (p : Nat) (r : Rec) : Nat :=
  match positionRef r with
  | none => r.p 3
  | some b => match readBound s p b with | .value v => v | .fails _ => 0

def jobOf (c : Ctx) : Job :=
  { c := c, aug := parseAug (c.s.bytesAt c.p (c.must 3).addr 64), env := drillEnv (c.s.pad c.p)
    first := firstPosition c.s c.p c.r }

/-- The shard index header is sound (R247). -/
def indexOk (c : Ctx) : Bool :=
  let t := c.must 1
  let h := c.s.bytesAt c.p t.addr 64
  let n := leField h 4 4
  t.fmt != .u8 || t.rank != 1 ||
    (leField h 0 2 == 1 && leField h 2 2 == 32 && 1 ≤ n && n ≤ 0x7FFFFFFF && zeroField h 8 56
      && t.e 0 == 64 + 32 * n)

def inWindow (w : Window) (t : Tensor) : Bool := windowOf t.addr == some w

/-- Units of a kind that are in service. -/
def unitsLeft (s : State) (video : Bool) : Nat :=
  if video then 16 - s.retiredIn (fun u => u.1 == .drillUnit && u.2 < 16)
  else 8 - s.retiredIn (fun u => u.1 == .drillUnit && 16 ≤ u.2 && u.2 < 24)

/-- Every sample of a list of positions, waiting. -/
def samplesOf (n : Nat) (l : List (Nat × Look)) : List Sample :=
  l.map fun (p, x) =>
    { flight := n, position := p, video := x.kind == 1, fate := x.fate, stage := .waiting, unit := none }

/-- A sample reads a mapping unit of flash that is lost (R238, R241). -/
def Look.lost (s : State) (p : Nat) (x : Look) : Bool :=
  let hits := fun (a n : Nat) => touches .flash a n
    && (List.range (ceilDiv (s.flashOffset p a % mappingUnit + n) mappingUnit)).any fun i =>
      s.unitLost (s.flashOffset p a / mappingUnit + i)
  !s.tiers.lostTargets.isEmpty && (hits x.addr x.bytes.length || hits x.capAddr x.captionLen)

/-- The batch of a DECODE_BATCH at its issue. -/
def batchOf (j : Job) (n : Nat) (l : List (Nat × Look)) : Batch :=
  { flight := n, index := j.c.index, r := j.c.r, ts := j.c.ts, aug := j.c.s.bytesAt j.c.p (j.c.must 3).addr 64
    env := j.env, first := j.first, seed := j.c.seed, step := j.c.step, looks := l, ahead := none, waits := true
    statuses := [] }

/-- A test of a unit names the batch that it was serving. -/
def renameVictim (s : State) (p n m : Nat) : State :=
  let rename := fun (x : UnitTest) => if x.victim == some (p, n) then { x with victim := some (p, m) } else x
  { s with faults := { s.faults with testing := s.faults.testing.map rename } }

/-- A DECODE_BATCH waits for the batch of its stream and position that is still in preparation: it becomes the
instruction's own, and goes on (R267). -/
def adoptBatch (s : State) (p n m : Nat) (b : Batch) : State :=
  (renameVictim s p n m).modPad p fun d => { d with
    batches := (d.batches.filter fun x => x.flight != n) ++ [{ b with flight := m, ahead := none }]
    samples := d.samples.map fun x => if x.flight = n then { x with flight := m } else x }

/-- Where a DECODE_BATCH comes from: the prepared area, a preparation under way, or its samples. -/
def drillRun (c : Ctx) : Effect :=
  let j := jobOf c
  let d := c.s.pad c.p
  let n := d.nextFlight
  let old : Option Stream := d.streams.find? fun x =>
    x.serves c.r c.ts (c.s.bytesAt c.p (c.must 3).addr 64) j.env
  let ready : List Ready := match old with | some x => x.ready | none => []
  let hit := ready.find? fun y => y.first == j.first
  let making := match old with
    | some x => d.batches.find? fun (b : Batch) => b.of x && !b.waits && b.first == j.first
    | none => none
  let l := match hit, making with
    | some y, _ => y.looks
    | none, some b => b.looks
    | none, none => j.scan
  let b := batchOf j n l
  let st : Stream := { r := streamRec c.r, ts := c.ts, aug := b.aug, env := j.env
                       ready := ready.filter fun y => y.first != j.first
                       base := nextPosition j l, lastUse := n }
  let s := c.s.modPad c.p fun (d : Paddock) =>
    let d : Paddock := if ready.length < d.obj 0x700D 0 then
        (d.addObj 0x700E 0 1).setObj 0x700F 0 c.s.now else d
    let d : Paddock := if hit.isSome || making.isSome then d.addObj 0x7010 0 1 else d
    { d with streams := putStream d.streams st }.setObj 0x700C 0 (putStream d.streams st).length
  let done := fun (sts : List Nat) =>
    let e := finishBatch { j with c := { c with s := s } } l
    { e with statuses := e.statuses ++ sts }
  match hit, making with
  | some y, _ => done y.statuses
  | none, some m =>
    { s := adoptBatch s c.p m.flight n { b with statuses := m.statuses }, hold := .drill, statuses := m.statuses }
  | none, none =>
    if l.isEmpty then done []
    else if l.any fun x => x.2.lost c.s c.p then { s := s, statuses := [0x11] }
    else
      { s := s.modPad c.p fun d => { d with batches := d.batches ++ [b], samples := d.samples ++ samplesOf n l }
        hold := .drill }

def batchFormat (f : Fmt) : Bool :=
  match f with
  | .u8 => true | .f32 => true | .f16 => true | .bf16 => true | .f8a => true | .f8g => true | .f4b => true
  | _ => false

def decodeBatchOp : Op :=
  { required := fun _ => [0, 1, 2, 3]
    params := [0, 1, 2, 3, 4]
    form := fun r => r.modifier < 2 && r.p 4 ≤ 65535
      && (!(r.p 3).testBit 31 || bitField (r.p 3) 30 16 == 0)
    flash := true
    refs := fun r => match positionRef r with | some b => [b] | none => []
    relate := fun c =>
      [(0, [0], inWindow .hbm (c.must 0)), (1, [1], inWindow .flash (c.must 1)),
       (2, [2], inWindow .hbm (c.must 2)), (3, [3], inWindow .hbm (c.must 3)),
       (1, [1], indexOk c),
       (3, [0, 3], augOk (c.s.bytesAt c.p (c.must 3).addr 64) ((c.must 0).e 0))]
    formats := fun c =>
      [(0, batchFormat (c.must 0).fmt), (1, (c.must 1).fmt == .u8), (2, (c.must 2).fmt == .u32),
       (3, (c.must 3).fmt == .u8)]
    shapes := fun c =>
      let d := c.must 0
      [(0, d.rank == 5 && (d.e 0 == 1 || d.e 0 == 3) && 1 ≤ d.e 3 && d.e 3 ≤ 4096 && d.e 4 == c.r.p 4),
       (1, (c.must 1).rank == 1),
       (2, (c.must 2).rank == 2 && [16, 32, 64, 128, 256].contains ((c.must 2).e 0)
         && (c.must 2).e 1 == c.r.p 4 + 1),
       (3, (c.must 3).rank == 1 && (c.must 3).e 0 == 64)]
    noop := fun c => c.r.p 4 == 0 || (c.must 0).isEmpty
    late := fun c =>
      let d := c.s.pad c.p
      [(0xFFFF, 0x13, d.inFixed (d.obj 0x7007 0) (d.obj 0x7008 0)),
       (0xFFFF, 0x13, !(c.must 0).fmt.isNarrow || match preparedArea d with
          | some n => widened32 (c.must 0) ≤ n
          | none => false),
       (0xFFFF, 0x151, unitsLeft c.s true != 0 && unitsLeft c.s false != 0)]
    run := drillRun }

def execDecodeBatch (p g : Nat) (s : State) : Host.Outcome State Fault Refusal :=
  .next (issue 0x0040 (fun _ => true) decodeBatchOp p g s)

/-! ### The samples of a batch in decode (R246, R264) -/

/-- Change the first sample of a flight that a test picks. -/
def modSample (l : List Sample) (n : Nat) (ok : Sample → Bool) (f : Sample → Sample) : List Sample :=
  match l.findIdx? fun x => x.flight == n && ok x with
  | some i => l.modify i f
  | none => l

/-- A batch whose samples are over leaves the decode. -/
def Paddock.leaveDecode (d : Paddock) (n : Nat) : Paddock :=
  { d with
    batches := d.batches.filter fun b => b.flight != n
    samples := d.samples.filter fun x => x.flight != n }

/-- Fill a part of the prepared area. Which byte stands where in it is open (log entry 128). -/
def fillArea (s : State) (p o n : Nat) : State :=
  let base := (s.pad p).obj 0x700A 0 + o
  plainWrite { s with free := s.free + n } p
    ((List.range n).map fun i => (base + i, BitVec.ofNat 8 (Config.freeNat (s.free + i))))

/-- Once every sample of a batch is over it is written, or kept in the prepared area. -/
def settleBatch (s : State) (p n : Nat) : State :=
  let d := s.pad p
  match d.batches.find? fun b => b.flight == n with
  | none => s
  | some b =>
    if d.samples.any fun x => x.flight == n && x.stage != .over then s
    else if b.waits then
      let c : Ctx := { s := s, p := p, r := b.r, index := b.index, ts := b.ts, seed := b.seed, step := b.step }
      let e := finishBatch { c := c, aug := parseAug b.aug, env := b.env, first := b.first } b.looks
      release (e.s.modPad p fun d => d.leaveDecode n) p n e.statuses e.records
    else
      let o := b.ahead.getD 0
      let y : Ready := { first := b.first, looks := b.looks, statuses := b.statuses, offset := o }
      fillArea (s.modPad p fun d => { d.leaveDecode n with
        streams := modWhere d.streams (fun x => b.of x) fun x => { x with ready := x.ready ++ [y] } })
        p o (keptBytes b.ts)

def sampleStep (s : State) (p n : Nat) (ok : Sample → Bool) (f : Sample → Sample) : State :=
  if (s.pad p).samples.any fun x => x.flight == n && ok x then
    settleBatch (s.modPad p fun d => { d with samples := modSample d.samples n ok f }) p n
  else s

/-- The next sample of a kind in a paddock: issued instructions before preparation, the oldest first, and positions
in order (R246). -/
def Paddock.nextSample (d : Paddock) (video : Bool) : Option Sample :=
  ((d.batches.filter (·.waits)) ++ d.batches.filter fun b => !b.waits).findSome? fun b =>
    d.samples.find? fun x => x.flight == b.flight && x.stage == .waiting && x.video == video

/-- The paddock that a round-robin serves, from the one it asks first, and its sample. -/
def State.dueSample (s : State) (video : Bool) : Option (Nat × Sample) :=
  (List.range 8).findSome? fun i =>
    let p := (i + if video then s.videoTurn else s.imageTurn) % 8
    ((s.pad p).nextSample video).map fun x => (p, x)

/-- A unit holds a sample, from when it takes it until it is augmented (DESIGN CHOICE, log entry 129). -/
def State.unitHolds (s : State) (u : Nat) : Bool :=
  (List.range 8).any fun p => (s.pad p).samples.any fun x => x.unit == some u && x.stage != .over

/-- The lowest unit of a kind that is in service and free. -/
def State.freeUnit (s : State) (video : Bool) : Option Nat :=
  (List.range 24).find? fun u => (u < 16) == video && !s.isRetired (.drillUnit, u) && !s.isTesting (.drillUnit, u)
    && !s.unitHolds u

def State.turnTo (s : State) (video : Bool) (p : Nat) : State :=
  if video then { s with videoTurn := (p + 1) % 8 } else { s with imageTurn := (p + 1) % 8 }

/-- The next sample of a kind is admitted or rejected on its headers, where it is one of this flight and a unit is
free to take it. -/
def admitKind (s : State) (p n : Nat) (video : Bool) : Option State :=
  match s.dueSample video, s.freeUnit video with
  | some (q, x), some u =>
    if q = p && x.flight = n then
      some (sampleStep (s.turnTo video p) p n (fun y => y.stage == .waiting && y.video == video) fun y =>
        match y.fate with
        | .headers _ _ => { y with stage := .over }
        | _ => { y with stage := .admitted, unit := some u })
    else none
  | _, _ => none

/-- A unit that is free takes the next sample of its kind and checks its headers; a sample that is not the next of
its kind is not taken (R246, R255). -/
def execSampleAdmission (p n : Nat) (s : State) : Host.Outcome State Fault Refusal :=
  .next (((admitKind s p n true).or (admitKind s p n false)).getD s)

/-- The unit that holds a sample is in service. -/
def unitServes (s : State) (unit : Nat) (x : Sample) : Bool :=
  x.unit == some unit && !s.isRetired (.drillUnit, unit) && !s.isTesting (.drillUnit, unit)

/-- A unit ends the decode of its sample within the budget; a syntax error rejects it. -/
def execSampleDecoded (p n unit : Nat) (s : State) : Host.Outcome State Fault Refusal :=
  .next (sampleStep s p n (fun x => x.stage == .admitted && x.fate != .budget && unitServes s unit x) fun x =>
    { x with stage := if x.fate = .accepted then .decoded else .over })

def execDecodeBudgetExceeded (p n unit : Nat) (s : State) : Host.Outcome State Fault Refusal :=
  .next (sampleStep s p n (fun x => x.stage == .admitted && x.fate == .budget && unitServes s unit x) fun x =>
    { x with stage := .over })

def execSampleAugmented (p n unit : Nat) (s : State) : Host.Outcome State Fault Refusal :=
  .next (sampleStep s p n (fun x => x.stage == .decoded && x.unit == some unit) fun x =>
    { x with stage := .over })

/-! ### Preparation -/

/-- A MOVE into flash that meets a paddock's range is in flight (R268). -/
def moveIntoFlash (s : State) (p : Nat) : Bool :=
  (List.range 8).any fun q => (s.pad q).flights.any fun f => f.opcode == 1 && f.spans.any fun x =>
    x.write && touches .flash x.addr x.len
      && rangesMeet (s.flashOffset q x.addr) x.len (s.obj 0x4820 p) (s.obj 0x4821 p)

/-- The Drill starts on one more batch of a stream: where the depth, the area and the dataset leave room, no MOVE
into the dataset is in flight, and a unit of each kind is left. -/
def prepare (s : State) (p : Nat) (x : Stream) : State :=
  let d := s.pad p
  let n := d.nextFlight
  let c : Ctx := { s := s, p := p, r := x.r, index := 0, ts := x.ts, seed := d.seed, step := d.obj 0x5821 0 }
  match x.frontier d (d.obj 0x7009 0) x.base, d.areaRoom (workBytes x.ts) with
  | some at_, some o =>
    let j : Job := { c := c, aug := parseAug x.aug, env := x.env, first := at_ }
    let l := j.scan
    if l.isEmpty || moveIntoFlash s p || unitsLeft s true = 0 || unitsLeft s false = 0
        || l.any (fun y => y.2.lost s p) then s
    else
      let b := { batchOf j n l with aug := x.aug, ahead := some o, waits := false }
      s.setPad p { d with
        nextFlight := n + 1, batches := d.batches ++ [b], samples := d.samples ++ samplesOf n l }
  | _, _ => s

def execBatchPreparation (p stream : Nat) (s : State) : Host.Outcome State Fault Refusal :=
  .next (match (s.pad p).streams[stream]? with
    | some x => if (s.pad p).active && !(s.pad p).stopped then prepare s p x else s
    | none => s)

end Sys2Proof.Machine
end

