-- ==== Sys2Proof/Machine/Time.lean ====
section
/-! DEFINITION. Device time over the links and from IEEE 1588 (R299 to R301, R343, R344). Times are
counted in units of 2^-32 ns where the exchange gives a fraction. -/

namespace Sys2Proof.Machine
open Sys2Proof

/-- A device time in units of 2^-32 ns. -/
def stamp (ns frac : Nat) : Int := (ns : Int) * 4294967296 + frac

/-- Units of 2^-32 ns as whole picoseconds, toward minus infinity. -/
def toPs (x : Int) : Int := x * 1000 / 4294967296

def i32Code (x : Int) : Nat := (x % 4294967296).toNat

/-- Move device time by an offset; used for its one setting only (R343). -/
def TimeState.shift (t : TimeState) (x : Int) : TimeState :=
  let v := stamp t.ns t.frac + x
  { t with ns := (v / 4294967296).toNat % 2 ^ 64, frac := (v % 4294967296).toNat }

/-- The slew that removes an offset over one exchange period, within 500 ppm, in parts per billion
(R299; DESIGN CHOICE, log entry 16). -/
def slewFor (x : Int) : Int :=
  let ppb := x * 1000 / 4294967296
  max (-500000) (min 500000 ppb)

/-! ### Who serves, who is followed (R299, R300) -/

def State.candidate (s : State) : Bool := s.obj 0x5C00 0 == 1

/-- A candidate serves while no neighbour has named a lower candidate in locked state. -/
def State.servesTime (s : State) : Bool := s.candidate && s.time.lowerSeen.isNone

/-- The neighbours heard in the last 10 ms. -/
def State.heard (s : State) : List Neighbour :=
  s.time.neighbours.filter fun n => s.now < n.at_ + 10000000 && n.source.isSome

/-- The source that this device follows: its own address while it serves, else the lowest named. -/
def State.timeSource (s : State) : Option Nat :=
  if s.servesTime then some s.address
  else (s.heard.filterMap (·.source)).foldl (fun a x => match a with
    | none => some x
    | some y => some (min x y)) none

/-- The parent: fewest hops to the serving source, then lowest physical address. -/
def State.timeParent (s : State) : Option Neighbour :=
  if s.servesTime then none
  else
    let src := s.timeSource
    let key := fun (n : Neighbour) =>
      (n.hops, match (s.link n.link).peer with | some (a, _) => a | none => 2 ^ 18)
    (s.heard.filter fun n => n.source == src && n.hops < 255).foldl (fun a n => match a with
      | none => some n
      | some b =>
        if (key n).1 < (key b).1 || ((key n).1 == (key b).1 && (key n).2 < (key b).2) then some n
        else some b) none

def State.timeHops (s : State) : Nat :=
  if s.servesTime then 0
  else match s.timeParent with | some n => min 255 (n.hops + 1) | none => 255

/-- Set the objects that show the followed source (R300, R305). -/
def State.showTime (s : State) : State :=
  ((s.setObj 0x5C02 0 (match s.timeParent with | some n => n.link | none => 0xFF)).setObj 0x5C03 0
    s.timeHops).setObj 0x5C11 0 (match s.timeSource with | some a => a | none => 0xFFFFFFFF)

/-- Keep what a neighbour's exchange names, one entry for each link. -/
def State.hear (s : State) (link : Nat) (b : List Byte) : State :=
  let src := leField b 0x2C 4
  let n : Neighbour :=
    { link := link, source := if src = 0xFFFFFFFF then none else some (src % 2 ^ 18),
      locked := leField b 2 1 == 1, hops := leField b 1 1, at_ := s.now }
  let lower := s.candidate && n.locked && match n.source with
    | some a => a < s.address
    | none => false
  { s with time := { s.time with
      neighbours := n :: s.time.neighbours.filter fun x => x.link != link
      lowerSeen := if lower then some s.now else s.time.lowerSeen } }

/-- The payload of an exchange (R299). -/
def exchangeBytes (s : State) (kind : Nat) (t1 t2 t3 : Nat × Nat) : List Byte :=
  leBytes 1 kind ++ leBytes 1 s.timeHops ++ leBytes 1 (s.obj 0x5C01 0) ++ leBytes 5 0
    ++ leBytes 8 t1.1 ++ leBytes 4 t1.2 ++ leBytes 8 t2.1 ++ leBytes 4 t2.2
    ++ leBytes 8 t3.1 ++ leBytes 4 t3.2
    ++ leBytes 4 (match s.timeSource with | some a => a | none => 0xFFFFFFFF) ++ leBytes 16 0

def State.sendExchange (s : State) (n : Nat) (b : List Byte) : State :=
  s.sendLink n (laneZero s 0x11 (match (s.link n).peer with | some (a, _) => a | none => 0) b)

/-- A device that does not serve asks on each up link (R299). -/
def execTimeExchangeTimer (s : State) : Host.Outcome State Fault Refusal :=
  .next (
    if s.servesTime then s
    else
      (List.range 48).foldl (fun s n =>
        if !(s.link n).isUp then s
        else
          let t := (s.time.ns % 2 ^ 64, s.time.frac)
          let s := { s with time := { s.time with
            asked := (n, t.1, t.2) :: s.time.asked.filter fun x => x.1 != n } }
          s.sendExchange n (exchangeBytes s 1 t (0, 0) (0, 0))) s)

/-- A time exchange, header and payload slot, of a kind. -/
def exchangeOk (kind : Nat) (b : List Byte) : Bool := laneZeroOk 0x11 b && leField b 64 1 == kind

/-- Its reserved fields (R280, R299). -/
def exchangeReserved (b : List Byte) : Bool :=
  !zeroField b 3 5 || !zeroField b 0x30 16
    || (leField b 0x2C 4 ≥ 2 ^ 18 && leField b 0x2C 4 != 0xFFFFFFFF)

/-- Count a lane 0 message and free its slots. -/
def State.takeLaneZero (s : State) (n : Nat) : State :=
  (s.addObj 0x5008 n 2).modLink n fun l => { l with freed := bump l.freed 0 2 }

/-- The parent answers with t1, t2 and t3 (R299). -/
def execTimeExchangeRequest (link : Nat) (message : List Byte) (stampNs stampFrac : Nat) (s : State) :
    Host.Outcome State Fault Refusal :=
  let payload := message.drop 64
  .next (
    if 48 ≤ link || !(s.link link).isUp || !exchangeOk 1 message then s
    else
      let s := s.takeLaneZero link
      if reservedSet (message.take 64) || exchangeReserved payload then s.addObj 0x5404 0 1
      else
        let s := (s.hear link payload).showTime
        s.sendExchange link (exchangeBytes s 2 (leField payload 8 8, leField payload 0x10 4)
          (stampNs, stampFrac) (s.time.ns % 2 ^ 64, s.time.frac)))

/-- The error bound of a device that follows a source: 25 ns for each hop (R301). -/
def hopBound (hops : Nat) : Nat := 25 * hops

/-- The child computes its offset to its parent and slews toward it (R299, R301, R343). -/
def execTimeExchangeReply (link : Nat) (message : List Byte) (stampNs stampFrac : Nat) (s : State) :
    Host.Outcome State Fault Refusal :=
  let payload := message.drop 64
  let t1 := (leField payload 8 8, leField payload 0x10 4)
  .next (
    if 48 ≤ link || !(s.link link).isUp || !exchangeOk 2 message
        || !s.time.asked.contains (link, t1.1, t1.2) then s
    else
      let s := s.takeLaneZero link
      if reservedSet (message.take 64) || exchangeReserved payload then s.addObj 0x5404 0 1
      else
        let s := s.hear link payload
        let s := { s with time := { s.time with asked := s.time.asked.filter fun x => x.1 != link } }
        match s.timeParent with
        | none => s.showTime
        | some n =>
          if n.link != link then s.showTime
          else
            let a := stamp t1.1 t1.2
            let b := stamp (leField payload 0x14 8) (leField payload 0x1C 4)
            let c := stamp (leField payload 0x20 8) (leField payload 0x28 4)
            let d := stamp stampNs stampFrac
            let off := ((b - a) - (d - c)) / 2
            let delay := ((b - a) + (d - c)) / 2
            let first := s.obj 0x5C01 0 == 0 && !s.time.setOnce
            let t := if first then s.time.shift off else { s.time with slew := slewFor off }
            let s := { s with time := { t with setOnce := true, lastExchange := t.ns % 2 ^ 64 } }
            ((((s.setObj 0x5C01 0 1).setObj 0x5C04 0 (i32Code (toPs off))).setObj 0x5C05 0
              (i32Code (toPs delay))).setObj 0x5C07 0 (hopBound s.timeHops)).showTime)

/-- 10 ms without an exchange: a locked device that follows another keeps its last rate (R301). -/
def execHoldoverTimeout (s : State) : Host.Outcome State Fault Refusal :=
  .next (
    if s.obj 0x5C01 0 != 1 || s.servesTime then s
    else (s.setObj 0x5C01 0 2).setObj 0x5C07 0 500)

/-- After 5 s of holdover (R301). -/
def execFreeRunningTimeout (s : State) : Host.Outcome State Fault Refusal :=
  .next (
    if s.obj 0x5C01 0 != 2 then s
    else
      let s := (s.setObj 0x5C01 0 0).setObj 0x5C07 0 0xFFFFFFFF
      { s with time := { s.time with neighbours := [] } }.showTime)

/-- No lower candidate in locked state has been named for 10 ms: the candidate serves (R300). -/
def execTimeSourceTakeover (s : State) : Host.Outcome State Fault Refusal :=
  .next (
    if !s.candidate || s.time.lowerSeen.isNone then s
    else { s with time := { s.time with lowerSeen := none } }.showTime)

/-! ### IEEE 1588 (R344) -/

/-- The bound of a time source: the largest of its last 16 offsets, and 50 ns. -/
def sourceBound (l : List Int) : Nat := (l.map Int.natAbs).foldl max 0 + 50

/-- The measurement of one Sync: the offset in ns is kept, and a time source steers by it. -/
def State.measureSync (s : State) (origin received gm : Nat) : State :=
  let off : Int := (received : Int) - origin - s.time.delayNs
  let s := { s with time := { s.time with
    lastSync := some (origin, received), syncs := (off :: s.time.syncs).take 16 } }
  let s := ((s.setObj 0x5C0D 0 (i32Code (off * 1000))).setObj 0x5C0E 0 (gm % 2 ^ 64))
  let s := if s.obj 0x5C0C 0 = 3 then s else s.setObj 0x5C0C 0 2
  if !s.servesTime then s
  else
    let first := s.obj 0x5C01 0 == 0 && !s.time.setOnce
    let x : Int := -off * 4294967296
    let t := if first then s.time.shift x else { s.time with slew := slewFor x }
    let s := { s with time := { t with setOnce := true } }
    ((s.setObj 0x5C01 0 1).setObj 0x5C07 0 (sourceBound s.time.syncs)).showTime

/-- A PTP event message on the port and in the domain of the slave-only clock. -/
def execPtpEventMessage (port domain : Nat) (message : PtpMessage) (s : State) :
    Host.Outcome State Fault Refusal :=
  .next (
    if s.obj 0x5C08 0 = 0 || port != s.obj 0x5C09 0 || domain != s.obj 0x5C0A 0 || !s.portUp port then s
    else
      let s := s.framesIn port 1
      match message with
      | .sync o r g => s.measureSync o r g
      | .delayResp sent master =>
        match s.time.lastSync with
        | none => s
        | some (t1, t2) =>
          let d : Int := ((t2 : Int) - t1 + ((master : Int) - sent)) / 2
          { s with time := { s.time with delayNs := d.toNat } }.setObj 0x5C0C 0 3)

/-- The clock asks for its delay once it has heard its master. -/
def execDelayRequestInterval (s : State) : Host.Outcome State Fault Refusal :=
  let port := s.obj 0x5C09 0
  .next (
    if s.obj 0x5C08 0 = 0 || !s.portUp port || s.time.lastSync.isNone then s
    else (s.emit (.ptpDelayReq port)).framesOut port 1)

end Sys2Proof.Machine
end

