-- ==== Sys2Proof/Machine/Power.lean ====
section
/-! DEFINITION. Power, clocks and temperature: start-up and reset of the main die, the always-on rail,
derating, PMBus, power and thermal control, and the test access port (R15, R20, R21, R302, R331, R353,
R405, R446 to R456, R462). -/

namespace Sys2Proof.Machine
open Sys2Proof

/-! ### Units without the ones a class needs (R361, R362) -/

/-- Hosts with a retired logical port. -/
def State.retiredHosts (s : State) : Nat :=
  ((List.range 4).filter fun h => s.faults.retired.any fun u => u.1 == .hostPort && u.2 / 2 == h).length

/-- Every unit class has the units it needs. -/
def State.complete (s : State) : Bool :=
  let n := fun (c : UnitClass) (f : Nat → Bool) => s.retiredIn fun u => u.1 == c && f u.2
  ((List.range 24).all fun k => n .plot (fun u => u / 17 == k) ≤ 1 && n .stripBank (fun u => u / 17 == k) ≤ 1)
    && n .directoryBank (fun _ => true) ≤ 1 && n .collectiveEngine (fun _ => true) < 4
    && n .drillUnit (fun u => u < 16) < 16 && n .drillUnit (fun u => 16 ≤ u && u < 24) < 8
    && n .drillUnit (fun u => u == 24) == 0 && n .controlCore (fun _ => true) == 0 && s.retiredHosts < 4

/-! ### The strips as the retirement records leave them (R361) -/

/-- Logical plots of a strip: a retired plot gives its number to the spare, the lowest one first. -/
def plotMap (retired : List Nat) : List (Option Nat) :=
  (List.range 16).map fun q =>
    if !retired.contains q then some q
    else if retired.contains 16 || retired.any (fun r => r < q) then none
    else some 16

/-- Strip `k` with no work, its retired plots and edge engine out of service. -/
def State.freshStrip (s : State) (k : Nat) : Strip :=
  let gone := s.faults.retired.filterMap fun u =>
    if u.1 == .plot && u.2 / 17 == k then some (u.2 % 17) else none
  { Strip.fresh with
    map := plotMap gone
    spareFree := gone.isEmpty
    edge := if s.isRetired (.edgeEngine, k) then .retired else .available }

def State.restoreUnits (s : State) : State :=
  ({ s with strips := Vector.ofFn fun k => s.freshStrip k.val }).setObj 0x5801 0
    (4 - min 4 (s.retiredIn fun u => u.1 == UnitClass.collectiveEngine))

/-! ### Self-test and update at a reset (R437, R461) -/

/-- A run stops: no record changes, and what completed phases found is discarded. -/
def State.stopBist (s : State) : State :=
  if s.bist.state != 1 then s
  else { s with bist := { s.bist with state := 4, phase := 0, wave := 0, failed := [] } }

/-- The slot that an update writes. -/
def Firmware.inactive (f : Firmware) : Nat := 1 - min 1 (f.running.getD 0)

/-- The update returns to idle and its slot is invalid. -/
def Firmware.abandon (f : Firmware) : Firmware :=
  { f with update := .idle, header := [], carry := [], states := f.states.set f.inactive 3 }

/-- What a reset of the main die does to an update. -/
def Firmware.atReset (f : Firmware) : Firmware :=
  match f.update with
  | .erasing => f.abandon
  | .receiving => f.abandon
  | _ => { f with update := .idle, header := [], carry := [] }

/-! ### Reset of the main die (R21, R302, R331, R353, R405, R422) -/

/-- Per-device objects that a reset of the main die returns to their defaults: counts of the main die
and values that its new state replaces. Settings, and what is counted since manufacture, stay. -/
def clearedAtReset (k : Nat) : Bool :=
  let i := k / 256
  (0x2030 ≤ i && i ≤ 0x2033) || i == 0x3003 || i == 0x3004 || i == 0x3801
    || (0x380B ≤ i && i ≤ 0x380F) || i == 0x4006 || i == 0x4007 || i == 0x4400 || i == 0x4403
    || i == 0x4404 || i == 0x4405 || i == 0x4430 || i == 0x4440 || i == 0x4441
    || (0x480C ≤ i && i ≤ 0x480E) || (0x5003 ≤ i && i ≤ 0x5008) || i == 0x5401
    || (0x5403 ≤ i && i ≤ 0x5406) || (0x5C01 ≤ i && i ≤ 0x5C07 && i != 0x5C06)
    || (0x5C0C ≤ i && i ≤ 0x5C0E) || i == 0x5C11 || (0x8000 ≤ i && i ≤ 0x80FF)

/-- A fabric queue pair after a reset: its written fields stay, and nothing is outstanding. -/
def QueuePair.afterReset (x : QueuePair) : QueuePair :=
  { QueuePair.blank x.index with fields := x.fields }

/-- The main die is in reset: no paddock exists, and what it held is gone. Flash, the always-on island,
the retirement records but those of links, and device time are kept. -/
def State.resetMain (s : State) : State :=
  let links := ((List.range 48).filter fun n => (s.link n).state == LinkState.retired).length
  let s := s.stopBist
  let s := s.setObj 0x9011 0 (s.obj 0x9011 0 - links)
  let s := { s with
    objs := s.objs.filter fun e => !clearedAtReset e.1
    paddocks := Vector.replicate 8 Paddock.fresh
    qps := (s.qps.filter fun (x : QueuePair) => decide (x.index < 66)).map QueuePair.afterReset
    videoTurn := 0, imageTurn := 0, pauses := [], outbox := [], rcTurns := Vector.replicate 8 0, inbox := [], seen := [], directory := []
    links := Vector.ofFn fun n =>
      if s.obj 0x5002 n.val = 0 then { Link.fresh with state := .disabled }
      else { Link.fresh with testPending := (s.link n.val).state == LinkState.retired }
    time := { s.time with neighbours := [], asked := [], lowerSeen := none, slew := 0, syncs := [],
                          lastSync := none, delayNs := 0 }
    firmware := s.firmware.atReset
    life := { s.life with principals := List.replicate 8 Principal.fresh ++ s.life.principals.drop 8 }
    faults := { s.faults with
      retired := s.faults.retired.filter fun u => u.1 != UnitClass.chipLink, testing := [] }
    tiers := { s.tiers with
      cxlDevices := [], cxlPresent := false, withdrawn := [], targets := 0, cellType := 0,
      targetBytes := 0, flashState := 0, corrections := []
      bifurcation := [s.obj 0x4401 0, s.obj 0x4402 0] }
    power := { s.power with
      running := false, firmware := false, hbm := none, cxlDone := false, ready := false, clockMHz := 0, cycles := 0
      causes := s.power.causes &&& 2, quietSince := none } }
  s.restoreUnits

/-! ### Start of the main die (R20) -/

/-- A logical port in the mode of its host port, and not retired (R333). -/
def State.portUsable (s : State) (n : Nat) : Bool :=
  n < 8 && (n % 2 == 0 || s.obj 0x3800 (n / 2) == 1)
    && !(s.faults.retired.any fun u => u.1 == .hostPort && u.2 / 2 == n / 2)

/-- Nothing holds the main die in reset (R427, R432, R448, R449, R451, R456); without firmware it stays there until the
rescue of R441 (R435; DEDUCED, log entry 147). -/
def State.mayStart (s : State) : Bool :=
  s.power.aoGood && s.power.mainGood && !s.power.rstHeld && !s.power.thermTrip && s.power.sysClock
    && s.life.state != .retired && !s.power.running && !s.power.absent

/-- Links that are down start training; those of a pair in bypass stay with the Headland (R294, R302). -/
def Link.train (cabling : Bool) (l : Link) : Link :=
  if l.state == .down then { l with state := .training, cabling := cabling } else l

def State.trainLinks (s : State) : State :=
  { s with links := s.links.map (Link.train (Nat.beq (s.obj 0x5402 0) 1)) }

def State.trainPorts (s : State) : State :=
  (List.range 8).foldl (fun s n => if s.portUsable n then s.setObj 0x3801 n 1 else s) s

/-- The clock listens where PTP is enabled (R356). -/
def State.showPtp (s : State) : State := s.setObj 0x5C0C 0 (if Nat.beq (s.obj 0x5C08 0) 1 then 1 else 0)

def Power.started (w : Power) (address : Nat) : Power :=
  { w with running := true, absent := false, clockMHz := 3300, throttledNs := 0, cycles := 0, upNs := 0,
           address := address }

/-- The main die leaves reset, where nothing holds it. -/
def State.startMain (s : State) : State :=
  if !s.mayStart then s
  else
    let s := s.trainLinks.trainPorts.showPtp
    { s with
      tiers := { s.tiers with flashState := 1 }
      power := s.power.started (s.obj 0x5400 0 % 2 ^ 18) }.showTime

/-- Log a reset of the main die by the device itself (R448, R451, R456). -/
def State.logReset (s : State) (detail : Nat) : State :=
  s.log { status := 0, cls := .device, unit := 0, detection := 5, outcome := 0, detail := detail }

/-! ### The rails (R447 to R449) -/

/-- The always-on island leaves reset; the straps are sampled (R405, R464). -/
def execAoPowerGood (s : State) : Host.Outcome State Fault Refusal :=
  .next (
    if s.power.aoGood then s
    else
      let s := { s with power := { s.power with aoGood := true, address := Config.addressStraps % 2 ^ 18 } }
      (s.setObj 0x5400 0 (Config.addressStraps % 2 ^ 18)).setObj 0x1081 0 (Config.plcaStraps % 8))

/-- MAIN_PWRGD rises with the always-on rail up: the start-up begins. -/
def execMainPowerGood (s : State) : Host.Outcome State Fault Refusal :=
  .next (
    if !s.power.aoGood || s.power.mainGood then s
    else { s with power := { s.power with mainGood := true } }.startMain)

def execMainPowerLoss (s : State) : Host.Outcome State Fault Refusal :=
  .next (
    if !s.power.mainGood then s
    else
      let s := (s.logReset 1).resetMain
      { s with power := { s.power with mainGood := false } })

/-- MAIN_RST_N asserted for at least 10 µs while MAIN_PWRGD stays asserted. -/
def execMainReset (widthUs : Nat) (s : State) : Host.Outcome State Fault Refusal :=
  .next (
    if !s.power.mainGood || widthUs < 10 then s
    else
      let s := s.resetMain
      { s with power := { s.power with rstHeld := true } })

def execMainRstNRelease (s : State) : Host.Outcome State Fault Refusal :=
  .next (if s.power.rstHeld then { s with power := { s.power with rstHeld := false } }.startMain else s)

/-- Objects that count since manufacture, or that NAND keeps. -/
def keptForEver (k : Nat) : Bool :=
  let i := k / 256
  i == 0x240B || (0x4809 ≤ i && i ≤ 0x480B) || i == 0x480F || i == 0x4810

/-- The always-on rail falls: only fuses, keys, NOR and NAND keep what they held (R405, R427, R433). -/
def execAoRailLoss (s : State) : Host.Outcome State Fault Refusal :=
  .next (
    if !s.power.aoGood then s
    else
      let r := s.resetMain
      { State.reset with
        pending := s.pending, out := s.out, free := s.free, controlNumber := s.controlNumber
        objs := r.objs.filter fun e => keptForEver e.1
        life := { r.life with nonces := [], reports := Life.fresh.reports }
        firmware := r.firmware
        tiers := { Tiers.fresh with
          flash := s.tiers.flash, parityInForce := s.tiers.parityInForce, cleanStop := s.tiers.cleanStop
          readOnly := s.tiers.readOnly, lostTargets := s.tiers.lostTargets } })

/-! ### Start-up rows of R20 -/

/-- Stacks 0 to 11 that trained. One that fails is a lasting fault: it is logged and the device does not
become ready. -/
def execHbmTrained (stackMask : Nat) (s : State) : Host.Outcome State Fault Refusal :=
  .next (
    if !s.power.running || s.power.hbm.isSome then s
    else
      let bad := (List.range 12).filter fun k => !stackMask.testBit k
      let s := bad.foldl (fun s k =>
        s.log { status := 0x51, cls := .hbmBlock, unit := k, detection := 6, outcome := 3 }) s
      { s with power := { s.power with hbm := some bad.isEmpty } })

/-- A logical port has linked with its partner. -/
def execHostPortLinked (port : Nat) (s : State) : Host.Outcome State Fault Refusal :=
  .next (if s.power.running && s.portUsable port then s.setObj 0x3801 port 2 else s)

/-- Queue-pair entries 0 to 65 return to ready where they were written so (R353). -/
def QueuePair.again (x : QueuePair) : QueuePair :=
  if x.index < 66 && leField x.fields 0 1 == 1 then { x with state := 1 } else x

/-- A row of R20 is over for a part that has not come up: its latest time has passed, and the part is reported
absent (DESIGN CHOICE, log entry 119). -/
def Power.past (w : Power) (ms : Nat) : Bool := ms * 1000000 ≤ w.upNs

/-- Every logical port has linked or is reported absent. -/
def State.portsDone (s : State) : Bool :=
  s.power.past 1500 || (List.range 8).all fun n => s.obj 0x3801 n != 1

/-- Every chip link has trained or is reported absent. -/
def State.linksDone (s : State) : Bool :=
  s.power.past 2000 || s.links.all fun l => l.state != .training && l.state != .identify

/-- Every row of R20 before the last is complete or its part is reported absent. -/
def State.startupDone (s : State) : Bool :=
  s.power.firmware && s.power.hbm == some true && s.portsDone && s.linksDone && s.power.cxlDone
    && s.tiers.flashState != 1

/-- Every earlier row is complete or reported absent, and the device is ready for paddocks. -/
def execDeviceReady (s : State) : Host.Outcome State Fault Refusal :=
  .next (
    if !s.power.running || !s.startupDone || s.power.ready then s
    else { s with
      qps := s.qps.map QueuePair.again
      power := { s.power with ready := true } })

/-! ### Clocks (R451) -/

def execRefclkSysLoss (s : State) : Host.Outcome State Fault Refusal :=
  .next (
    let s := { s with power := { s.power with sysClock := false } }
    if s.power.running then (s.logReset 2).resetMain else s)

/-- The input has been present for 10 ms. -/
def execRefclkSysRestored (s : State) : Host.Outcome State Fault Refusal :=
  .next (if s.power.sysClock then s else { s with power := { s.power with sysClock := true } }.startMain)

/-- A port's links go down, and with devices behind it the interleave set is lost (R234). -/
def execRefclkCxlLoss (port : Nat) (s : State) : Host.Outcome State Fault Refusal :=
  .next (
    if port = 0 || port = 1 then
      let s := { s with power :=
        if port = 0 then { s.power with cxlClock0 := false } else { s.power with cxlClock1 := false } }
      (if s.tiers.cxlDevices.any fun x => x.port == port then s.loseTier none else s).dropPortLink (some port)
    else s)

/-- The management port and the Headland stop: every Headland pair passes nothing. -/
def execAoClkLoss (s : State) : Host.Outcome State Fault Refusal :=
  .next { s with
    power := { s.power with aoClock := false }
    links := s.links.map fun l => if l.state == .bypass then l.restart .down else l }

/-- The Headland runs again; it retimes a pair once it has trained it (R294). With the main die running,
links that the loss took down train. -/
def execAoClkRestored (s : State) : Host.Outcome State Fault Refusal :=
  .next (
    let s := { s with power := { s.power with aoClock := true } }
    if s.power.running then s.trainLinks else s)

/-! ### Derating (R454) -/

/-- A STATUS_WORD that reports an input or output voltage, current or power fault or warning: its bits
15 to 13 and 5 to 3 (PRESUMED, the PMBus standard; log entry 31). -/
def statusFault (w : Nat) : Bool := w &&& 0xE038 != 0

/-- A cause of derating holds. -/
def State.derateCause (s : State) : Bool :=
  s.power.deratePin || !s.power.regFaults.isEmpty || s.obj 0x2011 0 < 2950

/-- Bit 1 of object 0x2002 follows the derated state. -/
def Power.setCause (w : Power) (bit : Nat) (on : Bool) : Power :=
  { w with causes := if on then w.causes ||| 2 ^ bit else w.causes &&& (255 - 2 ^ bit) }

/-- Follow the causes: the state starts with one, and its last 10 s start when none is left. -/
def State.followDerate (s : State) : State :=
  let w := s.power
  if s.derateCause then { s with power := { w with derated := true, holdSince := none }.setCause 1 true }
  else if w.derated && w.holdSince.isNone then { s with power := { w with holdSince := some s.now } }
  else s

/-- Note a rail's STATUS_WORD. -/
def State.noteStatus (s : State) (rail w : Nat) : State :=
  let others := s.power.regFaults.filter fun r => r != rail
  { s with power := { s.power with regFaults := if statusFault w then rail :: others else others } }

/-- DERATE_N moves, or a regulator's STATUS_WORD is read (rail 16 stands for a read that names none). -/
def execDerateAssert (cause : DerateCause) (s : State) : Host.Outcome State Fault Refusal :=
  .next (
    if !s.power.aoGood then s
    else match cause with
      | .pin b => { s with power := { s.power with deratePin := b } }.followDerate
      | .regulator w => (s.noteStatus 16 w).followDerate)

def execDerateEndTimer (s : State) : Host.Outcome State Fault Refusal :=
  .next (match s.power.holdSince with
    | some t =>
      if s.power.derated && !s.derateCause && t + 10000000000 ≤ s.now then
        { s with power := { s.power with derated := false, holdSince := none }.setCause 1 false }
      else s
    | none => s)

/-! ### The power limit (R453) -/

def State.powerLimit (s : State) : Nat :=
  if s.power.derated then min (s.obj 0x2011 0) (s.obj 0x2012 0) else s.obj 0x2011 0

/-- The steps of the plot clock in MHz. -/
def clockSteps : List Nat := [3300, 3000, 2700, 2400, 2100, 1800, 1650]

def stepDown (c : Nat) : Nat := (clockSteps.find? fun x => x < c).getD 1650

def stepUp (c : Nat) : Nat := (clockSteps.reverse.find? fun x => c < x).getD 3300

/-- Lower the plot clock by one step for a cause. -/
def State.slowFor (s : State) (bit : Nat) : State :=
  { s with power := { s.power with clockMHz := stepDown s.power.clockMHz, quietSince := none }.setCause bit true }

/-- The estimate of the last microsecond beside the last PMBus power. -/
def execPowerEstimateTick (watts : Nat) (s : State) : Host.Outcome State Fault Refusal :=
  .next (
    if !s.power.running then s
    else
      let lim := s.powerLimit
      let p := s.obj 0x2013 0
      if lim < watts || lim < p then s.slowFor 0
      else if 20 * watts < 19 * lim && 20 * p < 19 * lim then
        { s with power := { s.power with quietSince := some (s.power.quietSince.getD s.now) } }
      else { s with power := { s.power with quietSince := none } })

/-- One step up after 100 µs below 95 % of the limit, with no temperature at its throttle. -/
def execClockStepUp (s : State) : Host.Outcome State Fault Refusal :=
  .next (match s.power.quietSince with
    | some t =>
      if s.power.running && t + 100000 ≤ s.now && s.power.causes &&& 0x1C == 0 then
        let c := stepUp s.power.clockMHz
        let w := { s.power with clockMHz := c, quietSince := some s.now }
        { s with power := if c = 3300 then (w.setCause 0 false).setCause 5 false else w }
      else s
    | none => s)

/-- Array issue is withheld for 1 to 4 cycles: timing only (R19, R453). -/
def execDroopDetect (_rail _cycles : Nat) (s : State) : Host.Outcome State Fault Refusal := .next s

/-! ### PMBus (R452) -/

/-- The rails with a regulator. -/
def State.polledRails (s : State) : List Nat := (List.range 16).filter fun r => s.obj 0x2022 r % 128 != 0

/-- Keep one rail's STATUS_WORD. -/
def State.keepStatus (s : State) (rail w : Nat) : State := (s.setObj 0x2023 rail (w % 65536)).noteStatus rail w

/-- PMBUS_ALERT_N falls: the STATUS_WORD of every rail with a regulator is read. -/
def execPmbusAlert (words : List Nat) (s : State) : Host.Outcome State Fault Refusal :=
  .next (
    if !s.power.aoGood then s
    else
      ((s.polledRails.zip words).foldl (fun s x => (s.emit (.pmbusRead x.1)).keepStatus x.1 x.2) s).followDerate)

/-- The largest current of a rail in mA (R446). -/
def maxCurrent (rail : Nat) : Nat :=
  [700000, 700000, 700000, 700000, 250000, 360000, 240000, 36000, 400000, 180000, 16000, 130000, 35000,
    110000, 8000, 2000].getD rail 0

/-- What one rail's poll brought. A failed read counts, and the last good value stands. -/
def State.pollRail (s : State) (x : PmbusReading) : State :=
  if !s.polledRails.contains x.rail then s
  else
    let s := s.emit (.pmbusRead x.rail)
    let s := match x.value with
      | some (mv, ma) => (s.setObj 0x2020 x.rail (mv % 65536)).setObj 0x2021 x.rail (ma % 2 ^ 32)
      | none => s.addObj 0x2041 0 1
    match x.status with
    | some w => s.keepStatus x.rail w
    | none => s

/-- The power of all rails in W. -/
def State.railPower (s : State) : Nat :=
  ((List.range 16).map fun r => s.obj 0x2020 r * s.obj 0x2021 r).foldl (· + ·) 0 / 1000000

/-- One poll period. While a self-test runs its peak is noted (R458). -/
def execPmbusPoll (readings : List PmbusReading) (s : State) : Host.Outcome State Fault Refusal :=
  .next (
    if !s.power.aoGood then s
    else
      let s := (readings.foldl State.pollRail s).followDerate
      let p := min 65535 s.railPower
      let s := (s.setObj 0x2013 0 p).setObj 0x2014 0 (max p (s.obj 0x2014 0))
      let s := if s.bist.state = 1 then { s with bist := { s.bist with peak := max p s.bist.peak } } else s
      if s.power.running && s.polledRails.any fun r => maxCurrent r < s.obj 0x2021 r then s.slowFor 5
      else s)

/-! ### Temperature (R456) -/

/-- Throttle, release and trip temperatures in m°C, and the bit of object 0x2002. -/
def thermalRow (x : ThermalSensor) : Int × Int × Int × Nat :=
  match x with
  | .mainDie => (100000, 97000, 115000, 2)
  | .linkDie => (105000, 102000, 120000, 4)
  | .hbmStack => (92000, 89000, 100000, 3)

/-- The hottest main-die sensor is reported. -/
def State.noteHottest (s : State) (x : ThermalSensor) (milliC : Int) : State :=
  if x = .mainDie then s.setObj 0x2033 0 (i32Code milliC) else s

/-- The hottest sensor of a group as it is read: at or above the throttle temperature one step down;
below the release temperature the cause ends. -/
def execThermalThrottle (sensor : ThermalSensor) (milliC : Int) (s : State) :
    Host.Outcome State Fault Refusal :=
  let (hot, release, _, bit) := thermalRow sensor
  .next (
    if !s.power.running then s
    else
      let s := s.noteHottest sensor milliC
      if hot ≤ milliC then s.slowFor bit
      else if milliC < release then { s with power := s.power.setCause bit false }
      else s)

/-- A trip resets the main die and asserts THERMTRIP_N. -/
def execThermalTrip (sensor : ThermalSensor) (milliC : Int) (s : State) : Host.Outcome State Fault Refusal :=
  let (_, _, trip, _) := thermalRow sensor
  .next (
    if !s.power.running || milliC < trip then s
    else
      let s := ((s.logReset 4).resetMain).addObj 0x2036 0 1
      { s with power := { s.power with thermTrip := true } })

/-! ### The test access port (R427, R462) -/

/-- The full instruction set is accepted only in BLANK and MAINTENANCE outside a self-test; an
instruction that is not accepted loads BYPASS. Codes 0 and 1 stand for BYPASS and IDCODE. -/
def execTapInstruction (code : Nat) (s : State) : Host.Outcome State Fault Refusal :=
  let open_ := (s.life.state == .blank || s.life.state == .maintenance) && s.bist.state != 1
  .next (
    if !s.power.aoGood then s
    else { s with power := { s.power with tap := if open_ || code ≤ 1 then code else 0 } })

end Sys2Proof.Machine
end

