-- ==== Sys2Proof/Machine/Token.lean ====
section
/-! DEFINITION. TOKENIZE and its dictionary images (R271 to R273, R275). -/

namespace Sys2Proof.Machine
open Sys2Proof

/-! ### Dictionary images (R271) -/

/-- One entry: its string and its token identifier. -/
structure TokenEntry where
  text : List Byte
  id : Nat
  deriving DecidableEq, Repr

/-- The header fields: largest string length, entries, pool bytes, largest identifier. -/
def imageHeader (rd : Reader_) (a : Nat) : Nat × Nat × Nat × Nat :=
  (readLe rd (a + 2) 2, readLe rd (a + 4) 4, readLe rd (a + 8) 4, readLe rd (a + 0xC) 4)

def readEntry (rd : Reader_) (a n i : Nat) : TokenEntry :=
  let e := a + 0x40 + 16 * i
  let pool := a + 0x40 + 16 * n
  { text := (List.range (rd (e + 8)).toNat).map fun k => rd (pool + readLe rd e 4 + k)
    id := readLe rd (e + 4) 4 }

def readEntries (rd : Reader_) (a n : Nat) : List TokenEntry := (List.range n).map (readEntry rd a n)

/-- Bytewise order, a prefix before its extensions, strictly. -/
def bytesLt : List Byte → List Byte → Bool
  | [], [] => false
  | [], _ => true
  | _, [] => false
  | x :: a, y :: b => if x = y then bytesLt a b else decide (x.toNat < y.toNat)

def rising : List TokenEntry → Bool
  | [] => true
  | [_] => true
  | x :: y :: r => bytesLt x.text y.text && rising (y :: r)

/-- Every rule of R271 for an image of `ext` bytes. -/
def dictionaryOk (rd : Reader_) (a ext : Nat) : Bool :=
  let (lmax, n, pool, top) := imageHeader rd a
  let zeros := fun (o k : Nat) => (List.range k).all fun i => rd (a + o + i) == 0
  readLe rd a 2 == 1 && 1 ≤ lmax && lmax ≤ 128 && 256 ≤ n && n ≤ 1048576 && zeros 0x10 48
    && ext == 64 + 16 * n + pool &&
    (let es := readEntries rd a n
     rising es
       && ((List.range n).all fun i =>
          let e := a + 0x40 + 16 * i
          1 ≤ (rd (e + 8)).toNat && (rd (e + 8)).toNat ≤ lmax && zeros (0x40 + 16 * i + 9) 7
            && readLe rd e 4 + (rd (e + 8)).toNat ≤ pool)
       && ((List.range 256).all fun b => es.any fun x => x.text == [BitVec.ofNat 8 b])
       && (es.map fun x => x.text.length).foldl max 0 == lmax && (es.map (·.id)).foldl max 0 == top)

/-! ### Loading (R272) -/

/-- References of a dictionary slot: the TOKENIZE instructions in flight that name it. -/
def dictRefs (d : Paddock) (slot : Nat) : Nat := (d.flights.filter fun f => f.dict == some slot).length

def dictSlot (d : Paddock) (slot : Nat) : Option DictSlot := d.dicts.getD slot none

def loadDictRun (c : Ctx) : Effect :=
  let slot := c.r.p 0
  let t := c.must 1
  if 0 < dictRefs (c.s.pad c.p) slot then
    { s := c.s.modPad c.p fun d => d.addObj 0x7408 0 1, statuses := [0x42], instant := true }
  else
    let (_, n, _, _) := imageHeader c.rd t.addr
    let x : DictSlot := { generation := c.r.p 1, addr := t.addr, entries := n, len := t.e 0 }
    { s := c.s.modPad c.p fun d => { d with dicts := d.dicts.set slot (some x) }, loads := some (4 + slot) }

/-- TOKENIZE with modifier 1. -/
def loadDictOp : Op :=
  { required := fun _ => [1]
    params := [0, 1]
    form := fun r => r.modifier == 1 && r.p 0 < 2 && r.p 1 < 256
    relate := fun c =>
      let t := c.must 1
      [(1, [1], windowOf t.addr == some .hbm && (c.s.pad c.p).inFixed t.addr (t.e 0)),
       (1, [1], 0 < dictRefs (c.s.pad c.p) (c.r.p 0) || t.fmt != .u8 || t.rank != 1
         || dictionaryOk c.rd t.addr (t.e 0))]
    formats := fun c => [(1, (c.must 1).fmt == .u8)]
    shapes := fun c => [(1, (c.must 1).rank == 1)]
    noop := fun _ => false
    late := fun c =>
      let d := c.s.pad c.p
      [(0xFFFF, 0x01, 0 < dictRefs d (c.r.p 0) || (match dictSlot d (c.r.p 0) with
        | some x => x.generation != c.r.p 1
        | none => true))]
    run := loadDictRun }

def execDictionaryImageLoad (p g : Nat) (s : State) : Host.Outcome State Fault Refusal :=
  .next (issue 0x0041 (fun r => r.modifier == 1) loadDictOp p g s)

/-! ### Tokenisation (R273) -/

def isPrefix : List Byte → List Byte → Bool
  | [], _ => true
  | _, [] => false
  | x :: a, y :: b => x == y && isPrefix a b

/-- The entry whose string is the longest prefix of a text. -/
def longest (es : List TokenEntry) (text : List Byte) : Option TokenEntry :=
  es.foldl (fun best x =>
    if !isPrefix x.text text then best
    else match best with
      | some b => if b.text.length < x.text.length then some x else some b
      | none => some x) none

/-- Tokens of a text, at most `tmax`, and what is left of it. -/
def tokenize (es : List TokenEntry) : Nat → List Byte → List Nat × List Byte
  | 0, text => ([], text)
  | n + 1, text =>
    if text.isEmpty then ([], [])
    else match longest es text with
      | none => ([], text)
      | some x =>
        let (l, rest) := tokenize es n (text.drop x.text.length)
        (x.id :: l, rest)

def textLength (c : Ctx) (b : Nat) : Nat :=
  let t := c.must 2
  let v := Fmt.i32.intOf (t.code c.rd (t.offset [b, 0, 0, 0, 0, 0]))
  min v.toNat ((c.must 1).e 0)

def textBytes (c : Ctx) (b : Nat) : List Byte :=
  let t := c.must 1
  (List.range (textLength c b)).map fun i => BitVec.ofNat 8 (t.code c.rd (t.offset [i, b, 0, 0, 0, 0]))

def tokenizeRun (c : Ctx) : Effect :=
  let d := c.s.pad c.p
  let o := c.must 0
  let es := match dictSlot d (c.r.p 0) with
    | some x => readEntries c.rd x.addr x.entries
    | none => []
  let texts := (List.range (o.e 1)).map fun b => tokenize es (o.e 0) (textBytes c b)
  let pad := d.obj 0x7405 0
  let bytes := texts.zipIdx.flatMap fun ((toks, _), b) =>
    ((List.range (o.e 0)).flatMap fun i =>
      codeBytes o (o.offset [i, b, 0, 0, 0, 0]) (toks.getD i pad % 2 ^ o.fmt.bits))
      ++ codeBytes (c.must 2) ((c.must 2).offset [b, 0, 0, 0, 0, 0]) toks.length
  let cut := (texts.filter fun x => !x.2.isEmpty).length
  let made := (texts.map fun x => x.1.length).foldl (· + ·) 0
  { s := (plainWrite c.s c.p bytes).modPad c.p fun d => (d.addObj 0x7406 0 cut).addObj 0x7407 0 made }

def tokenizeOp : Op :=
  { partly := fun _ => [0]
    dict := fun c => some (c.r.p 0)
    required := fun _ => [0, 1, 2]
    params := [0, 1]
    form := fun r => r.modifier == 0 && r.p 0 < 2 && r.p 1 < 256
    reads := fun _ => [2]
    relate := fun c =>
      [(0xFFFF, [], match dictSlot (c.s.pad c.p) (c.r.p 0) with
        | some x => x.generation == c.r.p 1
        | none => false)]
    formats := fun c =>
      let top := match dictSlot (c.s.pad c.p) (c.r.p 0) with
        | some x => readLe c.rd (x.addr + 0xC) 4
        | none => 0
      [(0, (c.must 0).fmt == .u32 || ((c.must 0).fmt == .u16 && top ≤ 65535)),
       (1, (c.must 1).fmt == .u8), (2, (c.must 2).fmt == .i32)]
    shapes := fun c =>
      [(0, (c.must 0).rank == 2), (1, (c.must 1).rank == 2 && (c.must 1).e 1 == (c.must 0).e 1),
       (2, (c.must 2).rank == 1 && (c.must 2).e 0 == (c.must 0).e 1)]
    run := tokenizeRun }

/-- TOKENIZE with modifier 0; a modifier above 1 is malformed. -/
def execTokenize (p g : Nat) (s : State) : Host.Outcome State Fault Refusal :=
  .next (issue 0x0041 (fun r => r.modifier != 1) tokenizeOp p g s)

end Sys2Proof.Machine
end

