-- ==== Sys2Proof/Machine/Values.lean ====
section
/-! DEFINITION. What every object of the dictionary reads as: the values computed from the state, and
the stored ones (R388, R389, R405, R424 to R426, R442 and the object tables of every chapter). -/

namespace Sys2Proof.Machine
open Sys2Proof

/-! ### Identity (R424 to R426) -/

/-- Whether the device holds an identity; R424's digest and key read zero without one. -/
def Life.hasIdentity (l : Life) : Bool := !l.publicKey.isEmpty

/-- MAC address i, and 8 for the management port (R425). -/
def macAddress (s : State) (i : Nat) : List Byte :=
  let d := s.identityDigest
  let b := fun (k : Nat) => (d.getD k 0).toNat
  [BitVec.ofNat 8 ((b 0 &&& 0xFC) ||| 2)] ++ sliceBytes d 1 4 ++ [BitVec.ofNat 8 ((b 5 &&& 0xF0) ||| i)]

/-- The part number as UTF-8. -/
def partNumber : List Byte := [0x41, 0x54, 0x42, 0x2D, 0x47, 0x51, 0x32, 0x34]

def idcode : Nat :=
  (Config.idcodeFields % 16) * 2 ^ 28 + 0x6724 * 2 ^ 12 + (Config.idcodeFields / 16 % 2 ^ 11) * 2 + 1

def lifeCode (x : LifeState) : Nat :=
  match x with
  | .blank => 0 | .provisioned => 1 | .owned => 2 | .ownedLocked => 3 | .maintenance => 4 | .retired => 5

def updateCode (x : UpdateState) : Nat :=
  match x with | .idle => 0 | .erasing => 1 | .receiving => 2 | .staged => 3

/-- The contents of a firmware slot, 0 for A and 1 for B. -/
def Firmware.slot (f : Firmware) (n : Nat) : Mem := if n = 0 then f.slotA else f.slotB

/-- A header field of a slot (R434). -/
def Firmware.field (f : Firmware) (n o k : Nat) : Nat := leNat (memBytes 0xFF (f.slot n) o k)

/-- The always-on ranges 0x1000 and 0x1100, and 0x1200 (R407, R443 to R445). `who` is the principal. -/
def identityValue (s : State) (who index sub : Nat) : Option (List Byte) :=
  let l := s.life
  let f := s.firmware
  match index with
  | 0x1000 => some (if l.hasIdentity then s.identityDigest else List.replicate 64 0)
  | 0x1001 => some (sliceBytes l.publicKey 0 133)
  | 0x1002 => some partNumber
  | 0x1003 => some (leBytes 4 idcode)
  | 0x1004 => some (Config.serialNumber.take 32)
  | 0x1005 => some (leBytes 4 Config.bootRomVersion)
  | 0x1010 => some (sliceBytes l.certificate (256 * sub) 256)
  | 0x1011 => some (leBytes 2 l.certLen)
  | 0x1021 => some (sliceBytes (l.reports.getD sub []) 0 512)
  | 0x1080 => some (macAddress s 8)
  | 0x108D => some (leBytes 8 (match l.principals[who]? with | some x => x.counter | none => 0))
  | 0x1100 => some (leBytes 1 (lifeCode l.state))
  | 0x1102 => some (leBytes 1 (if l.transition.isSome then 1 else 0))
  | 0x1103 => some (sliceBytes l.ownerCommitment 0 64)
  | 0x1105 => some (leBytes 1 (if s.power.absent then 1 else 0))
  | 0x1200 => some (leBytes 1 (f.running.getD 0))
  | 0x1201 => some (leBytes 4 (if f.states.getD sub 0 = 0 then 0 else f.field sub 4 4))
  | 0x1202 => some (leBytes 1 (f.states.getD sub 0))
  | 0x1203 => some (leBytes 1 f.nextSlot)
  | 0x1204 => some (leBytes 4 f.floor)
  | 0x1205 => some (leBytes 4 f.bootCount)
  | 0x1206 => some (leBytes 1 f.lastResult)
  | 0x1207 => some (leBytes 1 f.stepsLeft)
  | 0x1208 => some (leBytes 1 f.revoked)
  | 0x1214 => some (leBytes 1 (updateCode f.update))
  | 0x1219 => some (leBytes 8 f.received)
  | _ => none

def bit (b : Bool) (k : Nat) : Nat := if b then 2 ^ k else 0

/-- Power, clocks, thermal and self-test (R465, R466). -/
def powerValue (s : State) (index : Nat) : Option (List Byte) :=
  let w := s.power
  match index with
  | 0x2000 => some (leBytes 4 w.clockMHz)
  | 0x2001 => some (leBytes 1 (bit w.sysClock 0 + bit w.cxlClock0 1 + bit w.cxlClock1 2 + bit w.aoClock 3
      + bit w.running 4))
  | 0x2002 => some (leBytes 1 w.causes)
  | 0x2003 => some (leBytes 8 (if w.running then w.throttledNs / 1000 else 0))
  | 0x2010 => some (leBytes 1 (if w.derated then 1 else 0))
  | 0x2404 => some (leBytes 1 s.bist.state)
  | 0x2405 => some (leBytes 1 (min 5 s.bist.phase))
  | _ => none

def phaseCode (x : Phase) : Nat :=
  match x with | .absent => 0 | .creating => 0 | .active => 1 | .deleting => 2

/-- Strips that no paddock holds. -/
def State.freeStrips (s : State) : Nat :=
  (List.range 8).foldl (fun a p => if (s.pad p).phase == .absent then a else a &&& (2 ^ 24 - 1 - s.stripMask p))
    (2 ^ 24 - 1)

/-- Paddocks and host ports (R354, R355). Queue-pair entries as the owner reads them. -/
def portsValue (s : State) (who index sub : Nat) : Option (List Byte) :=
  match index with
  | 0x3002 => some (leBytes 1 (phaseCode (s.pad sub).phase))
  | 0x3005 => some (leBytes 4 s.freeStrips)
  | 0x3020 => some (leBytes 1 who)
  | 0x3021 => some (leBytes 4 (s.stripMask who))
  | 0x3022 => some (leBytes 8 (s.linkRights who))
  | 0x3023 => some (leBytes 2 (s.qpQuota who))
  | 0x3801 =>
    let gone := s.faults.retired.any fun u => u.1 == .hostPort && u.2 / 2 == sub / 2
    some (leBytes 1 (if gone then 4 else if s.portUsable sub then s.obj 0x3801 sub else 3))
  | 0x3802 => some (macAddress s sub)
  | _ => if 0x3900 ≤ index && index ≤ 0x390F then some (s.qp (256 * (index - 0x3900) + sub)).bytes else none

/-- The tiers (R242 to R244). -/
def tiersValue (s : State) (p index sub : Nat) : Option (List Byte) :=
  let d := s.pad p
  let t := s.tiers
  match index with
  | 0x4005 =>
    let quotas := ((List.range 8).map s.quota).foldl (· + ·) 0
    some (leBytes 4 (17512589 - s.obj 0x4003 0 - quotas - s.obj 0x4004 0))
  | 0x4020 => some (leBytes 4 (s.quota p))
  | 0x4021 => some (leBytes 4 (s.committed p))
  | 0x4022 => some (leBytes 4 d.residentBlocks)
  | 0x4023 => some (leBytes 4 d.transientBlocks)
  | 0x4030 => some (leBytes 2 (d.allocs.filter fun e => !e.2.releasing).length)
  | 0x4033 =>
    let n := (d.allocs.map fun e => e.2.retained).foldl (· + ·) 0
    some (leBytes 8 (if d.retainedOn then blockSize * n else 0))
  | 0x4420 => some (leBytes 8 (s.obj 0x4410 p))
  | 0x4421 => some (leBytes 8 d.cxlCharged)
  | 0x4800 => some (leBytes 8 t.raw)
  | 0x4801 => some (leBytes 8 t.logical)
  | 0x4802 => some (leBytes 16 t.targets)
  | 0x4803 => some (leBytes 1 t.cellType)
  | 0x4807 => some (leBytes 1 t.flashState)
  | 0x4830 => some (leBytes 8 (s.obj 0x4821 p))
  | 0x4831 => some (leBytes 1 (s.obj 0x4822 p))
  | _ => if 0x4100 ≤ index && index ≤ 0x410F then some (d.entryBytes (256 * (index - 0x4100) + sub)) else none

def linkCode (x : LinkState) : Nat :=
  match x with
  | .disabled => 0 | .down => 1 | .training => 2 | .identify => 3 | .up => 4 | .spareIdle => 5 | .bypass => 6
  | .retired => 7

/-- Chip links and routes (R303, R304). -/
def linksValue (s : State) (index sub : Nat) : Option (List Byte) :=
  match index with
  | 0x5000 => some (leBytes 1 (linkCode (s.link sub).state))
  | 0x5001 => some (leBytes 4 (match (s.link sub).peer with
      | some (a, n) => a + n * 2 ^ 18 + 2 ^ 24
      | none => 0))
  | 0x5009 => some (leBytes 1 ((List.range 48).filter fun n => (s.link n).inUse).length)
  | 0x500C => some (leBytes 4 (maskOf ((List.range 24).filter fun n =>
      (s.link (2 * n)).state == .bypass && (s.link (2 * n + 1)).state == .bypass)))
  | 0x5407 => some (leBytes 4 s.unreachable)
  | 0x5410 => some (leBytes 8 (maskOf (s.fieldRoute none sub)))
  | 0x5411 => some (leBytes 8 (maskOf (s.farmRoute none sub)))
  | _ => none

def groupCode (x : GroupState) : Nat :=
  match x with
  | .empty => 0 | .defined => 1 | .forming => 2 | .formed => 3 | .refused => 4 | .dissolving => 5
  | .dissolved => 6

/-- Groups and time (R332, R356). -/
def groupsValue (s : State) (p index sub : Nat) : Option (List Byte) :=
  let g := (s.pad p).group sub
  match index with
  | 0x5810 => some (sliceBytes g.definition 0 64)
  | 0x5811 => some (leBytes 1 (groupCode g.state))
  | 0x5812 => some (leBytes 1 g.verdict)
  | 0x5814 => some (sliceBytes g.digest 0 64)
  | 0x5815 => some (leBytes 4 g.lowest)
  | 0x5816 => some (leBytes 4 g.issued)
  | 0x5C0F => some (leBytes 8 s.now)
  | _ => none

/-- Slots of codebooks and dictionaries, units of the Drill, shadows, recovery and the log (R209, R274,
R275, R385, R386, R407). -/
def tablesValue (s : State) (p index sub : Nat) : Option (List Byte) :=
  let d := s.pad p
  match index with
  | 0x108C => some (leBytes 2 d.shadows.length)
  | 0x6802 => some (leBytes 2 (match d.codebooks.getD sub none with
      | some c => c.generation % 256 + 256
      | none => 0))
  | 0x6803 => some (leBytes 4 (codebookRefs d sub))
  | 0x7002 => some (leBytes 1 (unitsLeft s true))
  | 0x7003 => some (leBytes 1 (unitsLeft s false))
  | 0x700C => some (leBytes 1 d.streams.length)
  | 0x7401 => some (leBytes 2 (match dictSlot d sub with
      | some c => c.generation % 256 + 256
      | none => 0))
  | 0x7402 => some (leBytes 4 (dictRefs d sub))
  | 0x7403 => some (leBytes 4 (match dictSlot d sub with | some c => c.entries | none => 0))
  | 0x7404 => some (leBytes 8 (match dictSlot d sub with | some c => c.addr | none => 0))
  | 0x9004 => some (leBytes 8 (s.commitSlotSize p))
  | 0x9012 => some (leBytes 1 (if s.faults.degraded then 1 else 0))
  | 0x9400 => some (leBytes 4 s.faults.written)
  | 0x9401 => some (leBytes 4 s.faults.oldest)
  | _ =>
    if 0x8000 ≤ index && index ≤ 0x8017 then some (leBytes 8 s.power.cycleCount)
    else if 0x9410 ≤ index && index ≤ 0x9413 then
      some (sliceBytes (s.faults.entries.getD (256 * (index - 0x9410) + sub) []) 0 32)
    else none

/-- The value of an object that exists, in its little-endian bytes. `who` is the principal that asks,
`p` the paddock of a per-paddock object. -/
def State.value (s : State) (who p index sub : Nat) : List Byte :=
  let computed :=
    if index < 0x2000 then (identityValue s who index sub).or (tablesValue s p index sub)
    else if index < 0x3000 then powerValue s index
    else if index < 0x4000 then portsValue s who index sub
    else if index < 0x5000 then tiersValue s p index sub
    else if index < 0x5800 then linksValue s index sub
    else if index < 0x6000 then groupsValue s p index sub
    else tablesValue s p index sub
  match computed with
  | some b => b
  | none =>
    match objRow index sub with
    | some r => leBytes r.len (if r.perPaddock then (s.pad p).obj index sub else s.obj index sub)
    | none => []

/-- The default of an object in its bytes (R399, R405). -/
def defaultBytes (index sub : Nat) : List Byte :=
  match objRow index sub with
  | some r => leBytes r.len (objDefault index sub)
  | none => []

end Sys2Proof.Machine
end

