-- ==== Sys2Proof/Machine/Server.lean ====
section
/-! DEFINITION. The dictionary server: requests, principals, tags and counters, the checks in their
order, responses, and the rows that read (R388 to R399, R405, R472). -/

namespace Sys2Proof.Machine
open Sys2Proof

/-! ### Requests (R394) -/

structure Req where
  version : Nat
  op : Nat
  principal : Nat
  target : Nat
  ident : Nat
  counter : Nat
  index : Nat
  sub : Nat
  count : Nat
  len : Nat
  reserved : Bool
  tag : List Byte
  value : List Byte
  path : DictPath
  deriving DecidableEq, Repr

def parseReq (path : DictPath) (b : List Byte) : Req :=
  { version := leField b 0 1, op := leField b 1 1, principal := leField b 2 1, target := leField b 3 1,
    ident := leField b 4 4, counter := leField b 8 8, index := leField b 0x10 2, sub := leField b 0x12 1,
    count := leField b 0x13 1, len := leField b 0x14 4, reserved := zeroField b 0x18 8,
    tag := sliceBytes b 0x20 32, value := b.drop 64, path := path }

/-- The number the value bytes spell. -/
def Req.num (r : Req) : Nat := leNat r.value

def Req.first (r : Req) : Nat := leField r.value 0 1

/-- An operation that changes something. -/
def Req.writes (r : Req) : Bool := r.op == 2 || r.op == 4 || r.op == 5

/-- The paddock whose object a request names: a tenant's own, or the target. -/
def Req.paddock (r : Req) : Nat := if r.target = 0xFF then r.principal else r.target

def isTenant (p : Nat) : Bool := decide (p < 8)

/-! ### Keys and tags (R392, R393) -/

/-- The principal's entry; the public principal and unlisted codes have none. -/
def State.principal (s : State) (p : Nat) : Option Principal :=
  if p ≤ 8 then s.life.principals[p]? else none

def State.key (s : State) (p : Nat) : Option (List Byte) :=
  match s.principal p with
  | some x => x.key
  | none => none

/-- The tag of a message: the leftmost 32 bytes of its HMAC with the tag field zero. -/
def tagOf (key b : List Byte) : List Byte :=
  (Crypto.hmac key (b.take 0x20 ++ List.replicate 32 0 ++ b.drop 64)).take 32

def State.modPrincipal (s : State) (p : Nat) (f : Principal → Principal) : State :=
  { s with life := { s.life with principals := s.life.principals.modify p f } }

/-- Set or clear a key: the counter starts at 0 and no response is left to resend. -/
def State.setKey (s : State) (p : Nat) (key : Option (List Byte)) : State :=
  s.modPrincipal p fun _ => { key := key, counter := 0, response := none }

/-- A request is dropped, and counted in object 0x1086, for these reasons. -/
def authentic (s : State) (r : Req) (b : List Byte) : Bool :=
  if r.principal = 0x0F then r.tag.all (· == 0)
  else if 8 < r.principal then false
  else
    match s.key r.principal with
    | none => false
    | some k =>
      r.tag == tagOf k b && (match r.path with
        | .field => true
        | .inband port _ => !isTenant r.principal || (s.linkRights r.principal).testBit (48 + port))

/-! ### The two paths (R398) -/

/-- The management port needs the always-on rail and AO_CLK. A logical host port needs the device ready,
the port up and not itself under test, and queue-pair entry 0 ready (DEDUCED, log entry 37). -/
def State.pathOpen (s : State) (x : DictPath) : Bool :=
  match x with
  | .field => s.power.aoGood && s.power.aoClock
  | .inband port _ =>
    s.power.running && s.power.ready && s.portUp port && (s.qp 0).ready
      && !(s.bist.state == 1 && s.bist.phase == 5 && s.bist.ports.testBit port)

def pathLimit (x : DictPath) : Nat := match x with | .field => 1472 | .inband .. => 4096

/-- A datagram of the in-band path arrives at its port and at queue-pair entry 0 (R336, R355). -/
def arriveOn (s : State) (x : DictPath) : State :=
  match x with
  | .field => s
  | .inband port m =>
    ((s.framesIn port 1).modQp 0 fun q => { q with received := (q.received + 1) % 2 ^ 64 }).answerMark ⟨0, m⟩

/-- Response bytes go out: on the in-band path they are a datagram of entry 0, on the port of their request. -/
def sendResponse (s : State) (x : DictPath) (b : List Byte) : State :=
  match x with
  | .field => s.emit (.response x b)
  | .inband port _ =>
    (s.sendPacket { port := port, prio := s.prioOf 0, cls := 2, q := 0, frames := 1, e := .response x b }).modQp 0
      fun q => { q with sent := (q.sent + 1) % 2 ^ 64 }

/-- Send response bytes on the path of their request, where it is still open. -/
def State.respond (s : State) (x : DictPath) (b : List Byte) : State :=
  let s := s.addObj 0x1089 0 1
  if s.pathOpen x then sendResponse s x b else s

/-- What the request counter makes of a request: run it, resend its response, or drop it. -/
inductive Freshness where
  | fresh | again (b : List Byte) | old
  deriving DecidableEq, Repr

def State.freshness (s : State) (r : Req) : Freshness :=
  match s.principal r.principal with
  | none => .fresh
  | some x =>
    if x.counter < r.counter then .fresh
    else if r.counter < x.counter then .old
    else match x.response with
      | some b => .again b
      | none => .old

/-- Requests the server holds: 16 that wait, and the one at the front, which it takes next (log
entry 32). -/
def queueDepth : Nat := 17

/-- A request arrives: its form, its principal and tag, its counter, and room in the queue. -/
def execDictionaryRequest (path : DictPath) (bytes : List Byte) (s : State) :
    Host.Outcome State Fault Refusal :=
  let r := parseReq path bytes
  .next (
    if !s.pathOpen path then s
    else
      let s := arriveOn s path
      if bytes.length < 64 || r.version != 1 || bytes.length != 64 + r.len
          || pathLimit path < bytes.length then s.addObj 0x1087 0 1
      else if !authentic s r bytes then s.addObj 0x1086 0 1
      else match s.freshness r with
        | .old => s.addObj 0x1088 0 1
        | .again b => s.respond path b
        | .fresh =>
          if queueDepth ≤ s.requests.length then s.addObj 0x1087 0 1
          else { s with requests := s.requests ++ [{ path := path, bytes := bytes }] })

/-! ### Privilege (R391, R421, R337, R442) -/

/-- What a principal may do with one subindex. -/
inductive Right where
  | yes | zeros | no
  deriving DecidableEq, Repr

/-- Another paddock's object: a read returns zeros, a write is refused. -/
def foreign (writes : Bool) : Right := if writes then .no else .zeros

/-- A tenant and an object of a plot (R421). -/
def plotRight (s : State) (r : Req) : Right :=
  let k := r.index % 32
  let k := if 0x8000 ≤ r.index && r.index ≤ 0x8017 then r.index - 0x8000 else k
  if s.holder k != some r.principal then foreign r.writes
  else
    let f := s.padFlags r.principal
    let control := 0x8040 ≤ r.index && r.index ≤ 0x8057
    match r.op with
    | 1 => if f.testBit 0 && !control then .yes else .no
    | 2 => if f.testBit 1 then .yes else .no
    | 5 => if f.testBit 0 && f.testBit 1 then .yes else .no
    | _ => .no

/-- A tenant and a queue-pair entry (R335, R337). -/
def qpRight (s : State) (r : Req) (sub : Nat) : Right :=
  let q := 256 * (r.index - 0x3900) + sub
  let x := s.qp q
  if q < 66 then .no
  else if x.paddock = r.principal then .yes
  else if x.state != 0 then foreign r.writes
  else if r.writes then .yes else .zeros

/-- A tenant and a T object. -/
def tenantRight (s : State) (r : Req) (row : ObjRow) (sub : Nat) : Right :=
  if row.perPaddock then
    if r.target != 0xFF && r.target != r.principal then foreign r.writes
    else if r.index = 0x8105 && r.writes && !(s.padFlags r.principal).testBit 1 then .no
    else .yes
  else if r.index = 0x1020 || r.index = 0x1021 then
    if sub = r.principal then .yes else if sub = 8 then .no else foreign r.writes
  else if 0x3900 ≤ r.index && r.index ≤ 0x390F then qpRight s r sub
  else if 0x8000 ≤ r.index && r.index ≤ 0x8077 then plotRight s r
  else .yes

/-- Whether the request's principal may name this subindex. -/
def right (s : State) (r : Req) (row : ObjRow) (sub : Nat) : Right :=
  if r.index = 0x1110 && r.writes then
    if r.principal = 0x0F && r.path == .field then .yes else .no
  else if r.principal = 8 then .yes
  else if row.priv = 2 then if r.writes then .no else .yes
  else if r.principal = 0x0F || row.priv = 0 then .no
  else tenantRight s r row sub

/-! ### Access and availability (R390, R395, R399, R427, R432) -/

/-- The operation is known and the access class allows it. The certificate is written in BLANK. -/
def opAllowed (s : State) (r : Req) (row : ObjRow) : Bool :=
  match r.op with
  | 1 => row.access != 2
  | 2 => row.access != 0 || (r.index == 0x1010 && s.life.state == .blank)
  | 3 => row.access == 4
  | 4 => row.access == 4
  | 5 => row.access == 3
  | 6 => true
  | _ => false

/-- Answered while the main die is down (R408). -/
def alwaysOn (index : Nat) : Bool :=
  (0x1000 ≤ index && index < 0x1200 && !(0x108A ≤ index && index ≤ 0x108C))
    || (0x2000 ≤ index && index < 0x2400) || (0x9400 ≤ index && index < 0xA000)

/-- Conditions of single objects that return result 0x06. -/
def objectAvailable (s : State) (r : Req) : Bool :=
  let life := s.life.state
  if r.index = 0x1020 then life != .retired && !(s.life.nonces.any fun x => x.1 == r.sub)
  else if r.index = 0x1120 then (s.pad r.sub).phase != .absent
  else if r.index = 0x1150 || r.index = 0x1151 then
    s.power.absent && (life == .owned || life == .ownedLocked || life == .maintenance)
  else if 0x1210 ≤ r.index && r.index ≤ 0x1213 then
    (life == .owned || life == .ownedLocked || life == .maintenance)
      && !(r.index == 0x1211 && s.firmware.update == .erasing)
  else true

/-- The object may be used in the state of the device. -/
def available (s : State) (r : Req) (row : ObjRow) : Bool :=
  let down := !s.power.running && !alwaysOn r.index
  if r.op = 6 then true
  else if s.life.state == .retired then !r.writes && alwaysOn r.index
  else if r.writes && s.life.transition.isSome then false
  else if down then !r.writes
  else if row.perPaddock && !(s.pad r.paddock).present then false
  else !r.writes || objectAvailable s r

/-! ### Firmware-update refusals (R438) -/

/-- A job holds a paddock. -/
def Paddock.busy (d : Paddock) : Bool :=
  d.programs.any (·.active)
    || d.groups.toList.any (fun g => g.state == .forming || g.state == .formed || g.state == .dissolving)
    || (1 ≤ d.obj 0x9001 0 && d.obj 0x9001 0 ≤ 6)

/-- The status with which a firmware-update write is refused. -/
def updateRefusal (s : State) : Option Nat :=
  if s.life.state == .ownedLocked then some 0x62
  else if s.paddocks.toList.any Paddock.busy then some 0x60
  else if s.power.derated then some 0x61
  else none

/-! ### The checks of R472 -/

/-- Check 1: the form of the header. -/
def formOkReq (r : Req) : Bool :=
  r.reserved && 1 ≤ r.count && (r.count == 1 || r.op == 1 || r.op == 6) && (r.op == 2 || r.len == 0)
    && (r.target < 8 || r.target == 0xFF)

/-- The result and status of the first check that fails, checks 1 to 8. -/
def checks (s : State) (r : Req) : Option (Nat × Nat) :=
  if !formOkReq r then some (5, 0)
  else match objRow r.index r.sub with
    | none => some (1, 0)
    | some row =>
      let ro := right s r row r.sub
      if row.perPaddock && r.principal == 8 && r.target == 0xFF then some (5, 0)
      else if ro == .no then some (3, 0)
      else if !opAllowed s r row then some (2, 0)
      else if ro == .yes && !available s r row then some (6, 0)
      else if r.op == 2 && r.value.length != row.len then some (5, 0)
      else if r.op == 2 && 0x1210 ≤ r.index && r.index ≤ 0x1213 then
        (updateRefusal s).map fun st => (8, st)
      else none

/-! ### Answers (R396, R397) -/

/-- What a request comes to. `rekey` marks one that wrote its own principal's key. -/
structure Answer where
  state : State
  result : Nat := 0
  status : Nat := 0
  flags : Nat := 0
  apply : Nat := 0
  count : Nat := 0
  values : List Byte := []
  rekey : Bool := false

/-- A refusal changes nothing. -/
def refuse (s : State) (result : Nat) : Answer := { state := s, result := result }

/-- A write that is done: its response returns no subindex (R396). -/
def done (s : State) : Answer := { state := s }

/-- A write that is done, or refused as out of range. -/
def doneIf (ok : Bool) (s t : State) : Answer := if ok then done t else refuse s 4

/-- Count a refusal in object 0x108A (R397). -/
def countRefusal (s : State) (r : Req) : State :=
  let per := match objRow r.index r.sub with | some row => row.perPaddock | none => false
  let p := if isTenant r.principal then r.principal else if r.principal = 8 && per then r.target else 8
  if (s.pad p).present then s.modPad p fun d => d.addObj 0x108A 0 1 else s

/-- The response of R396, tagged with the key of the principal that made the request. -/
def responseBytes (r : Req) (a : Answer) (key : Option (List Byte)) : List Byte :=
  let head := leBytes 1 1 ++ leBytes 1 (r.op % 128 + 128) ++ leBytes 1 r.principal ++ leBytes 1 r.target
    ++ leBytes 4 r.ident ++ leBytes 8 r.counter ++ leBytes 2 r.index ++ leBytes 1 r.sub
    ++ leBytes 1 a.count ++ leBytes 4 a.values.length ++ leBytes 1 a.result ++ leBytes 1 a.status
    ++ leBytes 1 a.flags ++ leBytes 1 0 ++ leBytes 4 a.apply
  let tag := match key with
    | some k => tagOf k (head ++ List.replicate 32 0 ++ a.values)
    | none => List.replicate 32 0
  head ++ tag ++ a.values

/-- Count, record and send what a request came to. -/
def finish (r : Req) (key : Option (List Byte)) (a : Answer) : State :=
  let s := if a.result = 0 then a.state else countRefusal a.state r
  let b := responseBytes r a key
  let s := if a.rekey then s
    else s.modPrincipal r.principal fun x => { x with counter := r.counter, response := some b }
  s.respond r.path b

/-! ### Which row a request is -/

/-- The rows of the opcode table that a request can be. -/
inductive Row where
  | read | objectWrite | readShadow | discardShadow | readAndClear | describe
  | paddockCreate | paddockDelete | allocationCreate | allocationRelease | allocationUpdate
  | qpReady | qpReset | portModeChange | linkEnable | counterFreeze | attestationNonce | clearLog
  | clearDegraded | groupForm | groupDissolve | directoryLoadCopy | directoryLoadCanonical | directoryDump
  | flashFormat | prepareShutdown | trim | lock | unlock | enterMaintenance | leaveMaintenance | release
  | decommission | generateIdentity | provision | claim | ownerKeyChange | tenantKey | updateBegin
  | updateChunk | updateFinish | updateActivate | updateAbort | restartMainDie | raiseRollbackFloor
  | rescueChunk | rescueBoot | bistStart | bistAbort | thermalTripsClear
  deriving DecidableEq, Repr

/-- A write to an allocation entry, by the entry's state (R213 to R215). -/
def allocationRow (s : State) (r : Req) : Row :=
  match (s.pad r.paddock).alloc (256 * (r.index - 0x4100) + r.sub) with
  | none => if leField r.value 8 8 = 0 then .objectWrite else .allocationCreate
  | some a =>
    if a.releasing then .objectWrite
    else if leField r.value 8 8 = 0 then .allocationRelease else .allocationUpdate

/-- A write by its object, and by the command it names. -/
def writeRow (s : State) (r : Req) : Row :=
  let pick := fun (l : List (Nat × Row)) => match l.find? fun x => x.1 == r.first with
    | some x => x.2
    | none => Row.objectWrite
  match r.index with
  | 0x3001 => pick [(1, .paddockCreate), (2, .paddockDelete)]
  | 0x3800 => if r.first = s.obj 0x3800 r.sub then .objectWrite else .portModeChange
  | 0x5002 => .linkEnable
  | 0x8105 => .counterFreeze
  | 0x1020 => .attestationNonce
  | 0x9402 => .clearLog
  | 0x9013 => .clearDegraded
  | 0x5813 => pick [(1, .groupForm), (2, .groupDissolve)]
  | 0x5830 => pick [(0, .directoryLoadCopy), (1, .directoryLoadCanonical)]
  | 0x5832 => .directoryDump
  | 0x4805 => .flashFormat
  | 0x4806 => .prepareShutdown
  | 0x4823 => .trim
  | 0x1101 => pick [(1, .lock), (2, .unlock), (3, .enterMaintenance), (4, .leaveMaintenance), (5, .release),
      (6, .decommission), (0x10, .generateIdentity), (0x11, .provision)]
  | 0x1110 => .claim
  | 0x1111 => .ownerKeyChange
  | 0x1120 => .tenantKey
  | 0x1210 => .updateBegin
  | 0x1211 => .updateChunk
  | 0x1212 => .updateFinish
  | 0x1213 => .updateActivate
  | 0x1215 => .updateAbort
  | 0x1216 => .restartMainDie
  | 0x1217 => .raiseRollbackFloor
  | 0x1150 => .rescueChunk
  | 0x1151 => .rescueBoot
  | 0x2400 => pick [(1, .bistStart), (2, .bistAbort)]
  | 0x2036 => .thermalTripsClear
  | i =>
    if 0x4100 ≤ i && i ≤ 0x410F then allocationRow s r
    else if 0x3900 ≤ i && i ≤ 0x390F then pick [(0, .qpReset), (1, .qpReady)]
    else .objectWrite

/-- The row of a request. An unknown operation, which check 5 refuses, counts as a read. -/
def rowOf (s : State) (r : Req) : Row :=
  match r.op with
  | 2 => writeRow s r
  | 3 => .readShadow
  | 4 => .discardShadow
  | 5 => .readAndClear
  | 6 => .describe
  | _ => .read

/-- The server executes the request at the front of its queue, where it is one of the row's: the checks
in their order, then the row's own effect. A request of another row stays where it is. -/
def serve (row : Row) (effect : State → Req → Answer) (s : State) : State :=
  match s.requests with
  | [] => s
  | x :: rest =>
    let r := parseReq x.path x.bytes
    if rowOf s r != row then s
    else
      let s := { s with requests := rest }
      match s.freshness r with
      | .old => s.addObj 0x1088 0 1
      | .again b => s.respond r.path b
      | .fresh =>
        let key := s.key r.principal
        let s := s.modPrincipal r.principal fun x => { x with counter := r.counter }
        match checks s r with
        | some (8, st) =>
          -- A refusal in erasing or receiving abandons the update (R438).
          let t := s.addObj 0x1218 0 1
          let t := if t.firmware.update == .erasing || t.firmware.update == .receiving then
              { t with firmware := t.firmware.abandon } else t
          finish r key { state := t, result := 8, status := st }
        | some (c, _) => finish r key (refuse s c)
        | none => finish r key (effect s r)

/-! ### Reads (R395, R396) -/

/-- The owner reads the log entry at a position (R464). -/
def State.readEntry (s : State) (k : Nat) : State :=
  { s with faults := { s.faults with unread := s.faults.unread.filter fun x => x != k } }

/-- One value as the request's principal reads it. The objects of the own paddock (0x3020 to 0x3023) have
no stated value for a principal that is no tenant: a free value (log entry 33). So have the readings of
single temperature sensors, which no command brings (log entry 34), and counters of events inside a unit's
run (log entry 36). -/
def readOne (s : State) (r : Req) (sub : Nat) : Option (List Byte × State) :=
  match objRow r.index sub with
  | none => none
  | some row =>
    let zeros := List.replicate row.len (0 : Byte)
    match right s r row sub with
    | .no => none
    | .zeros => some (zeros, s)
    | .yes =>
      if !s.power.running && !alwaysOn r.index then some (defaultBytes r.index sub, s)
      else if (0x3020 ≤ r.index && r.index ≤ 0x3023 && !isTenant r.principal)
          || (0x2030 ≤ r.index && r.index ≤ 0x2032 && s.power.running) then
        let (w, s) := s.draw
        some (leBytes row.len w, s)
      else if 0x8020 ≤ r.index && r.index ≤ 0x8037 && s.runsFree (r.index - 0x8020) sub then
        let s := s.fixCounter (r.index - 0x8020) sub
        some (s.value r.principal r.paddock r.index sub, s)
      else if 0x9410 ≤ r.index && r.index ≤ 0x9413 && r.principal = 8 then
        some (s.value r.principal r.paddock r.index sub, s.readEntry (256 * (r.index - 0x9410) + sub))
      else some (s.value r.principal r.paddock r.index sub, s)

/-- Values of consecutive subindices, up to the first that does not exist, may not be read, or would
pass the path's limit. -/
def readMore (r : Req) : Nat → Nat → Answer → Answer
  | 0, _, a => a
  | n + 1, sub, a =>
    match readOne a.state r sub with
    | none => a
    | some (b, t) =>
      if pathLimit r.path < 64 + a.values.length + b.length then { a with flags := a.flags ||| 4 }
      else readMore r n (sub + 1) { a with state := t, values := a.values ++ b, count := a.count + 1 }

def readEffect (s : State) (r : Req) : Answer := readMore r r.count r.sub { state := s }

def execRead (s : State) : Host.Outcome State Fault Refusal := .next (serve .read readEffect s)

/-- The 8-byte entry of one subindex. -/
def describeOne (index sub : Nat) : Option (List Byte) :=
  (objRow index sub).map fun row =>
    leBytes 1 row.type ++ leBytes 1 row.access ++ leBytes 1 row.priv
      ++ leBytes 1 (bit row.group 0 + bit row.perPaddock 1 + bit (alwaysOn index) 2)
      ++ leBytes 2 row.len ++ leBytes 2 0

def describeMore (r : Req) : Nat → Nat → Answer → Answer
  | 0, _, a => a
  | n + 1, sub, a =>
    match describeOne r.index sub with
    | none => a
    | some b =>
      if pathLimit r.path < 64 + a.values.length + 8 then { a with flags := a.flags ||| 4 }
      else describeMore r n (sub + 1) { a with values := a.values ++ b, count := a.count + 1 }

def execDescribe (s : State) : Host.Outcome State Fault Refusal :=
  .next (serve .describe (fun s r => describeMore r r.count r.sub { state := s }) s)

/-- The shadow value of an RWS object, or the applied value. -/
def readShadowEffect (s : State) (r : Req) : Answer :=
  let a := readMore r 1 r.sub { state := s }
  match objRow r.index r.sub with
  | none => a
  | some row =>
    if right s r row r.sub != .yes || !s.power.running then a
    else match (s.pad r.paddock).shadow (okey r.index r.sub) with
      | some x => { a with values := leBytes row.len x.value, flags := 2 }
      | none => a

def execReadShadow (s : State) : Host.Outcome State Fault Refusal :=
  .next (serve .readShadow readShadowEffect s)

/-- Remove the shadow of one object. An apply is one step here, so none is ever caught in one. -/
def discardEffect (s : State) (r : Req) : Answer :=
  done (s.modPad r.paddock fun d =>
    { d with shadows := d.shadows.filter fun x => x.key != okey r.index r.sub })

def execDiscardShadow (s : State) : Host.Outcome State Fault Refusal :=
  .next (serve .discardShadow discardEffect s)

/-- Set a stored value of the paddock or of the device. -/
def State.store (s : State) (r : Req) (v : Nat) : State :=
  match objRow r.index r.sub with
  | some row =>
    if row.perPaddock then s.modPad r.paddock fun d => d.setObj r.index r.sub v
    else s.setObj r.index r.sub v
  | none => s

/-- The stored value that a request names. -/
def State.stored (s : State) (r : Req) : Nat :=
  match objRow r.index r.sub with
  | some row => if row.perPaddock then (s.pad r.paddock).obj r.index r.sub else s.obj r.index r.sub
  | none => 0

/-- Clear the bits of a W1C object that a value sets. Object 0x2036 at 0 releases THERMTRIP_N, and the
main die starts where nothing else holds it (R401, R456). -/
def State.clearBits (s : State) (r : Req) (v : Nat) : State :=
  let old := s.stored r
  let new := old &&& (old ^^^ (old &&& v))
  let s := s.store r new
  if r.index = 0x2036 && new = 0 && s.power.thermTrip then
    { s with power := { s.power with thermTrip := false } }.startMain
  else s

def readAndClearEffect (s : State) (r : Req) : Answer :=
  let a := readMore r 1 r.sub { state := s }
  { a with state := a.state.clearBits r (s.stored r) }

def execReadAndClear (s : State) : Host.Outcome State Fault Refusal :=
  .next (serve .readAndClear readAndClearEffect s)

/-- Clearing the count of trips releases THERMTRIP_N (R456). -/
def execThermalTripsClear (s : State) : Host.Outcome State Fault Refusal :=
  .next (serve .thermalTripsClear (fun s r => done (s.clearBits r r.num)) s)

end Sys2Proof.Machine
end

