-- ==== Sys2Proof/Machine/Settings.lean ====
section
/-! DEFINITION. Writes that hold a setting: the ranges of every object without a row of its own, ports,
links, freeze, log, degraded state and flash commands (R53, R82, R83, R108, R209, R211, R212, R233, R236,
R240, R242 to R244, R274, R275, R303 to R306, R322, R332, R333, R345, R349, R354 to R356, R362, R385, R386,
R400 to R402, R407, R416, R423, R465, R466). -/

namespace Sys2Proof.Machine
open Sys2Proof

/-! ### Values (R389) -/

def within (lo hi v : Nat) : Bool := decide (lo ≤ v) && decide (v ≤ hi)

/-- 0, or a power of two between two bounds. -/
def ringSize (lo hi v : Nat) : Bool :=
  v == 0 || (within lo hi v && (List.range 25).any fun k => v == 2 ^ k)

def gib : Nat := 2 ^ 30

/-- Event codes of R415. -/
def eventCodes : List Nat :=
  [0x01, 0x02, 0x03, 0x04, 0x05, 0x06, 0x07, 0x10, 0x11, 0x12, 0x13, 0x14, 0x15, 0x16, 0x17, 0x18, 0x1A,
   0x1B, 0x1C, 0x1D, 0x1E, 0x20, 0x21, 0x22, 0x23, 0x24, 0x30, 0x31, 0x32, 0x33, 0x34, 0x40, 0x41, 0x42,
   0x43, 0x44, 0x45, 0x46, 0x47, 0x48, 0x50, 0x51, 0x52, 0x53, 0x54, 0x55]

/-- A control word of R416 on strip `k`. -/
def controlOkWord (s : State) (k v : Nat) : Bool :=
  eventCodes.contains (v % 256) && bitField v 29 24 < 48 && (!v.testBit 23 || (s.holder k).isSome)

/-- Reserved bits of a written value read as 0 (R389). -/
def cleaned (index v : Nat) : Nat :=
  match index with
  | 0x2022 => v &&& 0xFF7F
  | 0x2401 => v % 2 ^ 11
  | 0x2402 => v % 2 ^ 48
  | 0x3000 =>
    v % 2 ^ 24 + bitField v 47 32 * 2 ^ 32 + bitField v 49 48 * 2 ^ 48 + bitField v 119 64 * 2 ^ 64
      + bitField v 191 128 * 2 ^ 128
  | 0x5400 => v % 2 ^ 18
  | 0x5830 => v % 2 ^ 8 + bitField v 255 64 * 2 ^ 64
  | 0x9008 => v % 2 ^ 96
  | 0x9009 => v % 2 ^ 33
  | i =>
    if 0x8020 ≤ i && i ≤ 0x8037 then v % 2 ^ 48
    else if 0x8040 ≤ i && i ≤ 0x8057 then v % 2 ^ 30
    else v

/-! ### Ranges, chapter by chapter -/

/-- Pool of blocks that quotas and partner reserve divide (R211). -/
def State.poolLimit (s : State) : Nat := 17512589 - s.obj 0x4004 0

def sumOver (l : List Nat) (f : Nat → Nat) : Nat := (l.map f).foldl (· + ·) 0

def others (n : Nat) : List Nat := (List.range 8).filter fun p => p != n

/-- A paddock definition (R345, R349): while the paddock is there, only flags and link rights change. -/
def definitionRange (s : State) (n v : Nat) : Bool :=
  let old := s.obj 0x3000 n
  let area := bitField v 191 128 % 2 ^ 32
  bitField v 47 32 ≤ 4030 && within 32 16384 area
    && ((s.pad n).phase == .absent ||
      (v % 2 ^ 48 == old % 2 ^ 48 && v >>> 128 == old >>> 128))

/-- Directory shares do not overlap or leave the directory, and stay while a group is formed (R322). -/
def shareRange (s : State) (n v : Nat) : Bool :=
  let b := v % 2 ^ 32
  let c := v >>> 32
  b + c ≤ 131072
    && (v == s.obj 0x5803 n || !((s.pad n).groups.toList.any fun g => g.state == .formed))
    && (others n).all fun m =>
      let x := s.obj 0x5803 m
      c == 0 || x >>> 32 == 0 || b + c ≤ x % 2 ^ 32 || x % 2 ^ 32 + (x >>> 32) ≤ b

/-- Ranges of the always-on objects, paddocks and ports. -/
def rangeLow (s : State) (index sub v : Nat) : Bool :=
  match index with
  | 0x1082 => within 2 8 v
  | 0x2004 => v ≤ 1
  | 0x2011 => within 1500 3300 v
  | 0x2012 => within 1500 3300 v
  | 0x2040 => within 2 100 v
  | 0x3000 => definitionRange s sub v
  | 0x3808 => v ≤ 63
  | 0x3809 => within 1 400 v
  | _ => true

/-- Ranges of the tiers. -/
def rangeTiers (s : State) (index sub v : Nat) : Bool :=
  match index with
  | 0x4003 =>
    v + sumOver (List.range 8) s.quota ≤ s.poolLimit && sumOver (List.range 8) (s.obj 0x9003) ≤ v
  | 0x4010 =>
    s.obj 0x4003 0 + v + sumOver (others sub) s.quota ≤ s.poolLimit
      && ((s.pad sub).phase == .absent || s.committed sub ≤ v)
  | 0x4011 =>
    (s.pad sub).phase == .absent || s.committed sub - s.obj 0x4011 sub + v ≤ s.quota sub
  | 0x4008 => within 1 168 v
  | 0x4025 => v ≤ 1024
  | 0x4401 => v ≤ 1
  | 0x4402 => v ≤ 1
  | 0x4410 => v + sumOver (others sub) (s.obj 0x4410) ≤ s.obj 0x4404 0 && (s.pad sub).cxlCharged ≤ v
  | 0x4820 => v % gib == 0 && v + s.obj 0x4821 sub ≤ s.tiers.logical
  | 0x4821 => v % gib == 0 && s.obj 0x4820 sub + v ≤ s.tiers.logical
  | 0x4822 => v ≤ 2
  | _ => true

/-- Ranges of links, groups, time, numerics, statistics and compaction. -/
def rangeMiddle (s : State) (p index sub v : Nat) : Bool :=
  match index with
  | 0x500D => v ≤ 1
  | 0x5803 => shareRange s sub v
  | 0x5810 => ((s.pad p).group sub).definable && definitionOk (leBytes 64 v)
  | 0x5830 => false
  | 0x5C09 => v ≤ 7
  | 0x5C0B => v ≤ 2
  | 0x5C10 => v ≤ 4 || within 249 255 v
  | 0x6040 => v ≤ 262144
  | 0x6400 => v ≤ 2
  | 0x6401 => v % 128 == 0
  | 0x6402 => ringSize 16 16777216 v
  | 0x6801 => v ≤ 3 || v == 0xFF
  | _ => true

/-- Ranges of the input pipeline, counters and recovery. -/
def rangeHigh (s : State) (p index sub v : Nat) : Bool :=
  match index with
  | 0x7004 => within 32 4096 v
  | 0x7008 => v % 786432 == 0
  | 0x7009 => v ≤ 16
  | 0x700B => v % 32768 == 0
  | 0x700D => v ≤ 17
  | 0x8100 => v % 64 == 0
  | 0x8101 => ringSize 16 1048576 v
  | 0x9002 => v == 0xFFFF || (within 66 4095 v && (s.qp v).state != 0 && (s.qp v).paddock == p)
  | 0x9003 =>
    v + sumOver (others sub) (s.obj 0x9003) ≤ s.obj 0x4003 0
      && !((s.pad sub).groups.toList.any fun g => g.state == .formed)
  | 0x9006 => within 1 10000 v
  | 0x9007 => within 1 8 v
  | 0x9008 =>
    let n := v / 2 ^ 64 % 2 ^ 32
    n == 0 || (s.pad p).inFixed (v % 2 ^ 64) (4 * n)
  | 0x9010 => within 1 1000 v
  | i => if 0x8040 ≤ i && i ≤ 0x8057 then controlOkWord s (i - 0x8040) v else true

/-- Whether a value, and the state it would produce, obey the rules of the object's chapter. -/
def inRange (s : State) (p index sub v : Nat) : Bool :=
  let boolOk := match objRow index sub with
    | some row => row.type != 1 || decide (v ≤ 1)
    | none => false
  boolOk &&
    (if index < 0x4000 then rangeLow s index sub v
    else if index < 0x5000 then rangeTiers s index sub v
    else if index < 0x7000 then rangeMiddle s p index sub v
    else rangeHigh s p index sub v)

/-! ### What a stored setting brings with it -/

/-- Silo evicts until the charge fits the quota (R242). -/
def State.fitQuota (s : State) (p : Nat) : State :=
  let excess := if s.tiers.cxlPresent then s.charge p - s.quota p else 0
  s.modPad p fun d => ((s.candidates p).take excess).foldl (fun d c => startOffload d c.1 c.2) d

/-- Ask the neighbours of every trained pair in bypass for its release (R295). -/
def State.askReleases (s : State) : State :=
  (List.range 24).foldl (fun s k =>
    let a := s.link (2 * k)
    let b := s.link (2 * k + 1)
    if a.state == .bypass && b.state == .bypass && a.releaseAsked && b.releaseAsked then
      (s.sendControl (2 * k) 4 0).sendControl (2 * k + 1) 4 0
    else s) s

/-- Effects beyond the stored value. Programs that wait in a paddock which is a standby no more start. -/
def afterStore (s : State) (p index sub v : Nat) : State :=
  match index with
  | 0x9009 => startAll s p
  | 0x2011 => s.followDerate
  | 0x4010 => if (s.pad sub).present then s.fitQuota sub else s
  | 0x500D => if v = 0 then s.askReleases else s
  | 0x5C00 => s.showTime
  | 0x5C08 => if v = 0 then s.setObj 0x5C0C 0 0 else if s.obj 0x5C0C 0 = 0 then s.setObj 0x5C0C 0 1 else s
  | _ => s

/-- A write of a group definition (R306, R307). -/
def State.define (s : State) (p slot : Nat) (b : List Byte) : State :=
  s.modPad p fun d => d.setGroup slot { d.group slot with state := .defined, definition := cleanDefinition b }

/-- The length of a DER certificate from its first bytes (log entry 35). -/
def derLength (b : List Byte) : Nat :=
  match b with
  | 0x30#8 :: 0x82#8 :: h :: l :: _ => min 1024 (256 * h.toNat + l.toNat + 4)
  | 0x30#8 :: 0x81#8 :: l :: _ => l.toNat + 3
  | 0x30#8 :: l :: _ => if l.toNat < 128 then l.toNat + 2 else 0
  | _ => 0

/-- The manufacturing principal writes a part of the certificate (R426, R443). -/
def State.writeCertificate (s : State) (part : Nat) (b : List Byte) : State :=
  let c := spliceBytes (sliceBytes s.life.certificate 0 1024) (256 * part) b
  { s with life := { s.life with certificate := c, certLen := derLength c } }

/-- A write of an RWS object is held in its shadow, and its response names the apply (R402, R403). -/
def holdShadow (s : State) (r : Req) (v : Nat) (entries : List (List Byte)) : Answer :=
  let t := s.modPad r.paddock fun d =>
    { d with shadows := putShadow d.shadows { key := okey r.index r.sub, value := v, entries := entries } }
  { state := t, flags := 1, apply := (s.pad r.paddock).obj 0x108B 0 + 1 }

/-- OBJECT_WRITE. A write-only object with no row for the written value refuses it; a write to an
allocation entry that reaches here has length 0 on an unused entry, or meets a releasing one (R214). -/
def objectWriteEffect (s : State) (r : Req) : Answer :=
  match objRow r.index r.sub with
  | none => refuse s 1
  | some row =>
    let v := cleaned r.index r.num
    if row.access = 2 then refuse s 4
    else if row.access = 3 then done (s.clearBits r v)
    else if 0x4100 ≤ r.index && r.index ≤ 0x410F then
      doneIf ((s.pad r.paddock).alloc (256 * (r.index - 0x4100) + r.sub)).isNone s s
    else if 0x3900 ≤ r.index && r.index ≤ 0x390F then refuse s 4
    else if r.index = 0x1010 then done (s.writeCertificate r.sub r.value)
    else if !inRange s r.paddock r.index r.sub v then refuse s 4
    else if row.access = 4 then holdShadow s r v []
    else if r.index = 0x5810 then done (s.define r.paddock r.sub r.value)
    else
      let s := if 0x8040 ≤ r.index && r.index ≤ 0x8057 then s.fixCounter (r.index - 0x8040) r.sub else s
      done (afterStore (s.store r v) r.paddock r.index r.sub v)

def execObjectWrite (s : State) : Host.Outcome State Fault Refusal :=
  .next (serve .objectWrite objectWriteEffect s)

/-! ### Ports, links, counters (R333, R303, R417) -/

/-- Whether a ready queue pair names a logical port of host port `h`. -/
def State.hostInUse (s : State) (h : Nat) : Bool := s.qps.any fun x => x.ready && x.port / 2 == h

/-- The logical ports of a host port as they are right after its mode is set: the used ones train. -/
def State.retrainPort (s : State) (n : Nat) : State := s.setObj 0x3801 n (if s.portUsable n then 1 else 0)

def portModeEffect (s : State) (r : Req) : Answer :=
  doneIf (r.num ≤ 1 && !s.hostInUse r.sub) s
    (((s.setObj 0x3800 r.sub r.num).retrainPort (2 * r.sub)).retrainPort (2 * r.sub + 1))

def execPortModeChange (s : State) : Host.Outcome State Fault Refusal :=
  .next (serve .portModeChange portModeEffect s)

/-- Take a link to disabled: what it had not delivered moves to other paths. -/
def State.disableLink (s : State) (n : Nat) : State :=
  let l := s.link n
  if l.state == .retired then s
  else
    let old := s.undelivered n
    ((s.setLink n { l.restart .disabled with inUse := false }).rebuild).moveAway old

/-- A disabled link that is enabled is down, and trains at once (R286). -/
def State.enableLink (s : State) (n : Nat) : State :=
  let l := s.link n
  if l.state == .disabled then
    s.setLink n ({ l with state := LinkState.down }.train (Nat.beq (s.obj 0x5402 0) 1))
  else s

def linkEnableEffect (s : State) (r : Req) : Answer :=
  if r.num = 0 then
    doneIf (!s.linkBusy r.sub) s ((s.setObj 0x5002 r.sub 0).disableLink r.sub)
  else doneIf (r.num == 1) s ((s.setObj 0x5002 r.sub 1).enableLink r.sub)

def execLinkEnable (s : State) : Host.Outcome State Fault Refusal :=
  .next (serve .linkEnable linkEnableEffect s)

/-- The counters of a paddock whose values are free while they run take one as they stop (log entry 36). -/
def State.fixCounters (s : State) (p : Nat) : State :=
  let words := s.objs.filter fun e =>
    0x8040 ≤ e.1 / 256 && e.1 / 256 ≤ 0x8057 && (s.stripMask p).testBit (e.1 / 256 - 0x8040)
  words.foldl (fun s e => s.fixCounter (e.1 / 256 - 0x8040) (e.1 % 256)) s

def counterFreezeEffect (s : State) (r : Req) : Answer :=
  doneIf (r.num ≤ 1) s ((if r.num = 1 then s.fixCounters r.paddock else s).store r r.num)

def execCounterFreeze (s : State) : Host.Outcome State Fault Refusal :=
  .next (serve .counterFreeze counterFreezeEffect s)

/-! ### Log and degraded state (R362, R386) -/

/-- A write of TRUE to a command object acts; FALSE does nothing; other values are out of range. -/
def command (s : State) (r : Req) (ok : Bool) (t : State) : Answer :=
  if r.num = 0 then done s else doneIf (r.num == 1 && ok) s t

def State.clearLog (s : State) : State :=
  { s with faults := { s.faults with
      entries := List.replicate 1024 (List.replicate 32 0), unread := [], oldest := s.faults.written } }

def clearLogEffect (s : State) (r : Req) : Answer := command s r true s.clearLog

def execClearLog (s : State) : Host.Outcome State Fault Refusal := .next (serve .clearLog clearLogEffect s)

def clearDegradedEffect (s : State) (r : Req) : Answer :=
  command s r (s.life.state == .maintenance && s.bist.passedSince)
    { s with faults := { s.faults with degraded := false } }

def execClearDegraded (s : State) : Host.Outcome State Fault Refusal :=
  .next (serve .clearDegraded clearDegradedEffect s)

/-! ### Flash commands (R240, R244) -/

/-- The format takes the parity setting into force. -/
def State.format (s : State) : State :=
  { s with tiers := { s.tiers with
      flash := [], parityInForce := s.obj 0x4804 0 != 0, flashState := if s.tiers.readOnly then 3 else 2
      lostTargets := [], cleanStop := false } }

def flashFormatEffect (s : State) (r : Req) : Answer :=
  doneIf (r.num == 0xA5 && s.life.state == .maintenance && s.mounted) s s.format

def execFlashFormat (s : State) : Host.Outcome State Fault Refusal :=
  .next (serve .flashFormat flashFormatEffect s)

def prepareShutdownEffect (s : State) (r : Req) : Answer :=
  command s r true { s with tiers := { s.tiers with cleanStop := true } }

def execPrepareShutdown (s : State) : Host.Outcome State Fault Refusal :=
  .next (serve .prepareShutdown prepareShutdownEffect s)

def mebi : Nat := 1048576

/-- The range, inside the logical capacity, reads as zeros. -/
def trimEffect (s : State) (r : Req) : Answer :=
  let o := leField r.value 0 8
  let n := leField r.value 8 8
  doneIf (o % mebi == 0 && n % mebi == 0 && s.mounted && o + n ≤ s.tiers.logical) s
    { s with tiers := { s.tiers with
        flash := memClear s.tiers.flash o n, cleanStop := false
        lostTargets := s.tiers.lostTargets.map fun x =>
          (x.1, x.2 ++ (List.range (n / mappingUnit)).map fun i => o / mappingUnit + i) } }

def execTrim (s : State) : Host.Outcome State Fault Refusal := .next (serve .trim trimEffect s)

end Sys2Proof.Machine
end

