-- ==== Sys2Proof/Machine/Tenancy.lean ====
section
/-! DEFINITION. Paddocks, allocations, queue pairs, groups and directory loads as the dictionary commands
them (R213 to R215, R244, R272, R306, R307, R312, R322, R323, R332, R337, R345 to R348, R370, R392, R422). -/

namespace Sys2Proof.Machine
open Sys2Proof

/-! ### Paddocks (R346 to R348) -/

/-- Zero the programmable counters, control words and status of a paddock's strips (R422). -/
def State.clearCounters (s : State) (p : Nat) : State :=
  let strips := s.stripsOf p
  { s with objs := s.objs.filter fun e =>
      let i := e.1 / 256
      !(0x8020 ≤ i && i ≤ 0x807F && strips.contains (i % 32)) }

/-- The create command's conditions. -/
def createPaddockOk (s : State) (n : Nat) : Bool :=
  let mask := s.stripMask n
  let there := (others n).filter fun p => (s.pad p).phase != .absent
  (s.life.state == .owned || s.life.state == .ownedLocked) && s.power.ready
    && s.bist.state != 1 && (s.pad n).phase == .absent && mask != 0
    && (there.all fun p => s.stripMask p &&& mask == 0)
    && s.qpQuota n + sumOver there s.qpQuota ≤ 4030
    && s.areaBlocks n + s.obj 0x4011 n + ceilDiv (objDefault 0x6040 0) 4 ≤ s.quota n

/-- A fresh paddock whose message area and fallback pool are being zeroed. -/
def State.createPaddock (s : State) (n : Nat) : State :=
  let s := (s.setPad n { Paddock.fresh with phase := .creating }).clearCounters n
  (s.setObj 0x3003 n 0).setObj 0x3004 n 0

def paddockCreateEffect (s : State) (r : Req) : Answer :=
  doneIf (createPaddockOk s r.sub) s (s.createPaddock r.sub)

def execPaddockCreate (s : State) : Host.Outcome State Fault Refusal :=
  .next (serve .paddockCreate paddockCreateEffect s)

/-- Zeroing ends and the paddock is active. -/
def execPaddockActive (p : Nat) (s : State) : Host.Outcome State Fault Refusal :=
  .next (if (s.pad p).phase = .creating then s.modPad p fun d => { d with phase := .active } else s)

/-- Every queue pair that a paddock holds enters error. -/
def State.failQps (s : State) (p : Nat) : State :=
  (s.qps.filter fun x => 66 ≤ x.index && x.paddock == p && x.state != 0).foldl
    (fun s x => s.failQp x.index) s

/-- Deletion: issue stops, queue pairs fail, groups dissolve without messages, allocations are released,
and shadows and the recovery go (R347, R402). -/
def State.deletePaddock (s : State) (p : Nat) : State :=
  let s := (s.failQps p).modPad p fun d => { d with phase := .deleting }
  s.modPad p fun d =>
    let d := dissolveAll d
    let d := d.setObj 0x9001 0 0
    let d := d.unretainAll
    { d with
      stopped := true, shadows := [], recovery := none, ahead := []
      programs := d.programs.filter (·.active)
      allocs := d.allocs.map fun e => (e.1, { e.2 with releasing := true }) }

/-- The delete command on a paddock that is active, or that is still being created. -/
def paddockDeleteEffect (s : State) (r : Req) : Answer :=
  doneIf ((s.pad r.sub).phase == .active || (s.pad r.sub).phase == .creating) s (s.deletePaddock r.sub)

def execPaddockDelete (s : State) : Host.Outcome State Fault Refusal :=
  .next (serve .paddockDelete paddockDeleteEffect s)

/-- The last issued instruction has completed and the quota is zeroed: nothing of the paddock is left.
Its queue pairs are in reset with their fields cleared, and its key is gone (R392, R422). -/
def execPaddockAbsent (p : Nat) (s : State) : Host.Outcome State Fault Refusal :=
  .next (
    if (s.pad p).phase != .deleting || !(s.pad p).flights.isEmpty || 8 ≤ p then s
    else
      let s := (s.setPad p Paddock.fresh).sweep p
      let s := (s.clearCounters p).setKey p none
      { s with qps := s.qps.filter fun x => !(66 ≤ x.index && x.paddock == p) }.grantReleases)

/-! ### Allocations (R213 to R215) -/

/-- The entry a request names. -/
def Req.entry (r : Req) : Nat := 256 * (r.index - 0x4100) + r.sub

def allocationCreateEffect (s : State) (r : Req) : Answer :=
  let a := allocOfBytes r.value
  doneIf ((s.pad r.paddock).active && createOk s r.paddock a) s
    (s.modPad r.paddock fun d => d.create r.entry s.nowUs a)

def execAllocationCreate (s : State) : Host.Outcome State Fault Refusal :=
  .next (serve .allocationCreate allocationCreateEffect s)

/-- A loaded dictionary image lies in an allocation (R272). -/
def holdsImage (d : Paddock) (a : Alloc) : Bool :=
  d.dicts.any fun x => match x with
    | some x => rangesMeet x.addr x.len a.base a.len
    | none => false

/-- A write of length 0: the entry is releasing, and a retained copy ends (R215, R230). -/
def allocationReleaseEffect (s : State) (r : Req) : Answer :=
  let d := s.pad r.paddock
  match d.alloc r.entry with
  | none => refuse s 4
  | some a =>
    doneIf (!holdsImage d a) s (s.modPad r.paddock fun d =>
      (d.unretain r.entry).modAlloc r.entry fun a => { a with releasing := true })

def execAllocationRelease (s : State) : Host.Outcome State Fault Refusal :=
  .next (serve .allocationRelease allocationReleaseEffect s)

/-- Only the recompute fields and the retain flag of a live entry change. -/
def allocationUpdateEffect (s : State) (r : Req) : Answer :=
  let d := s.pad r.paddock
  let n := allocOfBytes r.value
  match d.alloc r.entry with
  | none => refuse s 4
  | some a =>
    doneIf (n.base == a.base && n.len == a.len && n.kind == a.kind && recomputeFieldsOk d n
        && (n.flags == 0 || n.kind == 0)) s
      (s.modPad r.paddock fun d =>
        (if n.flags = 0 then d.unretain r.entry else d).modAlloc r.entry fun a => { a with
          flags := n.flags, recI := n.recI, recAddr := n.recAddr, recD := n.recD, recCost := n.recCost })

def execAllocationUpdate (s : State) : Host.Outcome State Fault Refusal :=
  .next (serve .allocationUpdate allocationUpdateEffect s)

/-! ### Queue pairs (R335 to R337) -/

def Req.qp (r : Req) : Nat := 256 * (r.index - 0x3900) + r.sub

/-- The written fields with reserved bits and the ignored ones cleared; entries 0 to 65 name no
paddock (R336). -/
def cleanQp (q : Nat) (b : List Byte) : List Byte :=
  let f := fun (o n : Nat) => sliceBytes b o n
  f 0 1 ++ leBytes 1 0 ++ (if q < 66 then leBytes 1 0xFF else f 2 1) ++ f 3 1 ++ f 4 3 ++ leBytes 1 0
    ++ f 8 3 ++ leBytes 1 0 ++ f 0xC 3 ++ leBytes 1 0 ++ f 0x10 16 ++ f 0x20 4
    ++ leBytes 1 (leField b 0x24 1 % 64) ++ f 0x25 5 ++ leBytes 6 0 ++ leBytes 16 0

/-- Fields of R336 in their ranges. -/
def qpFieldsOk (b : List Byte) : Bool :=
  leField b 3 1 < 8 && within 1 20 (leField b 0x25 1) && leField b 0x26 1 ≤ 7 && leField b 0x27 1 ≤ 7
    && within 1 64 (leField b 0x28 2)

/-- Entries that a paddock holds. -/
def State.heldQps (s : State) (p : Nat) : Nat :=
  (s.qps.filter fun x => 66 ≤ x.index && x.state != 0 && x.paddock == p).length

/-- A reset entry may become ready with this value. -/
def readyOk (s : State) (r : Req) (b : List Byte) : Bool :=
  let q := r.qp
  let p := leField b 2 1
  let port := leField b 3 1
  qpFieldsOk b && s.portUsable port && q != 2 + farmOf s.address && (q < 66 ||
    ((s.pad p).active && s.heldQps p + 1 ≤ s.qpQuota p && (s.linkRights p).testBit (48 + port)
      && (!isTenant r.principal || p == r.principal)))

/-- A write of state ready: from reset, or a repeat of a ready entry's value. -/
def qpReadyEffect (s : State) (r : Req) : Answer :=
  let x := s.qp r.qp
  let b := cleanQp r.qp r.value
  if x.state = 0 then doneIf (readyOk s r b) s (s.setQp { x with state := 1, fields := b, rate := 1000000 })
  else doneIf (x.state == 1 && b == x.fields) s s

def execQpReady (s : State) : Host.Outcome State Fault Refusal := .next (serve .qpReady qpReadyEffect s)

/-- Back to reset: outstanding work is flushed and every other field keeps its value. -/
def State.resetQp (s : State) (q : Nat) : State :=
  let s := if q < 66 then s.failAndMove q else s.failQp q
  s.modQp q fun x => { x with state := 0, fields := leBytes 1 0 ++ x.fields.drop 1 }

/-- A tenant resets an entry that its paddock holds, or writes one in reset for its own paddock. -/
def qpResetEffect (s : State) (r : Req) : Answer :=
  let x := s.qp r.qp
  let mine := if x.state = 0 then leField r.value 2 1 == r.principal else x.paddock == r.principal
  doneIf (!isTenant r.principal || mine) s (s.resetQp r.qp)

def execQpReset (s : State) : Host.Outcome State Fault Refusal := .next (serve .qpReset qpResetEffect s)

/-! ### Groups (R307, R312) -/

def groupFormEffect (s : State) (r : Req) : Answer :=
  let d := s.pad r.paddock
  doneIf (d.active && !d.isStandby && formOk s r.paddock r.sub) s (formGroup s r.paddock r.sub)

def execGroupForm (s : State) : Host.Outcome State Fault Refusal := .next (serve .groupForm groupFormEffect s)

/-- A dissolve marks a group that is forming or formed; on any other slot it has nothing to do. -/
def groupDissolveEffect (s : State) (r : Req) : Answer :=
  done (if ((s.pad r.paddock).group r.sub).standing then markDissolving s r.paddock r.sub else s)

def execGroupDissolve (s : State) : Host.Outcome State Fault Refusal :=
  .next (serve .groupDissolve groupDissolveEffect s)

/-! ### The expert directory (R322, R323, R332) -/

/-- What both modes of a load need: its entries stay in the share, and its step is to come. -/
def loadOk (s : State) (p : Nat) (x : DirLoad) : Bool :=
  x.first + x.count ≤ (s.share p).2 && (s.pad p).step < x.step

/-- The entries of a copy, as they stand in memory at the write. -/
def copiedEntries (s : State) (p : Nat) (x : DirLoad) : List (List Byte) :=
  (List.range x.count).map fun i => s.bytesAt p (x.arg + 16 * i) 16

/-- A directory entry with a reserved bit set. -/
def entryReserved (b : List Byte) : Bool :=
  bitField (leField b 0 4) 30 18 != 0 || leField b 6 2 != 0 || leField b 0xC 4 != 0

def directoryCopyEffect (s : State) (r : Req) : Answer :=
  let v := cleaned r.index r.num
  let x := parseLoad (leBytes 32 v)
  let p := r.paddock
  if loadOk s p x && x.arg % 16 == 0 && (s.pad p).inFixed x.arg (16 * x.count)
      && !((copiedEntries s p x).any entryReserved) then holdShadow s r v (copiedEntries s p x)
  else refuse s 4

def execDirectoryLoadCopy (s : State) : Host.Outcome State Fault Refusal :=
  .next (serve .directoryLoadCopy directoryCopyEffect s)

/-- Canonical placement of E experts over D ranks; with no rank there is no placement. -/
def directoryCanonicalEffect (s : State) (r : Req) : Answer :=
  let v := cleaned r.index r.num
  let x := parseLoad (leBytes 32 v)
  if loadOk s r.paddock x && x.arg % 2 ^ 32 == x.count && within 1 262144 (x.arg >>> 32) then
    holdShadow s r v []
  else refuse s 4

def execDirectoryLoadCanonical (s : State) : Host.Outcome State Fault Refusal :=
  .next (serve .directoryLoadCanonical directoryCanonicalEffect s)

/-- The applied share is written at an address in a fixed allocation. -/
def directoryDumpEffect (s : State) (r : Req) : Answer :=
  let b := shareBytes s r.paddock
  doneIf ((s.pad r.paddock).inFixed r.num (max 1 b.length)) s (plainWrite s r.paddock (placeAt r.num b))

def execDirectoryDump (s : State) : Host.Outcome State Fault Refusal :=
  .next (serve .directoryDump directoryDumpEffect s)

end Sys2Proof.Machine
end

