-- ==== Sys2Proof/Machine/Life.lean ====
section
/-! DEFINITION. Life-cycle states, ownership and keys, and attestation (R424, R427 to R432, R442). -/

namespace Sys2Proof.Machine
open Sys2Proof

def State.modLife (s : State) (f : Life → Life) : State := { s with life := f s.life }

def State.noPaddock (s : State) : Bool := s.paddocks.toList.all fun d => d.phase == .absent

/-! ### Life-cycle commands (R428) -/

/-- The confirmation of a command: bytes 0 to 3 of the identity digest for a release and a
decommission. -/
def confirmed (s : State) (r : Req) : Bool :=
  let want := if r.first = 5 || r.first = 6 then leNat (s.identityDigest.take 4) else 0
  leField r.value 4 4 == want

/-- A life-cycle command: accepted from its states, with its conditions and its confirmation. -/
def lifeCommand (ok : State → Bool) (effect : State → State) (s : State) (r : Req) : Answer :=
  doneIf (confirmed s r && ok s) s (effect s)

def goTo (x : LifeState) (s : State) : State := s.modLife fun l => { l with state := x }

def ownedOrMaintenance (s : State) : Bool := s.life.state == .owned || s.life.state == .maintenance

/-- A lock abandons an update in any state but idle (R437). -/
def lockDevice (s : State) : State :=
  let s := goTo .ownedLocked s
  if s.firmware.update == .idle then s else { s with firmware := s.firmware.abandon }

def execLock (s : State) : Host.Outcome State Fault Refusal :=
  .next (serve .lock (lifeCommand (fun s => s.life.state == .owned) lockDevice) s)

def execUnlock (s : State) : Host.Outcome State Fault Refusal :=
  .next (serve .unlock (lifeCommand (fun s => s.life.state == .ownedLocked) (goTo .owned)) s)

def execEnterMaintenance (s : State) : Host.Outcome State Fault Refusal :=
  .next (serve .enterMaintenance
    (lifeCommand (fun s => s.life.state == .owned && s.noPaddock) (goTo .maintenance)) s)

def execLeaveMaintenance (s : State) : Host.Outcome State Fault Refusal :=
  .next (serve .leaveMaintenance
    (lifeCommand (fun s => s.life.state == .maintenance && s.bist.state != 1) (goTo .owned)) s)

/-- A release starts: the dictionary takes no more writes (R431). -/
def execRelease (s : State) : Host.Outcome State Fault Refusal :=
  .next (serve .release (lifeCommand (fun s => ownedOrMaintenance s && s.noPaddock)
    (fun s => s.modLife fun l => { l with transition := some false })) s)

/-- RW per-device objects return to their defaults; the physical address to its straps (R431). -/
def State.defaultSettings (s : State) : State :=
  let rw := fun (k : Nat) => match objRow (k / 256) (k % 256) with
    | some row => row.access == 1 && !row.perPaddock
    | none => false
  ({ s with objs := s.objs.filter (fun e => !rw e.1), qps := [] }).setObj 0x5400 0
    (Config.addressStraps % 2 ^ 18)

/-- Every NAND block is erased. -/
def State.eraseFlash (s : State) : State := { s with tiers := { s.tiers with flash := [] } }

/-- A release, or the erasing of a decommission, finishes. -/
def execReleaseComplete (s : State) : Host.Outcome State Fault Refusal :=
  .next (match s.life.transition with
    | none => s
    | some true => s.modLife fun l => { l with transition := none }
    | some false =>
      let s := s.eraseFlash.defaultSettings.modLife fun l => { l with
        state := .provisioned, transition := none, ownerCommitment := List.replicate 64 0
        principals := List.replicate 9 Principal.fresh }
      s.resetMain.startMain)

/-- A decommission: flash is erased, the identity private key destroyed, and the main die held in reset
for ever (R432). -/
def decommission (s : State) : State :=
  (s.eraseFlash.modLife fun l => { l with
    state := .retired, transition := some true, privateKey := none, nonces := [] }).resetMain

def execDecommission (s : State) : Host.Outcome State Fault Refusal :=
  .next (serve .decommission (lifeCommand (fun s => ownedOrMaintenance s && s.noPaddock) decommission) s)

/-- The key pair comes from a free value (R424). -/
def makeIdentity (s : State) : State :=
  let (w, s) := s.draw
  let d := w % (Crypto.order521 - 1) + 1
  s.modLife fun l => { l with privateKey := some d, publicKey := Crypto.publicKey d }

def execGenerateIdentity (s : State) : Host.Outcome State Fault Refusal :=
  .next (serve .generateIdentity (lifeCommand
    (fun s => s.life.state == .blank && s.life.manufacturing && !s.life.hasIdentity) makeIdentity) s)

/-- The device is provisioned and the manufacturing key, which the owner's place holds in BLANK, is
erased. -/
def provisionEffect (s : State) (r : Req) : Answer :=
  let ok := fun (s : State) => s.life.state == .blank && s.life.manufacturing && s.life.hasIdentity
    && Config.certificateVerifies (s.life.certificate.take s.life.certLen) s.life.publicKey
  { lifeCommand ok (fun s => (goTo .provisioned s).setKey 8 none |>.modLife fun l =>
      { l with manufacturing := false }) s r with rekey := confirmed s r && ok s }

def execProvision (s : State) : Host.Outcome State Fault Refusal := .next (serve .provision provisionEffect s)

/-! ### Keys (R429, R430) -/

/-- A wrapped key that fails to unwrap is counted. -/
def keyRefused (s : State) : Answer := { state := s.addObj 0x1130 0 1, result := 4 }

/-- The owner's key and its commitment. -/
def State.setOwner (s : State) (key : List Byte) : State :=
  (s.setKey 8 (some key)).modLife fun l => { l with ownerCommitment := Crypto.sha512 key }

/-- The wrapping key of a claim. -/
def claimKek (s : State) (ephemeral : List Byte) : Option (List Byte) :=
  match s.life.privateKey, Crypto.decodePoint ephemeral with
  | some d, some pt => (Crypto.ecdh d pt).map fun z => Crypto.kdf z s.identityDigest
  | _, _ => none

def claimEffect (s : State) (r : Req) : Answer :=
  if s.life.state != .provisioned || leField r.value 0 2 != 1 then refuse s 4
  else
    match (claimKek s (sliceBytes r.value 8 133)).bind fun k => Crypto.unwrap k (sliceBytes r.value 0x90 72) with
    | some key => done (goTo .owned (s.setOwner key))
    | none => keyRefused s

def execClaim (s : State) : Host.Outcome State Fault Refusal := .next (serve .claim claimEffect s)

/-- The wrapping key of owner-written keys. -/
def ownerKek (s : State) : List Byte := (Crypto.hmac ((s.key 8).getD []) [0x01]).take 32

/-- The response is tagged with the old key; the new one applies from the next request. -/
def ownerKeyEffect (s : State) (r : Req) : Answer :=
  match Crypto.unwrap (ownerKek s) r.value with
  | some key => { done (s.setOwner key) with rekey := true }
  | none => keyRefused s

def execOwnerKeyChange (s : State) : Host.Outcome State Fault Refusal :=
  .next (serve .ownerKeyChange ownerKeyEffect s)

def tenantKeyEffect (s : State) (r : Req) : Answer :=
  match Crypto.unwrap (ownerKek s) r.value with
  | some key => done (s.setKey r.sub (some key))
  | none => keyRefused s

def execTenantKey (s : State) : Host.Outcome State Fault Refusal :=
  .next (serve .tenantKey tenantKeyEffect s)

/-! ### Attestation (R442) -/

def nonceEffect (s : State) (r : Req) : Answer :=
  done (s.modLife fun l => { l with nonces := l.nonces ++ [(r.sub, sliceBytes r.value 0 64)] })

def execAttestationNonce (s : State) : Host.Outcome State Fault Refusal :=
  .next (serve .attestationNonce nonceEffect s)

/-- The image digest of a slot: SHA-512 over its image length (R434). -/
def Firmware.imageDigest (f : Firmware) (n : Nat) : List Byte :=
  Crypto.sha512 (memBytes 0xFF (f.slot n) 0 (min 16777216 (512 + f.field n 0x10 8)))

/-- The other slot's digest: zero when it is empty or invalid. -/
def Firmware.otherDigest (f : Firmware) (n : Nat) : List Byte :=
  let st := f.states.getD n 0
  if st = 0 || st = 3 then List.replicate 64 0 else f.imageDigest n

/-- The report of principal `q` up to its signature. -/
def reportBody (s : State) (q : Nat) (nonce : List Byte) : List Byte :=
  let f := s.firmware
  let run := f.running.getD 0
  let flags := bit (f.lastResult == 0x63 && f.running.isSome) 0 + bit (s.life.state == .ownedLocked) 1
    + bit s.faults.degraded 2
  leBytes 2 1 ++ leBytes 1 (lifeCode s.life.state) ++ leBytes 1 flags ++ leBytes 1 q ++ leBytes 1 run
    ++ leBytes 2 (s.obj 0x6000 0) ++ leBytes 4 (s.obj 0x1007 0) ++ leBytes 4 f.bootCount ++ leBytes 8 s.now
    ++ leBytes 4 s.address ++ leBytes 4 f.floor ++ nonce ++ s.identityDigest
    ++ (if f.running.isSome then f.imageDigest run else List.replicate 64 0) ++ f.otherDigest (1 - run)
    ++ sliceBytes s.life.ownerCommitment 0 64 ++ leBytes 1 (if q = 8 then 0xFF else q) ++ leBytes 3 0
    ++ leBytes 4 (s.obj 0x9011 0) ++ leBytes 20 0

/-- The oldest nonce is answered. The signature's per-message number is a free value. -/
def execAttestationReportSigned (s : State) : Host.Outcome State Fault Refusal :=
  .next (match s.life.nonces, s.life.privateKey with
    | (q, nonce) :: rest, some d =>
      let b := reportBody s q nonce
      let (w, s) := s.draw
      let sig := Crypto.sign d (w % (Crypto.order521 - 1) + 1) (Crypto.sha512 b)
      s.modLife fun l => { l with nonces := rest, reports := l.reports.set q (b ++ sig) }
    | _, _ => s)

end Sys2Proof.Machine
end

