-- ==== Sys2Proof/Machine/Bist.lean ====
section
/-! DEFINITION. The built-in self-test: its start, its phases, the end of a run and an abort (R361, R457
to R461, R466). -/

namespace Sys2Proof.Machine
open Sys2Proof

/-! ### The units of a run (R458, R466) -/

/-- Whether a unit is tested in some phase. -/
def Bist.selects (b : Bist) (u : UnitId) : Bool :=
  (List.range 6).any fun ph => (List.range 3).any fun w => b.tests ph w u

/-- Units tested in a run: HBM counts its unretired blocks. -/
def State.unitsTested (s : State) : Nat :=
  let count := fun (c : UnitClass) => ((List.range (unitCount c)).filter fun n => s.bist.selects (c, n)).length
  ([.plot, .stripBank, .directoryBank, .edgeEngine, .collectiveEngine, .drillUnit, .controlCore,
    .chipLink, .hostPort].map count).foldl (· + ·) 0
    + (if s.bist.classes.testBit 8 then 17578125 - s.obj 0x4004 0 else 0)

/-! ### Start and abort (R457, R461) -/

/-- Every selected link is disabled by object 0x5002 or in spare idle. -/
def State.linksFree (s : State) : Bool :=
  (maskList 48 (s.obj 0x2402 0)).all fun n => s.obj 0x5002 n == 0 || (s.link n).state == .spareIdle

def State.mayTest (s : State) : Bool :=
  (s.life.state == .blank || s.life.state == .maintenance) && s.noPaddock && s.bist.state != 1
    && s.power.tap ≤ 1 && s.linksFree

/-- A run begins with the selection as it is now. -/
def State.beginBist (s : State) : State :=
  { s with bist := { s.bist with
      state := 1, phase := 1, wave := 0, failed := [], peak := 0, started := s.now
      classes := s.obj 0x2401 0, links := s.obj 0x2402 0, ports := s.obj 0x2403 0 } }.addObj 0x240B 0 1

def bistStartEffect (s : State) (_ : Req) : Answer := doneIf s.mayTest s s.beginBist

def execBistStart (s : State) : Host.Outcome State Fault Refusal :=
  .next (serve .bistStart bistStartEffect s)

/-- The ports a run has taken down train again. -/
def State.portsBack (s : State) : State :=
  if s.bist.phase < 5 then s
  else
    (maskList 8 s.bist.ports).foldl
      (fun s n => if s.bist.classes.testBit 10 && s.portUsable n then s.setObj 0x3801 n 1 else s) s

/-- An abort stops a run; without one it does nothing. -/
def bistAbortEffect (s : State) (_ : Req) : Answer :=
  done (if s.bist.state = 1 then s.portsBack.stopBist else s)

def execBistAbort (s : State) : Host.Outcome State Fault Refusal :=
  .next (serve .bistAbort bistAbortEffect s)

/-! ### Phases (R458) -/

/-- The phase and wave that follow; phase 6 stands for a run whose phases are over. -/
def Bist.advance (b : Bist) : Bist :=
  if b.phase = 2 && b.wave < 2 then { b with wave := b.wave + 1 }
  else { b with phase := b.phase + 1, wave := 0 }

/-- The selected host ports go down for phase 5. -/
def State.portsDown (s : State) : State :=
  if s.bist.phase = 5 && s.bist.classes.testBit 10 then
    (maskList 8 s.bist.ports).foldl (fun s n => s.setObj 0x3801 n 0) s
  else s

/-- A phase, or a wave of phase 2, ends with the units of it that failed. -/
def execBistPhaseEnd (failed : List (UnitClass × Nat)) (s : State) : Host.Outcome State Fault Refusal :=
  let b := s.bist
  .next (
    if b.state != 1 || 5 < b.phase then s
    else
      let bad := failed.filter fun u => b.tests b.phase b.wave u
      { s with bist := { b with failed := b.failed ++ bad }.advance }.portsDown)

/-! ### The end of a run (R460) -/

/-- Every tested unit loses its retirement record. HBM blocks that were retired are not tested. -/
def State.dropRecords (s : State) : State :=
  let gone := s.faults.retired.filter fun u => u.1 != .hbmBlock && s.bist.selects u
  let links := (List.range 48).filter fun n => s.bist.selects (.chipLink, n) && (s.link n).state == .retired
  let old := (gone.filter fun u => u.1 != .chipLink).length + links.length
  let s := { s with
    faults := { s.faults with retired := s.faults.retired.filter fun u => !gone.contains u }
    links := links.foldl (fun l n => l.setIfInBounds n { s.link n with state := .disabled }) s.links }
  (s.setObj 0x9011 0 (s.obj 0x9011 0 - old)).restoreUnits

/-- A unit that failed is retired, with its spare where one is left, and logged. -/
def State.retireFailed (s : State) (u : UnitId) : State :=
  match u.1 with
  | .chipLink => s.retireLink u.2 6
  | _ =>
    let (t, spare) := retireUnit s u
    t.log { status := 0x51, cls := u.1, unit := u.2, detection := 6, outcome := if spare then 2 else 3 }

/-- Units that had a record and passed. -/
def State.returned (s : State) : Nat :=
  (s.faults.retired.filter fun u => u.1 != .hbmBlock && u.1 != .chipLink && s.bist.selects u
      && !s.bist.failed.contains u).length
    + ((List.range 48).filter fun n => s.bist.selects (.chipLink, n) && (s.link n).state == .retired
      && !s.bist.failed.contains (.chipLink, n)).length

/-- The units that failed; each entry for HBM is a block of its own. -/
def Bist.failures (b : Bist) : List UnitId :=
  ((b.failed.filter fun u => u.1 != .hbmBlock).map fun u => testUnit u.1 u.2).eraseDups ++ b.failed.filter fun u => u.1 == .hbmBlock

def execBistRunEnd (s : State) : Host.Outcome State Fault Refusal :=
  .next (
    if s.bist.state != 1 || s.bist.phase < 6 then s
    else
      let bad := s.bist.failures
      let s := (((s.setObj 0x2406 0 ((s.now - s.bist.started) / 1000000 % 2 ^ 32)).setObj 0x2407 0
        s.unitsTested).setObj 0x2408 0 bad.length).setObj 0x2409 0 s.returned
      let s := (s.setObj 0x240A 0 s.bist.peak).portsBack
      let s := bad.foldl State.retireFailed s.dropRecords
      let pass := s.complete
      { s with
        bist := { s.bist with
          state := if pass then 2 else 3, phase := 0, wave := 0, failed := [], passedSince := pass }
        faults := { s.faults with degraded := s.faults.degraded || !pass } })

end Sys2Proof.Machine
end

