-- ==== Sys2Proof/Machine/Conv.lean ====
section
/-! DEFINITION. Convolution, pooling, the edge path, box decoding and overlap suppression (R175 to
R189). -/

namespace Sys2Proof.Machine
open Sys2Proof

/-! ### Geometry (R175) -/

/-- A field of a packed parameter: width, height or depth. -/
def packed (w k : Nat) : Nat := (w >>> (8 * k)) % 256

/-- Every field of a packed parameter within bounds, its top byte 0. -/
def packedOk (w lo hi : Nat) : Bool :=
  w < 2 ^ 24 && (List.range 3).all fun k => lo ≤ packed w k && packed w k ≤ hi

/-- One output extent (R175). -/
def wOut (W pl pt dl KW s : Nat) : Nat :=
  let span : Int := (W : Int) + pl + pt - dl * ((KW : Int) - 1) - 1
  if span < 0 then 0 else (span / s + 1).toNat

/-- Geometry of a convolution from its record: stride, leading and trailing padding, dilation. -/
structure Geo where
  s : Nat → Nat
  pl : Nat → Nat
  pt : Nat → Nat
  dl : Nat → Nat

def convGeo (r : Rec) : Geo :=
  { s := packed (r.p 0), pl := packed (r.p 1), pt := packed (r.p 2), dl := packed (r.p 3) }

def poolGeo (r : Rec) : Geo :=
  { s := packed (r.p 1), pl := packed (r.p 2), pt := packed (r.p 3), dl := fun _ => 1 }

/-- The input position of an output position and tap in one dimension, inside the input (R175). -/
def Geo.input (g : Geo) (dim W x k : Nat) : Option Nat :=
  let i := x * g.s dim + k * g.dl dim
  if g.pl dim ≤ i && i - g.pl dim < W then some (i - g.pl dim) else none

/-- The input position in three dimensions. -/
def Geo.input3 (g : Geo) (t : Tensor) (x y z kw kh kd : Nat) : Option (Nat × Nat × Nat) :=
  match g.input 0 (t.e 1) x kw, g.input 1 (t.e 2) y kh, g.input 2 (t.e 3) z kd with
  | some a, some b, some c => some (a, b, c)
  | _, _, _ => none

/-- The output position that a tap of an input position serves, where it is one (R179). -/
def Geo.output (g : Geo) (dim Wo x k : Nat) : Option Nat :=
  let i := x + g.pl dim
  let o := k * g.dl dim
  if o ≤ i && (i - o) % g.s dim == 0 && (i - o) / g.s dim < Wo then some ((i - o) / g.s dim) else none

/-- The taps of a window, width fastest. -/
def taps (kw kh kd : Nat) : List (Nat × Nat × Nat) :=
  (List.range kd).flatMap fun d => (List.range kh).flatMap fun h => (List.range kw).map fun w => (w, h, d)

/-! ### CONV and EDGE_CONV -/

/-- The products of one output element over the reduced index of R47. -/
def convTerms (c : Ctx) (x f : Array Val) (idx : List Nat) : List (Option Val) :=
  let O := c.must 0
  let X := c.must 1
  let F := c.must 2
  let g := convGeo c.r
  let G := c.r.p 4
  let o := idx.getD 0 0
  let cg := F.e 0
  let base := o / (O.e 0 / max 1 G) * cg
  (taps (F.e 1) (F.e 2) (F.e 3)).flatMap fun (kw, kh, kd) =>
    let pos := g.input3 X (idx.getD 1 0) (idx.getD 2 0) (idx.getD 3 0) kw kh kd
    (List.range cg).map fun ch =>
      match pos with
      | none => none
      | some (a, b, z) =>
        some (((x[logical X.ext [base + ch, a, b, z, idx.getD 4 0]]?).getD .nan).mul
          ((f[logical F.ext [ch, kw, kh, kd, o]]?).getD .nan))

/-- The length of the reduced index. -/
def filterLen (f : Tensor) : Nat := f.e 0 * f.e 1 * f.e 2 * f.e 3

/-- A convolution as its plan takes it: the gathered input along m, the filter along n (R177). -/
def convProduct (c : Ctx) : Product :=
  let o := c.must 0
  let F := c.must 2
  let x := c.product 0 1 2 (o.e 0) (o.e 1) (filterLen F) (higherOf o) (arrayRate (c.must 1).fmt F.fmt) (counted o.fmt)
  { x with
    gather := some { cin := F.e 0, kw := F.e 1, kh := F.e 2, kd := F.e 3, bits := c.bitsOf 1 }
    post := x.post + if c.has 3 then 1 else 0 }

/-- Run a convolution, with its work given (R176, R177, R184). -/
def convWith (c : Ctx) (work : Work → Work) : Effect :=
  let o := c.must 0
  let x := c.exact 1
  let f := c.exact 2
  let bias := if c.has 3 then c.wide 3 else #[]
  let skim := skimSlots c o [1, 2, 3]
  let pair := (pairOf (c.must 1).fmt (c.must 2).fmt).getD (32, none)
  let rs := ((allIdx o.ext).map (matrixResult pair (convTerms c x f)
    (fun i => if c.has 3 then bias[i.getD 0 0]? else none) (fun _ => none))).toArray
  let p := predictedP (expOf c 1 x + expOf c 2 f + lambda (filterLen (c.must 2)))
    (if c.has 3 then [expOf c 3 (bias.map F32.val)] else [])
  let w := writeOut o (c.outSpec (.predicted p)) rs c.pool
  outEffect c [{ t := o, w := w }]
    (if skim.isEmpty then none else some (skimBytes c skim))
    (x.any Val.nonFinite || f.any Val.nonFinite || anyNonFinite bias || anyNonFinite rs)
    [[{ work (skimWork c skim) with words := wordsOf o w }]]

def convWork (c : Ctx) (w : Work) : Work :=
  { w with units := quads (c.must 0), segs := segments (filterLen (c.must 2)), shape := .product (convProduct c) }

/-- The swaths of the edge path (R184). -/
def edgeWork (c : Ctx) (w : Work) : Work :=
  { w with units := (c.must 0).nSwath, edge := true, shape := .product { convProduct c with single := true } }

/-- The packed parameters and group count of R103, R175. -/
def convForm (r : Rec) : Bool :=
  packedOk (r.p 0) 1 16 && packedOk (r.p 1) 0 255 && packedOk (r.p 2) 0 255 && packedOk (r.p 3) 1 16
    && 1 ≤ r.p 4

/-- Output extents, groups and filter of R175, for input `x`, filter `f`, output `o`. -/
def convShape (r : Rec) (x f o : Tensor) : Bool :=
  let g := convGeo r
  let G := r.p 4
  x.e 0 % G == 0 && o.e 0 % G == 0 && f.e 0 == x.e 0 / G && f.e 4 == o.e 0
    && x.e 4 == o.e 4 && x.e 5 == 1 && f.e 5 == 1 && o.e 5 == 1
    && (List.range 3).all fun k =>
      1 ≤ f.e (k + 1) && f.e (k + 1) ≤ 63
        && o.e (k + 1) == wOut (x.e (k + 1)) (g.pl k) (g.pt k) (g.dl k) (f.e (k + 1)) (g.s k)

def convFormats (c : Ctx) : List (Nat × Bool) :=
  [(0, matrixOut (c.must 0).fmt), (1, arrayFmt (c.must 1).fmt),
   (2, (pairOf (c.must 1).fmt (c.must 2).fmt).isSome), (3, !c.has 3 || biasFmt (c.must 3).fmt)]

def convShapes (c : Ctx) : List (Nat × Bool) :=
  [(0, convShape c.r (c.must 1) (c.must 2) (c.must 0)),
   (1, (c.must 1).fmt != .f4b || (c.must 2).e 0 % 32 == 0),
   (3, !c.has 3 || ((c.must 3).rank == 1 && (c.must 3).e 0 == (c.must 0).e 0))]

/-- CONV (R175 to R178). -/
def convOp : Op :=
  { required := fun _ => [0, 1, 2]
    optional := fun _ => [3]
    form := fun r => r.modifier == 0 && convForm r
    params := [0, 1, 2, 3, 4]
    formats := convFormats
    shapes := convShapes
    run := fun c => convWith c (convWork c) }

def execConv (p g : Nat) (s : State) : Host.Outcome State Fault Refusal :=
  .next (issue 0x000A (fun _ => true) convOp p g s)

/-- Every edge engine of the paddock's strips can be used (R183), and no replay is awaited (R377). -/
def edgeReady (s : State) (p : Nat) : Bool :=
  ((s.stripsOf p).all fun k => (s.strip k).edge == .available) &&
    (s.pad p).obj 0x9001 0 != 5 && (s.pad p).obj 0x9001 0 != 6

/-- EDGE_CONV (R182 to R184). -/
def edgeConvOp : Op :=
  { convOp with
    formats := fun c => convFormats c ++ [(1, (c.must 1).fmt != .f4b), (2, (c.must 2).fmt != .f4b)]
    shapes := fun c =>
      convShapes c ++ [(1, ((c.must 1).e 0 ≤ 16 || (c.must 0).e 0 ≤ 16) && c.r.p 4 == 1)]
    run := fun c =>
      if edgeReady c.s c.p then
        convWith c (edgeWork c)
      else convWith c (convWork c) }

def execEdgeConv (p g : Nat) (s : State) : Host.Outcome State Fault Refusal :=
  .next (issue 0x000C (fun _ => true) edgeConvOp p g s)

/-! ### CONV_GRAD (R179, R180) -/

/-- The products of one d-input element. -/
def dInputTerms (c : Ctx) (dO f : Array Val) (idx : List Nat) : List (Option Val) :=
  let DO := c.must 2
  let F := c.must 4
  let g := convGeo c.r
  let G := c.r.p 4
  let cg := F.e 0
  let og := DO.e 0 / max 1 G
  let ch := idx.getD 0 0
  (taps (F.e 1) (F.e 2) (F.e 3)).flatMap fun (kw, kh, kd) =>
    let pos := match g.output 0 (DO.e 1) (idx.getD 1 0) kw, g.output 1 (DO.e 2) (idx.getD 2 0) kh,
        g.output 2 (DO.e 3) (idx.getD 3 0) kd with
      | some a, some b, some z => some (a, b, z)
      | _, _, _ => none
    (List.range og).map fun o' =>
      let o := ch / cg * og + o'
      match pos with
      | none => none
      | some (a, b, z) =>
        some (((f[logical F.ext [ch % cg, kw, kh, kd, o]]?).getD .nan).mul
          ((dO[logical DO.ext [o, a, b, z, idx.getD 4 0]]?).getD .nan))

/-- The products of one d-filter element. -/
def dFilterTerms (c : Ctx) (dO x : Array Val) (idx : List Nat) : List (Option Val) :=
  let DO := c.must 2
  let X := c.must 3
  let g := convGeo c.r
  let G := c.r.p 4
  let cg := (c.must 1).e 0
  let o := idx.getD 4 0
  let ch := o / (DO.e 0 / max 1 G) * cg + idx.getD 0 0
  (allIdx (DO.ext.drop 1)).map fun out =>
    match g.input3 X (out.getD 0 0) (out.getD 1 0) (out.getD 2 0) (idx.getD 1 0) (idx.getD 2 0)
        (idx.getD 3 0) with
    | none => none
    | some (a, b, z) =>
      some (((x[logical X.ext [ch, a, b, z, out.getD 3 0]]?).getD .nan).mul
        ((dO[logical DO.ext (o :: out)]?).getD .nan))

/-- The d-filter quads are replaced by segment units (R180). -/
def splitFilter (c : Ctx) : Bool :=
  c.has 1 && quads (c.must 1) < 64 * (c.s.stripsOf c.p).length
    && 1 < segments ((c.must 2).numel / max 1 ((c.must 2).e 0))

/-- The d-input product gathers d-output as its patch, and reads the filter along its last dimension; both operands of
the d-filter product stand along a dimension other than 0 (R179, R180; DEDUCED, log entry 135). -/
def dInputProduct (c : Ctx) (len : Nat) : Product :=
  let F := c.must 4
  { gradProduct c 0 4 len (c.r.modifier.testBit 3) with
    bTurned := true
    gather := some { cin := (c.must 2).e 0 / max 1 (c.r.p 4), kw := F.e 1, kh := F.e 2, kd := F.e 3,
                     bits := c.bitsOf 2 } }

def dFilterProduct (c : Ctx) (len : Nat) : Product :=
  { gradProduct c 1 3 len (c.r.modifier.testBit 2) with aTurned := true, bTurned := true }

def convGradRun (c : Ctx) : Effect :=
  let DO := c.must 2
  let m := c.r.modifier
  gradRun c 2 3 4
    (fun dy w =>
      let len := DO.e 0 / max 1 (c.r.p 4) * ((c.must 4).e 1 * (c.must 4).e 2 * (c.must 4).e 3)
      { slot := 0, other := 4, terms := dInputTerms c dy w, len := len, accumulate := m.testBit 3
        live := fun _ => true, weights := false, product := dInputProduct c len, split := false })
    (fun dy x =>
      let len := DO.numel / max 1 (DO.e 0)
      { slot := 1, other := 3, terms := dFilterTerms c dy x, len := len, accumulate := m.testBit 2
        live := fun _ => true, weights := false, product := dFilterProduct c len, split := splitFilter c })
    true

/-- Shapes of a gradient: the d-input or input with the d-filter or filter gives the d-output. -/
def convGradShapes (c : Ctx) : List (Nat × Bool) :=
  let noF4b := fun (i : Nat) => !c.has i || (c.must i).fmt != .f4b
  [(0, !c.has 0 || (convShape c.r (c.must 0) (c.must 4) (c.must 2)
      && (!c.has 3 || (c.must 0).ext == (c.must 3).ext))),
   (1, !c.has 1 || (convShape c.r (c.must 3) (c.must 1) (c.must 2)
      && (!c.has 4 || (c.must 1).ext == (c.must 4).ext))),
   (2, noF4b 2), (3, noF4b 3), (4, noF4b 4)]

/-- CONV_GRAD (R179, R180); its partial area holds the segment values of 128 by 128 quads. -/
def convGradOp : Op :=
  { outputs := fun r => (if r.modifier.testBit 0 then [0] else []) ++ (if r.modifier.testBit 1 then [1] else [])
    required := fun r => gradSlots r [2] [3] [4]
    form := fun r => gradForm r && convForm r
    params := [0, 1, 2, 3, 4]
    reads := gradReads
    formats := matmulGradOp.formats
    shapes := convGradShapes
    area := fun c =>
      if splitFilter c then
        2 * quads (c.must 1) * segments ((c.must 2).numel / max 1 ((c.must 2).e 0))
      else 0
    run := convGradRun }

def execConvGrad (p g : Nat) (s : State) : Host.Outcome State Fault Refusal :=
  .next (issue 0x000B (fun _ => true) convGradOp p g s)

/-! ### POOL (R185, R186) -/

/-- The inside positions of a window, in window order: linear index and value. -/
def poolInside (r : Rec) (X : Tensor) (x : Array F32) (idx : List Nat) : List (Nat × F32) :=
  let g := poolGeo r
  (taps (packed (r.p 0) 0) (packed (r.p 0) 1) (packed (r.p 0) 2)).filterMap fun (kw, kh, kd) =>
    (g.input3 X (idx.getD 1 0) (idx.getD 2 0) (idx.getD 3 0) kw kh kd).map fun (a, b, z) =>
      (a + X.e 1 * (b + X.e 2 * z),
       (x[logical X.ext [idx.getD 0 0, a, b, z, idx.getD 4 0]]?).getD 0)

/-- The value and the index of one output element. -/
def poolElem (average : Bool) (l : List (Nat × F32)) : F32 × Int :=
  match l with
  | [] => (0, -1)
  | x :: xs =>
    if average then (F32.div (vsum (l.map (·.2))) (F32.ofNat l.length), -1)
    else match l.find? fun v => v.2.val.isNan with
      | some v => (F32.nan, v.1)
      | none =>
        let m := (xs.map (·.2)).foldl F32.max x.2
        (m, match l.find? fun v => v.2 == m with | some v => (v.1 : Int) | none => -1)

/-- Work of POOL: one maximum or one addition for each tap of the window, and a division for an average (R186, R471). -/
def poolWork (c : Ctx) : Work :=
  let o := c.must 0
  let taps := packed (c.r.p 0) 0 * packed (c.r.p 0) 1 * packed (c.r.p 0) 2
  let e := c.elemCost [1] 0 (taps + c.r.modifier) (counted o.fmt)
  { units := patches o
    shape := .patch (o.e 0) (o.e 1)
      { e with loads := taps * e.loads, cxl := taps * e.cxl, stores := e.stores + if c.has 2 then 32 else 0 } }

def poolRun (c : Ctx) : Effect :=
  let o := c.must 0
  let X := c.must 1
  let x := c.wide 1
  let ins := (allIdx o.ext).map (poolInside c.r X x)
  let rs := ins.map (poolElem (c.r.modifier == 1))
  let e := measured c 0 [1] (rs.map (·.1)).toArray
    ((ins.any fun l => l.any fun v => !v.2.finite) || rs.any fun r => !r.1.finite)
    (poolWork c)
  match c.t 2 with
  | none => e
  | some t =>
    let w := writePlain t (c.outSpec .measured) (rs.map fun r => Val.ofInt r.2).toArray c.pool
    { e with s := plainWrite e.s c.p w.bytes }

/-- POOL (R185, R186). -/
def poolOp : Op :=
  { required := fun _ => [0, 1]
    optional := fun r => if r.modifier = 0 then [2] else []
    form := fun r =>
      r.modifier < 2 && packedOk (r.p 0) 1 64 && packedOk (r.p 1) 1 64 && packedOk (r.p 2) 0 255
        && packedOk (r.p 3) 0 255
    params := [0, 1, 2, 3]
    formats := fun c =>
      [(0, matrixOut (c.must 0).fmt || (c.must 0).fmt == .f4b), (1, matrixOut (c.must 1).fmt),
       (2, !c.has 2 || (c.must 2).fmt == .i32)]
    shapes := fun c =>
      let o := c.must 0
      let X := c.must 1
      let g := poolGeo c.r
      [(0, o.e 0 == X.e 0 && o.e 4 == X.e 4 && o.e 5 == 1 && X.e 5 == 1 && (List.range 3).all fun k =>
          o.e (k + 1) == wOut (X.e (k + 1)) (g.pl k) (g.pt k) 1 (packed (c.r.p 0) k) (g.s k)),
       (2, !c.has 2 || (c.must 2).ext == o.ext)]
    run := poolRun }

def execPool (p g : Nat) (s : State) : Host.Outcome State Fault Refusal :=
  .next (issue 0x000D (fun _ => true) poolOp p g s)

/-! ### BOXDECODE (R187) -/

def half : F32 := 0x3F000000#32
def minusHalf : F32 := 0xBF000000#32

/-- ln 62.5, the bound of the size deltas. -/
def clipLog : F32 := F32.log (F32.ofVal (.fin false 125 (-1)))

def clipTo (n : Nat) (x : F32) : F32 :=
  if n = 0 then x else F32.min (F32.max x 0) (F32.ofNat n)

/-- One box from an anchor and its deltas: the four coordinates, and every value formed. -/
def boxOf (r : Rec) (a d : List F32) : List F32 × List F32 :=
  let v := fun (l : List F32) (i : Nat) => l.getD i 0
  let wa := F32.sub (v a 2) (v a 0)
  let ha := F32.sub (v a 3) (v a 1)
  let xa := F32.fma half wa (v a 0)
  let ya := F32.fma half ha (v a 1)
  let sx := F32.mul (v d 0) (r.pf 0)
  let sy := F32.mul (v d 1) (r.pf 1)
  let sw := F32.mul (v d 2) (r.pf 2)
  let sh := F32.mul (v d 3) (r.pf 3)
  let cx := F32.fma sx wa xa
  let cy := F32.fma sy ha ya
  let w := F32.mul wa (F32.exp (F32.min sw clipLog))
  let h := F32.mul ha (F32.exp (F32.min sh clipLog))
  let wc := r.p 4 % 65536
  let hc := r.p 4 / 65536
  let x1 := F32.fma minusHalf w cx
  let y1 := F32.fma minusHalf h cy
  let x2 := F32.fma half w cx
  let y2 := F32.fma half h cy
  ([clipTo wc x1, clipTo hc y1, clipTo wc x2, clipTo hc y2],
   a ++ d ++ [wa, ha, xa, ya, sx, sy, sw, sh, cx, cy, w, h, x1, y1, x2, y2])

/-- Units of 256 anchors, 16 vector cycles each (R187). -/
def boxWork (c : Ctx) : Work :=
  let o := c.must 0
  let n := ceilDiv (o.e 1) 256
  let e := c.elemCost [1, 2] 0 0 false
  { units := n * o.e 2
    shape := .listed ((List.range (n * o.e 2)).map fun i =>
      { e.scale (4 * min 256 (o.e 1 - 256 * (i % n))) with ops := 4096 }) }

def boxdecodeRun (c : Ctx) : Effect :=
  let o := c.must 0
  let D := c.must 1
  let A := c.must 2
  let d := c.wide 1
  let a := c.wide 2
  let boxes := (allIdx (1 :: o.ext.drop 1)).map fun i =>
    boxOf c.r ((List.range 4).map fun k => (a[logical A.ext [k, i.getD 1 0]]?).getD 0)
      ((List.range 4).map fun k => (d[logical D.ext (k :: i.drop 1)]?).getD 0)
  outEffect c
    [{ t := o, w := writeOut o (c.outSpec .measured) (boxes.flatMap (·.1)).toArray c.pool }]
    none (boxes.any fun b => b.2.any fun x => !x.finite)
    [[boxWork c]]

/-- BOXDECODE (R187). -/
def boxdecodeOp : Op :=
  { required := fun _ => [0, 1, 2]
    form := fun r => r.modifier == 0 && (List.range 4).all fun i => (r.pf i).finite
    params := [0, 1, 2, 3, 4]
    formats := fun c =>
      [(0, (c.must 0).fmt == .f32), (1, biasFmt (c.must 1).fmt), (2, (c.must 2).fmt == .f32)]
    shapes := fun c =>
      let D := c.must 1
      [(0, (c.must 0).ext == D.ext),
       (1, D.e 0 == 4 && D.e 1 ≤ 16777216 && D.ext.drop 3 == [1, 1, 1]),
       (2, (c.must 2).ext == [4, D.e 1, 1, 1, 1, 1])]
    run := boxdecodeRun }

def execBoxdecode (p g : Nat) (s : State) : Host.Outcome State Fault Refusal :=
  .next (issue 0x0048 (fun _ => true) boxdecodeOp p g s)

/-! ### SUPPRESS (R188, R189) -/

/-- The overlap test of R189 and every value it forms. -/
def overlaps (p0 : F32) (a b : List F32) : Bool × List F32 :=
  let v := fun (l : List F32) (i : Nat) => l.getD i 0
  let wA := F32.sub (v a 2) (v a 0)
  let hA := F32.sub (v a 3) (v a 1)
  let wB := F32.sub (v b 2) (v b 0)
  let hB := F32.sub (v b 3) (v b 1)
  let arA := F32.mul (F32.max wA 0) (F32.max hA 0)
  let arB := F32.mul (F32.max wB 0) (F32.max hB 0)
  let dw := F32.sub (F32.min (v a 2) (v b 2)) (F32.max (v a 0) (v b 0))
  let dh := F32.sub (F32.min (v a 3) (v b 3)) (F32.max (v a 1) (v b 1))
  let inter := F32.mul (F32.max dw 0) (F32.max dh 0)
  let sum := F32.add arA arB
  let rest := F32.sub sum inter
  let lim := F32.mul p0 rest
  (F32.gt inter lim, [wA, hA, wB, hB, arA, arB, dw, dh, inter, sum, rest, lim])

/-- The state of one pass: kept boxes, newest last, whether a NaN or infinity was met, and the cycles spent. -/
structure Pass where
  kept : List (Nat × List F32)
  bad : Bool
  /-- Cycles of the candidates examined (R189). -/
  cycles : Nat

/-- Examine one candidate. -/
def passStep (p0 : F32) (limit : Nat) (st : Pass) (c : Nat × List F32) : Pass :=
  if limit ≤ st.kept.length then st
  else
    let ts := st.kept.map fun k => overlaps p0 k.2 c.2
    let bad := st.bad || (c.2.any fun x => !x.finite) || ts.any fun t => t.2.any fun x => !x.finite
    { kept := if ts.any (·.1) then st.kept else st.kept ++ [c], bad := bad
      cycles := st.cycles + ceilDiv st.kept.length 256 + 4 }

/-- The kept indices of one batch index. -/
def suppressBatch (c : Ctx) (boxes scores : Array F32) (nb : Nat) : Pass × Bool :=
  let B := c.must 1
  let S := c.must 2
  let all := (List.range (B.e 1)).map fun i => (i, (scores[logical S.ext [i, nb]]?).getD 0)
  let cand := all.filter fun x => F32.gt x.2 (c.r.pf 2)
  let ordered := sortBy (fun a b => !(F32.lt a.2 b.2)) cand
  let st := (ordered.map fun x =>
      (x.1, (List.range 4).map fun k => (boxes[logical B.ext [k, x.1, nb]]?).getD 0)).foldl
    (passStep (c.r.pf 0) (c.r.p 1)) ⟨[], false, 64 * ceilDiv cand.length 256 * if cand.isEmpty then 0 else Nat.log2 cand.length + 1⟩
  (st, all.any fun x => !x.2.finite)

def suppressRun (c : Ctx) : Effect :=
  let o := c.must 0
  let cnt := c.must 3
  let boxes := c.wide 1
  let scores := c.wide 2
  let n := (c.must 1).e 2
  let passes := (List.range n).map (suppressBatch c boxes scores)
  let idx := passes.flatMap fun p => (List.range (o.e 0)).map fun i =>
    match p.1.kept[i]? with | some k => Val.ofInt k.1 | none => Val.ofInt (-1)
  let sp := c.outSpec .measured
  let w0 := writePlain o sp idx.toArray c.pool
  let w3 := writePlain cnt sp (passes.map fun p => Val.ofInt p.1.kept.length).toArray c.pool
  { s := plainWrite c.s c.p (w0.bytes ++ w3.bytes)
    statuses := if passes.any fun p => p.1.bad || p.2 then [0x22] else []
    lists := [[{ units := n
                 shape := .listed (passes.map fun p =>
                   { loads := (c.must 1).e 1 * (128 + c.bitsOf 2), ops := 256 * p.1.cycles, stores := 32 * (o.e 0 + 1)
                     out := c.inCxl 0 }) }]] }

/-- SUPPRESS (R188, R189). -/
def suppressOp : Op :=
  { partly := fun _ => [0, 3]
    required := fun _ => [0, 1, 2, 3]
    form := fun r =>
      r.modifier == 0 && (r.pf 0).finite && !F32.lt (r.pf 0) 0 && !F32.gt (r.pf 0) F32.one
        && 1 ≤ r.p 1 && r.p 1 ≤ 65536 && (r.pf 2).finite
    params := [0, 1, 2]
    formats := fun c =>
      [(0, (c.must 0).fmt == .i32), (1, (c.must 1).fmt == .f32), (2, biasFmt (c.must 2).fmt),
       (3, (c.must 3).fmt == .u32)]
    shapes := fun c =>
      let B := c.must 1
      [(0, c.r.p 1 ≤ (c.must 0).e 0 && (c.must 0).e 1 == B.e 2 && (c.must 0).ext.drop 2 == [1, 1, 1, 1]),
       (1, B.e 0 == 4 && B.e 1 ≤ 262144 && B.ext.drop 3 == [1, 1, 1]),
       (2, (c.must 2).ext == [B.e 1, B.e 2, 1, 1, 1, 1]),
       (3, (c.must 3).ext == [B.e 2, 1, 1, 1, 1, 1])]
    run := suppressRun }

def execSuppress (p g : Nat) (s : State) : Host.Outcome State Fault Refusal :=
  .next (issue 0x0049 (fun _ => true) suppressOp p g s)

end Sys2Proof.Machine
end

