-- ==== Sys2Proof/Machine/Data.lean ====
section
/-! DEFINITION. MOVE, FILL, ELEMWISE, REDUCE and STATS (R81, R102). -/

namespace Sys2Proof.Machine
open Sys2Proof

/-! ### MOVE -/

def inFlash (rd : Reader_) (t : Tensor) (input : Bool) : Bool :=
  touches .flash t.addr (if input then t.footprintIn rd else t.footprint)

/-- A write of `n` bytes at an address of the flash window: its counts, and the prepared batches of
every paddock whose flash range it meets (R237, R244, R268). -/
def flashWrites (s : State) (p a n : Nat) : State :=
  let o := s.flashOffset p a
  let unit := 1048576
  let s := (s.addObj 0x480F 0 n).addObj 0x4810 0 (unit * (ceilDiv (o + n) unit - o / unit))
  (List.range 8).foldl (fun s q =>
    if rangesMeet o n (s.obj 0x4820 q) (s.obj 0x4821 q) then s.modPad q Paddock.discardPrepared else s) s

def moveRun (c : Ctx) : Effect :=
  let d := c.must 0
  let s := c.must 1
  if d.fmt = s.fmt then
    let flash := inFlash c.rd d false || inFlash c.rd s true
    let w := if flash then copyBytes c.rd c.pool d s
      else copyTensor c.rd c.pool c.poolSize c.pool d s
    let e := outEffect c [{ t := d, w := w, copied := true }] none false
      [[{ units := patches d
          shape := .patch (d.e 0) (d.e 1) { c.elemCost [1] 0 0 false with ops := 0 } }]]
    { e with s := if inFlash c.rd d false then flashWrites e.s c.p d.addr d.footprint else e.s }
  else
    let vs := c.exact 1
    let w := writeVals d (c.outSpec .measured) vs c.pool
    let m := measuredSlot d
    outEffect c [{ t := d, w := w }] (if m then some (skimBytes c [1]) else none)
      (vs.any Val.nonFinite)
      [phasesOf m (patchWork c 0 [1] 0)]

/-- MOVE (R102, R237, R470). -/
def moveOp : Op :=
  { required := fun _ => [0, 1]
    flash := true
    carry := fun c =>
      if (c.must 1).fmt == .carry8 then
        (if (c.must 0).fmt == .carry8 then [0, 1] else if (c.must 0).fmt == .f32 then [1] else [])
      else []
    formats := fun c =>
      [(0, (c.must 0).fmt == (c.must 1).fmt ||
        !(inFlash c.rd (c.must 0) false || inFlash c.rd (c.must 1) true))]
    shapes := fun c =>
      [(0, (c.must 0).ext == (c.must 1).ext &&
        (!inFlash c.rd (c.must 0) false || (c.must 0).addr % 4096 == 0))]
    run := moveRun }

def execMove (p g : Nat) (s : State) : Host.Outcome State Fault Refusal :=
  .next (issue 0x0001 (fun _ => true) moveOp p g s)

/-! ### FILL -/

/-- FILL (R102). -/
def fillOp : Op :=
  { required := fun _ => [0]
    params := [0]
    run := fun c =>
      let x := c.r.pf 0
      measured c 0 [] (Array.replicate (c.must 0).numel x) (!x.finite) (patchWork c 0 [] 0) }

def execFill (p g : Nat) (s : State) : Host.Outcome State Fault Refusal :=
  .next (issue 0x0002 (fun _ => true) fillOp p g s)

/-! ### ELEMWISE -/

/-- Inputs that a modifier of ELEMWISE takes. -/
def elemArity (m : Nat) : Nat :=
  match m with
  | 0x04 => 3 | 0x10 => 3
  | 0x00 => 2 | 0x01 => 2 | 0x02 => 2 | 0x03 => 2 | 0x05 => 2 | 0x06 => 2 | 0x0F => 2
  | _ => 1

/-- The functions of ELEMWISE (R102). -/
def elemFn (m : Nat) (p0 p1 a b c : F32) : F32 :=
  match m with
  | 0x00 => F32.add a b
  | 0x01 => F32.sub a b
  | 0x02 => F32.mul a b
  | 0x03 => F32.div a b
  | 0x04 => F32.fma a b c
  | 0x05 => F32.max a b
  | 0x06 => F32.min a b
  | 0x08 => F32.exp a
  | 0x09 => F32.log a
  | 0x0A => F32.rsqrt a
  | 0x0B => F32.tanh a
  | 0x0C => F32.sigmoid a
  | 0x0D => F32.mul a (F32.sigmoid a)
  | 0x0E => F32.erf a
  | 0x0F => F32.fma p0 a (F32.mul p1 b)
  | 0x10 => if a.val.isZero then c else b
  | _ => a

/-- Lane operations of a function of ELEMWISE on one element (R471). -/
def elemOps (m : Nat) : Nat :=
  match m with
  | 0x07 => 0
  | 0x0D => 2 | 0x0F => 2 | 0x10 => 2
  | _ => 1

def elemRun (c : Ctx) : Effect :=
  let o := c.must 0
  let n := elemArity c.r.modifier
  let ins := (List.range n).map (· + 1)
  let ops := (List.range 3).map fun i => if i < n then ((c.must (i + 1)).ext, c.wide (i + 1)) else ([], #[])
  let arg := fun (k : Nat) (idx : List Nat) =>
    let x := ops.getD k ([], #[])
    pick x.2 (0 : F32) x.1 idx
  let rs := ((allIdx o.ext).map fun i =>
    elemFn c.r.modifier (c.r.pf 0) (c.r.pf 1) (arg 0 i) (arg 1 i) (arg 2 i)).toArray
  let nf := (ops.any fun x => anyNonFinite x.2)
    || (c.r.modifier == 0x0F && !((c.r.pf 0).finite && (c.r.pf 1).finite)) || anyNonFinite rs
  measured c 0 ins rs nf (patchWork c 0 ins (elemOps c.r.modifier))

/-- An input whose extents equal the output's or are 1 (R102). -/
def broadcasts (o i : Tensor) : Bool :=
  (List.range 6).all fun k => i.e k == o.e k || i.e k == 1

/-- ELEMWISE (R102). -/
def elemOp : Op :=
  { required := fun r => List.range (elemArity r.modifier + 1)
    form := fun r => r.modifier ≤ 0x10 && (r.modifier == 0x0F || (r.p 0 == 0 && r.p 1 == 0))
    params := [0, 1]
    shapes := fun c => (List.range (elemArity c.r.modifier)).map fun i =>
      (i + 1, broadcasts (c.must 0) (c.must (i + 1)))
    inPlace := fun _ i _ => i == 0
    run := elemRun }

def execElemwise (p g : Nat) (s : State) : Host.Outcome State Fault Refusal :=
  .next (issue 0x0020 (fun _ => true) elemOp p g s)

/-! ### REDUCE -/

/-- The reductions of R102 over one list, in the order of R48. -/
def reduceFn (m : Nat) (l : List F32) : F32 :=
  match m with
  | 0 => vsum l
  | 1 => vsumsq l
  | 2 => match l with | x :: r => r.foldl F32.max x | [] => 0
  | 3 => match l with | x :: r => r.foldl F32.min x | [] => 0
  | _ => match l.map fun x => F32.ofVal x.val.abs with | x :: r => r.foldl F32.max x | [] => 0

/-- The indices that reduce into one output index, in ascending logical index. -/
def reducedIdx (mask : Nat) (ext idx : List Nat) : List (List Nat) :=
  (allIdx (ext.zipIdx.map fun (e, k) => if mask.testBit k then e else 1)).map fun r =>
    List.zipWith (· + ·) r idx

def reduceRun (c : Ctx) : Effect :=
  let o := c.must 0
  let x := c.must 1
  let mask := c.r.p 0
  let a := c.wide 1
  let rs := ((allIdx o.ext).map fun i =>
    reduceFn c.r.modifier ((reducedIdx mask x.ext i).map fun j => (a[logical x.ext j]?).getD 0)).toArray
  let len := x.numel / max 1 o.numel
  let read := { c.elemCost [1] 0 1 false with stores := 0, ops := 1 }
  let write := c.elemCost [] 0 0 (counted o.fmt)
  measured c 0 [1] rs (anyNonFinite a || anyNonFinite rs)
    (if mask.testBit 0 then { units := rowUnits o.numel len, shape := .rows len o.numel read write }
      else { units := patches o, shape := .patch (o.e 0) (o.e 1) ((read.scale len).plus write) })

/-- REDUCE (R102). -/
def reduceOp : Op :=
  { required := fun _ => [0, 1]
    form := fun r => r.modifier ≤ 4 && r.p 0 % 64 != 0 && r.p 0 < 64
    params := [0]
    shapes := fun c =>
      [(0, (List.range 6).all fun k =>
        if (c.r.p 0).testBit k then (c.must 0).e k == 1 else (c.must 0).e k == (c.must 1).e k)]
    run := reduceRun }

def execReduce (p g : Nat) (s : State) : Host.Outcome State Fault Refusal :=
  .next (issue 0x0021 (fun _ => true) reduceOp p g s)

/-! ### STATS -/

/-- The largest finite value of a format at a scale. -/
def topValue (l : Layout) (k : Int) : Val := (l.decode l.maxCode).scale k

/-- The factor of one element and the layout it is held in; nothing where it reads as NaN. -/
def Tensor.factorAt (t : Tensor) (rd : Reader_) (idx : List Nat) : Layout × Int :=
  let o := t.offset idx
  let T : Int := t.headT rd
  match t.fmt with
  | .f8a | .f8g =>
    let w := readLe rd (t.wordAddr (t.swathOf idx)) 8
    (if w.testBit 17 then Fmt.f16.layout else t.fmt.layout, T - 127 + Tensor.adjustment w)
  | .f4b => (t.fmt.layout, ((rd (t.scaleBase + o / 32)).toNat : Int) - 127 + (T - 127))
  | .g16 => (t.fmt.layout, ((rd (t.scaleBase + o / 256)).toNat : Int) - 127)
  | _ => (t.fmt.layout, 0)

/-- STATS' event of one stored element (R81). -/
def statEvent (t : Tensor) (rd : Reader_) (idx : List Nat) (v : Val) : Event :=
  if v.nonFinite then .nonFinite
  else if v.isZero then .zero
  else if t.fmt = .carry8 then
    (let i := t.fmt.intOf (t.code rd (t.offset idx)); if i = 127 || i = -127 then .saturation else .normal)
  else if t.fmt.isInt then
    (let i := t.fmt.intOf (t.code rd (t.offset idx))
     let (lo, hi) := t.fmt.intRange
     if i = hi || i = lo then .saturation else .normal)
  else
    let (l, k) := t.factorAt rd idx
    if v.abs.cmp (topValue l k) == some .eq then .saturation else .normal

/-- The record of R81. -/
def statsRecord (c : Ctx) : Stat × Bool :=
  let t := c.must 0
  let idxs := allIdx t.ext
  let vs := idxs.map fun i => (i, t.valAt c.rd c.pool i)
  let wide := vs.map fun x => F32.ofVal x.2
  let counts := countEvents (vs.map fun x => statEvent t c.rd x.1 x.2)
  let words := if t.fmt.isF8 then (List.range t.nSwath).map fun n => readLe c.rd (t.wordAddr n) 8 else []
  let empty := t.isEmpty
  ({ ident := t.ident, opcode := c.r.opcode, format := t.fmt.code,
     step := c.step, index := c.index, counts := counts,
     rescaled := (words.filter fun w => w.testBit 16).length,
     fallbacks := (words.filter fun w => w.testBit 17).length,
     norms := [normOf wide],
     t := if t.fmt.isNarrow && !empty then t.headT c.rd else 0,
     emax := if t.fmt.isNarrow && !empty then t.headEmax c.rd else -32768 },
   wide.any (fun x => !x.finite) || !(normOf wide).1.finite)

def statsRun (c : Ctx) : Effect :=
  let (r, nf) := statsRecord c
  let bs := r.bytes
  { s := match c.t 1 with
      | some t => plainWrite c.s c.p (bs.zipIdx.map fun (b, i) => (t.addr + i, b))
      | none => c.s
    statuses := if nf then [0x22] else []
    records := [bs]
    lists := [[{ units := patches (c.must 0)
                 shape := .patch ((c.must 0).e 0) ((c.must 0).e 1) { c.elemCost [0] 1 2 false with ops := 2, stores := 0 } }]] }

/-- STATS (R81, R102). Its named tensor in D0 is an input and its output is D1. -/
def statsOp : Op :=
  { required := fun _ => [0]
    optional := fun _ => [1]
    carry := fun _ => [0]
    formats := fun c => [(1, !c.has 1 || (c.must 1).fmt == .u8)]
    shapes := fun c => [(1, !c.has 1 || (c.must 1).ext == [128, 1, 1, 1, 1, 1])]
    noop := fun _ => false
    run := statsRun }

def execStats (p g : Nat) (s : State) : Host.Outcome State Fault Refusal :=
  .next (issue 0x0039 (fun _ => true) statsOp p g s)

end Sys2Proof.Machine
end

