-- ==== Sys2Proof/Machine/Image.lean ====
section
/-! DEFINITION. Firmware: the boot checks, delta updates, the rollback floor, the restart of the main die
and the rescue of a device without firmware (R433 to R441). -/

namespace Sys2Proof.Machine
open Sys2Proof

def State.modFirmware (s : State) (f : Firmware → Firmware) : State := { s with firmware := f s.firmware }

def slotSize : Nat := 16777216

/-! ### Boot (R434, R435) -/

/-- Image length of a slot. -/
def Firmware.imageLength (f : Firmware) (n : Nat) : Nat := 512 + f.field n 0x10 8

/-- The first boot check that a slot fails. -/
def bootCheck (f : Firmware) (n : Nat) : Option Nat :=
  let bytes := fun (o k : Nat) => memBytes 0xFF (f.slot n) o k
  let zero := fun (o k : Nat) => (bytes o k).all (· == 0)
  let key := f.field n 0xE 1
  let form := f.field n 0 4 == 1 && zero 0xF 1 && zero 0x18 8 && zero 0x60 268 && zero 0x1F0 16
    && f.imageLength n ≤ slotSize
  let signed := match Config.signingKey key with
    | some pub => key < 4 && Crypto.verify pub (Crypto.sha512 (bytes 0 0x16C)) (bytes 0x16C 132)
    | none => false
  if !form then some 1
  else if f.field n 0xC 2 != 1 then some 2
  else if f.revoked.testBit key then some 3
  else if !signed then some 4
  else if Crypto.sha512 (bytes 0x200 (f.imageLength n - 512)) != bytes 0x20 64 then some 5
  else if f.field n 8 4 < f.floor then some 6
  else none

/-- Log a slot that failed a check. -/
def logBoot (s : State) (slot check : Nat) : State :=
  s.log { status := 0x63, cls := .device, unit := 0, detection := 7, outcome := 0
          detail := slot + 256 * check }

/-- The image of a slot runs. -/
def runSlot (s : State) (n result : Nat) : State :=
  let s := s.setObj 0x1007 0 (s.firmware.field n 4 4)
  { s with
    firmware := { s.firmware with
      running := some n, nextSlot := n, states := s.firmware.states.set n 2, lastResult := result }
    power := { s.power with firmware := true } }

def Firmware.invalid (f : Firmware) (n : Nat) : Firmware := { f with states := f.states.set n 3 }

/-- Boot ROM tries the next boot slot, then the other. With both invalid the main die stays in reset. -/
def boot (s : State) : State :=
  let s := s.modFirmware fun f => { f with bootCount := (f.bootCount + 1) % 2 ^ 32 }
  let n := s.firmware.nextSlot
  match bootCheck s.firmware n with
  | none => runSlot s n 0
  | some c =>
    let s := (logBoot s n c).modFirmware fun f => f.invalid n
    match bootCheck s.firmware (1 - n) with
    | none => runSlot s (1 - n) 0x63
    | some c =>
      let s := ((logBoot s (1 - n) c).modFirmware fun f =>
        { f.invalid (1 - n) with running := none, lastResult := 0x63 }).setObj 0x1007 0 0
      let s := s.resetMain
      { s with power := { s.power with absent := true } }

def execFirmwareBoot (s : State) : Host.Outcome State Fault Refusal :=
  .next (if s.power.running && !s.power.firmware then boot s else s)

/-! ### Delta updates (R437 to R439) -/

def Firmware.target (f : Firmware) : Nat := leField f.header 0x10 8
def Firmware.stream (f : Firmware) : Nat := leField f.header 0x18 8

/-- Change the slot that the update writes. -/
def Firmware.setInactive (f : Firmware) (m : Mem) : Firmware :=
  if f.inactive = 0 then { f with slotA := m } else { f with slotB := m }

def beginOk (f : Firmware) (b : List Byte) : Bool :=
  match f.running with
  | none => false
  | some n =>
    f.update == .idle && leField b 0 2 == 1 && leField b 4 4 == f.field n 4 4
      && sliceBytes b 0x20 64 == f.imageDigest n && leField b 0x10 8 ≤ slotSize

def updateBeginEffect (s : State) (r : Req) : Answer :=
  doneIf (beginOk s.firmware r.value) s (s.modFirmware fun f =>
    { f with
      update := .erasing, header := r.value, received := 0, carry := [], ended := false, written := 0
      states := f.states.set f.inactive 4 })

def execUpdateBegin (s : State) : Host.Outcome State Fault Refusal :=
  .next (serve .updateBegin updateBeginEffect s)

/-- Every sector to be written is erased. -/
def execUpdateEraseComplete (s : State) : Host.Outcome State Fault Refusal :=
  .next (if s.firmware.update = .erasing then
      s.modFirmware fun f =>
        { f.setInactive (memClear (f.slot f.inactive) 0 (65536 * ceilDiv f.target 65536)) with
          update := .receiving }
    else s)

/-- Program output bytes at the end of what has been written. -/
def Firmware.put (f : Firmware) (b : List Byte) : Firmware :=
  { f.setInactive (memWrites 0xFF (f.slot f.inactive) (placeAt f.written b)) with
    written := f.written + b.length }

/-- Decode whole records from the front of the stream bytes held; nothing where one is not allowed. -/
def decodeRecords : Nat → Firmware → Option Firmware
  | 0, f => some f
  | n + 1, f =>
    let c := f.carry
    let len := leField c 4 4
    if f.ended || c.length < 8 then some f
    else match leField c 0 1 with
      | 1 =>
        if c.length < 16 then some f
        else
          let o := leField c 8 8
          let run := f.running.getD 0
          if f.imageLength run < o + len || f.target < f.written + len then none
          else decodeRecords n ({ f with carry := c.drop 16 }.put (memBytes 0xFF (f.slot run) o len))
      | 2 =>
        let padded := (len + 7) / 8 * 8
        if f.target < f.written + len then none
        else if c.length < 8 + padded then some f
        else decodeRecords n ({ f with carry := c.drop (8 + padded) }.put ((c.drop 8).take len))
      | 3 => some { f with carry := c.drop 8, ended := true }
      | _ => none

/-- A chunk at the offset reached: its part of the stream is decoded. -/
def updateChunkEffect (s : State) (r : Req) : Answer :=
  let f := s.firmware
  let n := min 1024 (f.stream - f.received)
  if f.update != .receiving || leField r.value 0 8 != f.received || n = 0 then refuse s 4
  else
    let g := { f with received := f.received + n, carry := f.carry ++ (r.value.drop 8).take n }
    match decodeRecords (g.carry.length / 8 + 1) g with
    | some g => done (s.modFirmware fun _ => g)
    | none => { state := s.modFirmware fun f => f.abandon, result := 4 }

def execUpdateChunk (s : State) : Host.Outcome State Fault Refusal :=
  .next (serve .updateChunk updateChunkEffect s)

/-- The written slot is what the header asked for. -/
def finishOk (f : Firmware) : Bool :=
  (f.update == .receiving || f.update == .staged) && f.ended && f.written == f.target
    && Crypto.sha512 (memBytes 0xFF (f.slot f.inactive) 0 f.target) == sliceBytes f.header 0x60 64

def updateFinishEffect (s : State) (r : Req) : Answer :=
  if r.num = 0 then done s
  else if r.num != 1 then refuse s 4
  else if finishOk s.firmware then
    done (s.modFirmware fun f => { f with update := .staged, states := f.states.set f.inactive 1 })
  else if s.firmware.update == .idle then refuse s 4
  else { state := s.modFirmware fun f => f.abandon, result := 4 }

def execUpdateFinish (s : State) : Host.Outcome State Fault Refusal :=
  .next (serve .updateFinish updateFinishEffect s)

def updateActivateEffect (s : State) (r : Req) : Answer :=
  command s r (s.firmware.update == .staged)
    (s.modFirmware fun f => { f with nextSlot := f.inactive, update := .idle })

def execUpdateActivate (s : State) : Host.Outcome State Fault Refusal :=
  .next (serve .updateActivate updateActivateEffect s)

def updateAbortEffect (s : State) (r : Req) : Answer :=
  command s r true (if s.firmware.update == .idle then s else s.modFirmware fun f => f.abandon)

def execUpdateAbort (s : State) : Host.Outcome State Fault Refusal :=
  .next (serve .updateAbort updateAbortEffect s)

/-! ### Restart and rollback floor (R436, R440) -/

def restartEffect (s : State) (r : Req) : Answer :=
  command s r (s.noPaddock && s.bist.state != 1) s.resetMain.startMain

def execRestartMainDie (s : State) : Host.Outcome State Fault Refusal :=
  .next (serve .restartMainDie restartEffect s)

/-- The rollback index of the running image. Each write that raises the floor spends one of the 64 fuse steps (DEDUCED,
log entry 148). -/
def Firmware.rollback (f : Firmware) : Nat := match f.running with | some n => f.field n 8 4 | none => 0

def raiseFloorEffect (s : State) (r : Req) : Answer :=
  let f := s.firmware
  command s r (f.floor < f.rollback && f.lastResult != 0x63 && f.stepsLeft != 0)
    (s.modFirmware fun f => { f with floor := f.rollback, stepsLeft := f.stepsLeft - 1 })

def execRaiseRollbackFloor (s : State) : Host.Outcome State Fault Refusal :=
  .next (serve .raiseRollbackFloor raiseFloorEffect s)

/-! ### Rescue (R441) -/

/-- A chunk of a whole signed image, at rising offsets; slot A is erased at offset 0. -/
def rescueChunkEffect (s : State) (r : Req) : Answer :=
  let o := leField r.value 0 8
  let f := s.firmware
  doneIf ((o == 0 || o == f.rescued) && o + 1024 ≤ slotSize) s (s.modFirmware fun f =>
    { f with
      slotA := memWrites 0xFF (if o = 0 then [] else f.slotA) (placeAt o (sliceBytes r.value 8 1024))
      rescued := o + 1024, states := f.states.set 0 4 })

def execRescueChunk (s : State) : Host.Outcome State Fault Refusal :=
  .next (serve .rescueChunk rescueChunkEffect s)

/-- Slot A is the next boot slot, and the main die starts. -/
def rescueBootEffect (s : State) (r : Req) : Answer :=
  command s r true
    { s.modFirmware fun f => { f with nextSlot := 0, states := f.states.set 0 1, rescued := 0 } with
      power := { s.power with absent := false } }.startMain

def execRescueBoot (s : State) : Host.Outcome State Fault Refusal :=
  .next (serve .rescueBoot rescueBootEffect s)

end Sys2Proof.Machine
end

