-- ==== Sys2Proof/Machine/Kv.lean ====
section
/-! DEFINITION. KV_APPEND, KV_FORK and KV_FREE (R166 to R173). -/

namespace Sys2Proof.Machine
open Sys2Proof

/-! ### KV_APPEND (R167, R169) -/

/-- One page that an append writes: sequence, group, entry, and side (0 keys, 1 values). -/
structure PageJob where
  b : Nat
  sq : Seq
  g : Nat
  e : Nat
  side : Nat

/-- Positions of the new rows of a job: first and one past the last. -/
def PageJob.rows (j : PageJob) : Nat × Nat :=
  (max j.sq.k (128 * j.e), min (j.sq.k + j.sq.q) (128 * (j.e + 1)))

/-- Rows of the page that are held before the append. -/
def PageJob.held (j : PageJob) : Nat := min 128 (j.sq.k - 128 * j.e)

/-- The groups that an append writes. -/
def appendGroups (c : Ctx) : List Nat :=
  if c.r.p 1 = 0xFFFFFFFF then List.range ((c.must 1).e 2) else [c.r.p 1]

/-- The jobs in the order of step 3. -/
def appendJobs (c : Ctx) (seqs : List Seq) : List PageJob :=
  seqs.zipIdx.flatMap fun (sq, b) =>
    if sq.q = 0 then []
    else (appendGroups c).flatMap fun g =>
      (List.range (ceilDiv (sq.k + sq.q) 128 - sq.k / 128)).flatMap fun i =>
        [⟨b, sq, g, sq.k / 128 + i, 0⟩, ⟨b, sq, g, sq.k / 128 + i, 1⟩]

/-- The new row of a job at a position: every head slot of the group, +0 beyond the heads. -/
def newRow (c : Ctx) (kv : Array Val) (j : PageJob) (pos : Nat) : List Val :=
  let t := c.must (2 + j.side)
  let pool := c.must 0
  let d := t.e 0
  let tok := j.sq.qAt + (pos - j.sq.k)
  let G := headGroup pool d
  (List.range G).flatMap fun u =>
    let h := if c.r.p 1 = 0xFFFFFFFF then j.g * G + u else u
    if h < t.e 2 then tokenRow t kv tok h else List.replicate d Val.zero

/-- The tensor exponent of a page in the pool before the append, and whether it holds rows. -/
def pageT (c : Ctx) (n : Nat) : Int :=
  ((pageTensor (c.must 0) n).headT (pageReader c.rd (c.must 0) n) : Int) - 127

/-- The target exponent of a job (R167). -/
def targetOf (c : Ctx) (kv : Array Val) (j : PageJob) (page : Option Nat) : Int :=
  let pool := c.must 0
  match pool.source with
  | 0 => 0
  | 2 => (bitField pool.mode 15 8 : Int) - 127
  | _ =>
    let (lo, hi) := j.rows
    let m := maxFiniteMag ((List.range (hi - lo)).flatMap fun i => newRow c kv j (lo + i))
    let old : Option Int := match page with
      | some n => if 0 < j.held then some (pageT c n) else none
      | none => none
    let need := clampInt (-127) 127 (tNeed m pool.fmt false + pool.margin)
    match old with
    | some t => if m.isZero then t else max t need
    | none => if m.isZero then 0 else need

/-- The page an entry names, where it names one. -/
def namedPage (rd : Reader_) (table : Tensor) (pages i b g : Nat) : Option Nat :=
  let n := entryAt rd table i b g
  if n < pages then some n else none

/-- What one job makes of the state: the pool, the entries changed, and what it writes. -/
structure AppendState where
  pool : Pool
  s : State
  events : List Event
  bad : Bool

/-- Convert values into codes of a page at its exponent. -/
def pageCodes (f : Fmt) (t : Int) (l : List Val) : List (Nat × Event) :=
  let k : Int := if f.isF8 then t else 0
  l.map fun v => f.layout.convert (v.scale (-k)) .nearest

/-- Write rows of codes into a page. -/
def rowWrites (pool : Tensor) (n : Nat) (rows : List (Nat × List Nat)) : List (Nat × Byte) :=
  let b := pool.fmt.bits / 8
  rows.flatMap fun (r, cs) =>
    cs.zipIdx.flatMap fun (x, i) => placeAt (pageAddr pool.addr n + 256 * r + b * i) (leBytes b x)

/-- The record slot of a page: header and 8 swath words (R65, R66, R167). -/
def pageRecord (pool : Tensor) (n : Nat) (t : Int) (emax : Int) (marks : List Bool) : List (Nat × Byte) :=
  let a := slotAddr pool.addr (pool.e 2) n
  let nf := marks.any id
  let h := headerBytes { pageTensor pool n with mode := pool.mode } (t + 127).toNat (i16 emax) 0 0 nf
  placeAt a (h ++ marks.flatMap fun m => leBytes 8 (if m then 2 ^ 20 else 0))

/-- Swath of a page element: 4 in dimension 0, 2 in dimension 1. -/
def pageSwath (i row : Nat) : Nat := i / 64 + 4 * (row / 64)

/-- Run one job: take or copy the page as step 3 says, then write the new rows and the record. A copy whose target
differs re-rounds all 128 rows, and each element is counted once (R169); the record speaks of the rows held
(DEDUCED, log entry 120). -/
def appendJob (c : Ctx) (kv : Array Val) (a : AppendState) (j : PageJob) : AppendState :=
  let pool := c.must 0
  let table := c.must 1
  let rd := a.s.byteAt c.p
  let i := 2 * j.e + j.side
  let named := namedPage rd table (pool.e 2) i j.b j.g
  let target := targetOf c kv j (namedPage c.rd table (pool.e 2) i j.b j.g)
  let narrow := pool.fmt.isF8
  let oldT : Int := match named with
    | some n => ((pageTensor pool n).headT (pageReader rd pool n) : Int) - 127
    | none => target
  let differs := narrow && 0 < j.held && oldT != target && named.isSome
  let copy := match named with
    | some n => 1 < a.pool.countOf n || differs
    | none => true
  let got := if copy then a.pool.take else named.map fun n => (n, a.pool)
  match got with
  | none => a
  | some (n, pl) =>
    let pl := match named with | some o => if copy then pl.release o else pl | none => pl
    let src := match named with | some o => o | none => n
    let old := pageTensor pool src
    let oldRd := pageReader rd pool src
    let held := if named.isSome then j.held else 0
    let wide := pool.e 0
    let oldVals := fun (r : Nat) => (List.range wide).map fun x => old.valAt oldRd [] [x, r]
    let (lo, hi) := j.rows
    let rounded := if differs then
        ((List.range 128).filter fun r => r < lo % 128 || lo % 128 + (hi - lo) ≤ r).map fun r =>
          (r, pageCodes pool.fmt target (oldVals r))
      else []
    let fresh := (List.range (hi - lo)).map fun x =>
      let v := newRow c kv j (lo + x)
      ((lo + x) % 128, v, pageCodes pool.fmt target v)
    let copied := if copy && named.isSome then
        (List.range 32768).map fun x => (pageAddr pool.addr n + x, rd (pageAddr pool.addr src + x))
      else []
    let body := rowWrites pool n (fresh.map fun x => (x.1, x.2.2.map (·.1)))
      ++ rowWrites pool n (rounded.map fun x => (x.1, x.2.map (·.1))) ++ copied
    let scale : Int := if narrow then target else 0
    let emaxOf := fun (l : List (Nat × Event)) (e : Int) =>
      l.foldl (fun e x => maxExp e ((pool.fmt.layout.decode x.1).scale scale)) e
    let baseE : Int := if differs || held = 0 then -32768 else old.headEmax oldRd
    let emax := fresh.foldl (fun e x => emaxOf x.2.2 e) ((rounded.filter fun x => x.1 < held).foldl (fun e x => emaxOf x.2 e) baseE)
    let marks := (List.range 8).map fun w =>
      (0 < held && (readLe oldRd (old.wordAddr w) 8).testBit 20)
        || fresh.any fun x => x.2.1.zipIdx.any fun (v, k) => v.nonFinite && pageSwath k x.1 == w
    let record := if narrow then pageRecord pool n target emax marks else []
    let entry := placeAt (entryAddr table i j.b j.g) (leBytes 4 n)
    { pool := pl
      s := plainWrite a.s c.p (entry ++ record ++ body)
      events := a.events ++ (rounded.flatMap fun x => x.2.map (·.2))
        ++ fresh.flatMap fun x => x.2.2.map (·.2)
      bad := a.bad || (fresh.any fun x => x.2.1.any Val.nonFinite)
        || (differs && (List.range held).any fun r => (oldVals r).any Val.nonFinite) }

/-- Pages that step 2 counts for one job. -/
def needsPage (c : Ctx) (kv : Array Val) (pl : Pool) (j : PageJob) : Bool :=
  let pool := c.must 0
  match namedPage c.rd (c.must 1) (pool.e 2) (2 * j.e + j.side) j.b j.g with
  | none => true
  | some n =>
    1 < pl.countOf n
      || (pool.fmt.isF8 && 0 < j.held && pageT c n != targetOf c kv j (some n))

/-- Add each query length to its key length in the length table (step 5). -/
def bumpLengths (c : Ctx) (s : State) (seqs : List Seq) : State :=
  let t := c.must 4
  plainWrite s c.p (seqs.zipIdx.flatMap fun (sq, b) =>
    placeAt (t.addr + 4 * t.offset [1, b]) (leBytes 4 (sq.k + sq.q)))

def kvAppendRun (c : Ctx) : Effect :=
  let pool := c.must 0
  let keys := c.exact 2
  let vals := c.exact 3
  let kvOf := fun (j : PageJob) => if j.side = 0 then keys else vals
  let seqs := packSeqs 0 0 (lengthTable c.rd (c.must 4))
  let pl := openPool c.s c.p pool.addr (pool.e 2)
  let jobs := appendJobs c seqs
  if pl.free < (jobs.filter fun j => needsPage c (kvOf j) pl j).length then
    { s := storePool c.s c.p pl, statuses := [0x13] }
  else
    let a := jobs.foldl (fun a j => appendJob c (kvOf j) a j)
      { pool := pl, s := c.s, events := [], bad := false }
    let m := measuredSlot pool
    let s := bumpLengths c (storePool a.s c.p a.pool) seqs
    let s := if m then s.modPad c.p fun d =>
        (d.addObj 0x6406 0 1).addObj 0x6407 0 (skimBytes c [2, 3])
      else s
    { s := s
      statuses := if a.bad then [0x22] else []
      records := [Stat.bytes {
        ident := pool.ident, opcode := c.r.opcode, format := pool.fmt.code,
        step := c.step, index := c.index, counts := countEvents a.events }] }

/-- Lengths of an append: none negative, the new tokens within D2, the sums within the table (R169). -/
def appendFit (c : Ctx) : Bool :=
  let t := c.must 4
  let table := c.must 1
  !tableReadable t ||
    (let ls := lengthTable c.rd t
     ls.all (fun x => 0 ≤ x.1 && 0 ≤ x.2 && x.1.toNat + x.2.toNat ≤ 64 * table.e 0) &&
       (ls.map fun x => x.1.toNat).foldl (· + ·) 0 ≤ (c.must 2).e 1 && ls.length ≤ table.e 1)

/-- Heads of an append against its groups (R169). -/
def appendHeadsOk (c : Ctx) : Bool :=
  let table := c.must 1
  let t := c.must 2
  let G := headGroup (c.must 0) (t.e 0)
  if c.r.p 1 = 0xFFFFFFFF then t.e 2 ≤ table.e 2 * G else c.r.p 1 < table.e 2 && t.e 2 == G

/-- KV_APPEND (R169). -/
def kvAppendOp : Op :=
  { required := fun _ => [0, 1, 2, 3, 4]
    params := [0, 1]
    reads := fun _ => [0, 1, 4]
    noHeader := fun _ => [0]
    foot := fun c i =>
      if i = 0 then some (poolFoot ((c.must 0).e 2)) else if i = 1 then (c.t 1).map tableFoot else none
    relate := fun c =>
      [(0, [0], poolHeaderOk c (c.must 0)),
       (1, [0, 1], tableHeaderOk c (c.must 1) (c.must 0) ((c.must 2).e 0) 0
          && tableLayer c.rd (c.must 1) == c.r.p 0)]
    lengths := fun c => [(4, appendFit c)]
    formats := fun c =>
      [(0, attnIn (c.must 0).fmt && !(c.must 0).stochastic), (1, (c.must 1).fmt == .u32),
       (2, matrixOut (c.must 2).fmt), (3, matrixOut (c.must 3).fmt), (4, (c.must 4).fmt == .i32)]
    shapes := fun c =>
      [(0, poolShape (c.must 0) && headBytesOk (c.must 0) ((c.must 2).e 0)),
       (1, (c.must 1).rank == 3 && (c.must 1).e 0 % 2 == 0), (2, appendHeadsOk c && (c.must 2).ext.drop 3 == [1, 1, 1]),
       (3, (c.must 3).ext == (c.must 2).ext),
       (4, (c.must 4).e 0 == 2 && (c.must 4).ext.drop 2 == [1, 1, 1, 1])]
    run := kvAppendRun }

def execKvAppend (p g : Nat) (s : State) : Host.Outcome State Fault Refusal :=
  .next (issue 0x0012 (fun _ => true) kvAppendOp p g s)

/-! ### KV_FORK and KV_FREE (R170, R171) -/

/-- Every entry of a row of a table: entry index and group. -/
def rowEntries (t : Tensor) (n : Nat) : List (Nat × Nat) :=
  (List.range (t.e 2)).flatMap fun g => (List.range n).map fun i => (i, g)

/-- Release every page of a row: the pool after it, and the entries that become none (R171). -/
def releaseRow (rd : Reader_) (t : Tensor) (row : Nat) (pl : Pool) : Pool × List (Nat × Byte) :=
  (rowEntries t (t.e 0)).foldl (fun (a : Pool × List (Nat × Byte)) (i, g) =>
    match namedPage rd t pl.pages i row g with
    | none => a
    | some n => (a.1.release n, placeAt (entryAddr t i row g) (leBytes 4 0xFFFFFFFF) ++ a.2))
    (pl, [])

/-- The pool a table's header names, as its pages are found (R166; log entry 11). -/
def tablePages (c : Ctx) (slot : Nat) : Option Nat :=
  poolPages c.s c.p (tablePool c.rd (c.must slot))

/-- What R166 asks of a table's base and header where no pool descriptor stands beside it. -/
def tableAlone (c : Ctx) (slot : Nat) : Bool :=
  (c.must slot).addr % 256 == 0 && tablePool c.rd (c.must slot) % 32768 == 0
    && (tablePages c slot).isSome

def kvFreeRun (c : Ctx) : Effect :=
  let t := c.must 0
  match tablePages c 0 with
  | none => { s := c.s }
  | some n =>
    let pl := openPool c.s c.p (tablePool c.rd t) n
    let (pl, bs) := releaseRow c.rd t (c.r.p 0) pl
    if bs.isEmpty then { s := c.s } else { s := storePool (plainWrite c.s c.p bs) c.p pl }

/-- KV_FREE (R171). -/
def kvFreeOp : Op :=
  { required := fun _ => [0]
    params := [0]
    reads := fun _ => [0]
    foot := fun c i => if i = 0 then (c.t 0).map tableFoot else none
    relate := fun c => [(0, [0], tableAlone c 0)]
    formats := fun c => [(0, (c.must 0).fmt == .u32)]
    shapes := fun c =>
      [(0, (c.must 0).rank == 3 && (c.must 0).e 0 % 2 == 0 && c.r.p 0 < (c.must 0).e 1)]
    run := kvFreeRun }

def execKvFree (p g : Nat) (s : State) : Host.Outcome State Fault Refusal :=
  .next (issue 0x0014 (fun _ => true) kvFreeOp p g s)

def kvForkRun (c : Ctx) : Effect :=
  let child := c.must 0
  let parent := c.must 1
  match tablePages c 0 with
  | none => { s := c.s }
  | some np =>
    let pl := openPool c.s c.p (tablePool c.rd child) np
    let n := 2 * ceilDiv (c.r.p 2) 128
    let shared := (rowEntries parent n).filterMap fun (i, g) => namedPage c.rd parent np i (c.r.p 0) g
    if shared.any fun x => pl.countOf x == 65535 then
      { s := storePool c.s c.p pl, statuses := [0x02] }
    else
      let (pl, bs) := releaseRow c.rd child (c.r.p 1) pl
      let copies := (rowEntries parent n).flatMap fun (i, g) =>
        placeAt (entryAddr child i (c.r.p 1) g) (leBytes 4 (entryAt c.rd parent i (c.r.p 0) g))
      let pl := shared.foldl Pool.share pl
      { s := storePool (plainWrite c.s c.p (copies ++ bs)) c.p pl }

/-- KV_FORK (R170). -/
def kvForkOp : Op :=
  { required := fun _ => [0, 1]
    params := [0, 1, 2]
    reads := fun _ => [0]
    foot := fun c i => if i < 2 then (c.t i).map tableFoot else none
    relate := fun c =>
      [(0, [0], tableAlone c 0 && !(c.r.slot 0 == c.r.slot 1 && c.r.p 0 == c.r.p 1)),
       (1, [0, 1], tableAlone c 1 && tablePool c.rd (c.must 0) == tablePool c.rd (c.must 1))]
    lengths := fun c => [(0, c.r.p 2 ≤ 64 * (c.must 0).e 0)]
    formats := fun c => [(0, (c.must 0).fmt == .u32), (1, (c.must 1).fmt == .u32)]
    shapes := fun c =>
      let t := c.must 0
      [(0, t.rank == 3 && t.e 0 % 2 == 0 && c.r.p 1 < t.e 1),
       (1, (c.must 1).ext == t.ext && c.r.p 0 < t.e 1)]
    inPlace := fun _ _ j => j == 1
    run := kvForkRun }

def execKvFork (p g : Nat) (s : State) : Host.Outcome State Fault Refusal :=
  .next (issue 0x0013 (fun _ => true) kvForkOp p g s)

end Sys2Proof.Machine
end

