-- ==== Sys2Proof/Machine/Norm.lean ====
section
/-! DEFINITION. Normalisation and softmax, forward and backward, row by row (R104, R147 to R150). -/

namespace Sys2Proof.Machine
open Sys2Proof

/-- A row's results and whether any value it read or formed is NaN or an infinity (R45). -/
abbrev RowOut := List F32 × Bool

def bad (l : List F32) : Bool := l.any fun x => !x.finite

/-- Element `i` of a row operand, where the operand is present. -/
def gainAt (g : Array F32) (i : Nat) : F32 := (g[i]?).getD 0

/-- The values that R147 forms of one input row. -/
structure NormRow where
  mu : F32
  r : F32
  xh : List F32
  bad : Bool

/-- The row statistics and normalised row of R147. -/
def normRow (rms : Bool) (eps : F32) (x : List F32) : NormRow :=
  let fn := F32.ofNat x.length
  let sum := vsum x
  let mu := if rms then 0 else F32.div sum fn
  let d := if rms then x else x.map fun v => F32.sub v mu
  let sq := vsumsq d
  let var := F32.add (F32.div sq fn) eps
  let root := F32.sqrt var
  let r := F32.div F32.one root
  let xh := d.map fun v => F32.mul v r
  { mu := mu, r := r, xh := xh
    bad := bad x || bad d || bad xh || bad [sq, var, root, r, mu, eps] || (!rms && !sum.finite) }

/-- The output row of NORM_FWD. -/
def normOut (row : NormRow) (g b : Option (Array F32)) : RowOut :=
  let y := row.xh.zipIdx.map fun (x, i) =>
    match g, b with
    | some g, some b => F32.fma x (gainAt g i) (gainAt b i)
    | some g, none => F32.mul x (gainAt g i)
    | none, some b => F32.add x (gainAt b i)
    | none, none => x
  (y, row.bad || bad y)

/-- The d-input row of NORM_BWD (R148). -/
def normBack (rms : Bool) (row : NormRow) (dy : List F32) (g : Option (Array F32)) : RowOut :=
  let fn := F32.ofNat dy.length
  let gh := dy.zipIdx.map fun (v, i) => match g with | some g => F32.mul v (gainAt g i) | none => v
  let sum := vsum gh
  let a := if rms then 0 else F32.div sum fn
  let q := List.zipWith F32.mul gh row.xh
  let qs := vsum q
  let cc := F32.div qs fn
  let t := row.xh.map fun x => F32.mul x cc
  let gs := if rms then gh else gh.map fun v => F32.sub v a
  let u := List.zipWith F32.sub gs t
  let dx := u.map fun v => F32.mul row.r v
  (dx, row.bad || bad dy || bad gh || bad q || bad t || bad gs || bad u || bad dx || bad [a, qs, cc]
    || (!rms && !sum.finite))

/-- The row of softmax (R150) over the first `len` elements: its values and the flag. -/
def softRow (s : F32) (x : List F32) : RowOut :=
  let z := x.map fun v => F32.mul v s
  match z with
  | [] => ([], false)
  | z0 :: zs =>
    let mx := zs.foldl F32.max z0
    let t := z.map fun v => F32.sub v mx
    let e := t.map F32.exp
    let den := vsum e
    let y := e.map fun v => F32.div v den
    (y, bad (s :: x) || bad z || bad t || bad (den :: e) || bad y)

/-- The d-input row of SOFTMAX_BWD. -/
def softBack (s : F32) (y : RowOut) (dy : List F32) : RowOut :=
  if dy.isEmpty then ([], false)
  else
    let q := List.zipWith F32.mul dy y.1
    let sd := vsum q
    let u := dy.map fun v => F32.sub v sd
    let v := List.zipWith F32.mul y.1 u
    let dx := v.map fun w => F32.mul s w
    (dx, y.2 || bad dy || bad q || bad u || bad v || bad dx || !sd.finite)

/-- The rows of a tensor: the elements of dimension 0 at each higher index, ascending. -/
def rowsOf (t : Tensor) (a : Array F32) : List (List F32) :=
  let n := t.e 0
  (List.range (t.numel / max 1 n)).map fun r => (List.range n).map fun i => (a[r * n + i]?).getD 0

def rowCount (t : Tensor) : Nat := t.numel / max 1 (t.e 0)

/-- Work over the rows of an output: `ops` lane operations on each element and `more` on each row, in so many passes
(R121, R471). -/
def rowWork (c : Ctx) (ins : List Nat) (ops more passes : Nat) : Work :=
  let o := c.must 0
  let e := c.elemCost (ins.filter c.has) 0 ops (counted o.fmt)
  let k := rowReads (o.e 0) passes
  { units := rowUnits (rowCount o) (o.e 0)
    shape := .rows (o.e 0) (rowCount o) { e with loads := k * e.loads, cxl := k * e.cxl } { ops := more } }

/-- Lane operations of R147 on one element up to the normalised row, and on one row. -/
def normOps (rms : Bool) : Nat := if rms then 2 else 4
def normRowOps (rms : Bool) : Nat := if rms then 4 else 5

/-- Pad a row's results with +0 to `n` elements. -/
def padRow (n : Nat) (l : List F32) : List F32 := l ++ List.replicate (n - l.length) 0

/-! ### NORM_FWD and NORM_BWD -/

def optWide (c : Ctx) (i : Nat) : Option (Array F32) := if c.has i then some (c.wide i) else none

def optBad (a : Option (Array F32)) : Bool := match a with | some x => anyNonFinite x | none => false

/-- A rank 1 operand of the row's extent, where it is present. -/
def rowVector (c : Ctx) (i n : Nat) : Bool := !c.has i || ((c.must i).rank == 1 && (c.must i).e 0 == n)

def normFwdRun (c : Ctx) : Effect :=
  let o := c.must 0
  let x := c.spread o 1
  let g := optWide c 2
  let b := optWide c 3
  let rows := (rowsOf o x).map fun r => normOut (normRow (c.r.modifier == 1) (c.r.pf 0) r) g b
  measured c 0 [1, 2, 3] (rows.flatMap (·.1)).toArray
    (rows.any (·.2) || optBad g || optBad b)
    (rowWork c [1, 2, 3] (normOps (c.r.modifier == 1) + if c.has 2 || c.has 3 then 1 else 0) (normRowOps (c.r.modifier == 1))
      (if c.r.modifier == 1 then 2 else 3))

/-- NORM_FWD (R147). -/
def normFwdOp : Op :=
  { required := fun _ => [0, 1]
    optional := fun _ => [2, 3]
    form := fun r => r.modifier < 2
    params := [0]
    shapes := fun c =>
      [(1, batchFits (c.must 0) (c.must 1)), (2, rowVector c 2 ((c.must 0).e 0)),
       (3, rowVector c 3 ((c.must 0).e 0))]
    run := normFwdRun }

def execNormFwd (p g : Nat) (s : State) : Host.Outcome State Fault Refusal :=
  .next (issue 0x0018 (fun _ => true) normFwdOp p g s)

/-- A feature gradient: for each feature the vsum over the rows (R149). -/
def featureSum (n : Nat) (rows : List (List F32)) : List F32 :=
  (List.range n).map fun i => vsum (rows.map fun r => r.getD i 0)

/-- The second phase of NORM_BWD: each feature's sums over the rows, with the stored mu and r read again (R149). -/
def featureWork (c : Ctx) (rms : Bool) (rows : Nat) : Work :=
  let n := (c.must 0).e 0
  let read := c.elemCost [3, 4] 0 0 false
  let ops := (if c.has 1 then (if rms then 3 else 4) else 0) + if c.has 2 then 1 else 0
  let outs := ([1, 2].filter c.has).map fun i => c.elemCost [] i 0 (counted (c.must i).fmt)
  { units := ceilDiv n 256
    shape := .patch n 1 (Cost.sum ({ read with loads := rows * read.loads + rows / 4, cxl := rows * read.cxl
                                               ops := rows * ops, stores := 0 } :: outs)) }

def normBwdRun (c : Ctx) : Effect :=
  let o := c.must 0
  let n := o.e 0
  let dys := rowsOf o (c.spread o 3)
  let g := optWide c 5
  let rms := c.r.modifier == 1
  let rows := (rowsOf o (c.spread o 4)).map fun r => normRow rms (c.r.pf 0) r
  let dx := List.zipWith (fun r dy => normBack rms r dy g) rows dys
  let prods := List.zipWith (fun (r : NormRow) dy => List.zipWith F32.mul dy r.xh) rows dys
  let dg := if c.has 1 then featureSum n prods else []
  let db := if c.has 2 then featureSum n dys else []
  let put := fun (pool : List Fallback) (i : Nat) (l : List F32) =>
    ({ t := c.must i, w := writeOut (c.must i) (c.outSpec .measured) l.toArray pool } : Outlet)
  let o0 := put c.pool 0 (dx.flatMap (·.1))
  let o1 := if c.has 1 then [put o0.w.pool 1 dg] else []
  let pool := match o1.getLast? with | some x => x.w.pool | none => o0.w.pool
  let o2 := if c.has 2 then [put pool 2 db] else []
  let m0 := measuredSlot o
  let mf := (c.has 1 && measuredSlot (c.must 1)) || (c.has 2 && measuredSlot (c.must 2))
  let row := rowWork c [3, 4, 5] (normOps rms + (if c.has 5 then 1 else 0) + if rms then 5 else 7)
    (normRowOps rms + if rms then 1 else 2) (if rms then 4 else 5)
  let phases := phasesOf m0 row ++ if c.has 1 || c.has 2 then phasesOf mf (featureWork c rms rows.length) else []
  outEffect c (o0 :: o1 ++ o2) (if m0 || mf then some (skimBytes c [3, 4, 5]) else none)
    (dx.any (·.2) || optBad g || (c.has 1 && prods.any bad) || bad dg || bad db) [phases]

/-- NORM_BWD (R148, R149); its row-statistics area takes 8 bytes per row. -/
def normBwdOp : Op :=
  { required := fun _ => [0, 3, 4]
    optional := fun _ => [1, 2, 5]
    form := fun r => r.modifier < 2
    params := [0]
    shapes := fun c =>
      let n := (c.must 0).e 0
      [(1, rowVector c 1 n), (2, rowVector c 2 n), (3, batchFits (c.must 0) (c.must 3)),
       (4, batchFits (c.must 0) (c.must 4)), (5, rowVector c 5 n)]
    area := fun c =>
      if c.has 1 || c.has 2 then ceilDiv (8 * rowCount (c.must 0)) 32768 else 0
    run := normBwdRun }

def execNormBwd (p g : Nat) (s : State) : Host.Outcome State Fault Refusal :=
  .next (issue 0x0019 (fun _ => true) normBwdOp p g s)

/-! ### SOFTMAX_FWD and SOFTMAX_BWD -/

/-- The lengths of the rows of the output, clamped (R150). -/
def rowLengths (c : Ctx) (slot : Nat) : List Nat :=
  let o := c.must 0
  let rows := (allIdx (1 :: o.ext.drop 1))
  if c.has slot then
    let t := c.must slot
    rows.map fun i =>
      let idx := List.zipWith (fun e j => if e = 1 then 0 else j) t.ext i
      let v := Fmt.i32.intOf (t.code c.rd (t.offset idx))
      min (o.e 0) v.toNat
  else rows.map fun _ => o.e 0

/-- The rule of R104 for a row-length operand. -/
def lengthsOk (c : Ctx) (slot : Nat) : Bool :=
  !c.has slot || ((c.must slot).e 0 == 1 && (List.range 5).all fun k =>
    (c.must slot).e (k + 1) == (c.must 0).e (k + 1) || (c.must slot).e (k + 1) == 1)

/-- Work over rows of these lengths: positions beyond a row's length are written and no more (R150, R471). -/
def softWork (c : Ctx) (ins : List Nat) (ops passes : Nat) (lens : List Nat) : Work :=
  let o := c.must 0
  let read := { c.elemCost ins 0 0 false with stores := 0, ops := ops }
  let k := rowReads (o.e 0) passes
  let write := (c.elemCost [] 0 0 (counted o.fmt)).scale (o.e 0)
  let rows := lens.map fun l =>
    let e := read.scale l
    ({ e with loads := k * e.loads, cxl := k * e.cxl } : Cost).plus write
  let n := rowUnits rows.length (o.e 0)
  let g := if 4096 < o.e 0 then 1 else 16
  { units := n, shape := .listed ((List.range n).map fun i => Cost.sum ((rows.drop (g * i)).take g)) }

def softFwdRun (c : Ctx) : Effect :=
  let o := c.must 0
  let rows := List.zipWith (fun r l => softRow (c.r.pf 0) (r.take l)) (rowsOf o (c.spread o 1))
    (rowLengths c 2)
  measured c 0 [1, 2] (rows.flatMap fun r => padRow (o.e 0) r.1).toArray (rows.any (·.2))
    (softWork c [1] 6 3 (rowLengths c 2))

/-- SOFTMAX_FWD (R150). -/
def softmaxFwdOp : Op :=
  { required := fun _ => [0, 1]
    optional := fun _ => [2]
    params := [0]
    formats := fun c => [(2, !c.has 2 || (c.must 2).fmt == .i32)]
    shapes := fun c => [(1, batchFits (c.must 0) (c.must 1)), (2, lengthsOk c 2)]
    run := softFwdRun }

def execSoftmaxFwd (p g : Nat) (s : State) : Host.Outcome State Fault Refusal :=
  .next (issue 0x001A (fun _ => true) softmaxFwdOp p g s)

def softBwdRun (c : Ctx) : Effect :=
  let o := c.must 0
  let ls := rowLengths c 3
  let ys := List.zipWith (fun r l => softRow (c.r.pf 0) (r.take l)) (rowsOf o (c.spread o 2)) ls
  let dys := List.zipWith (fun (r : List F32) (l : Nat) => r.take l) (rowsOf o (c.spread o 1)) ls
  let rows := List.zipWith (softBack (c.r.pf 0)) ys dys
  measured c 0 [1, 2, 3] (rows.flatMap fun r => padRow (o.e 0) r.1).toArray (rows.any (·.2))
    (softWork c [1, 2] 11 5 ls)

/-- SOFTMAX_BWD (R150). -/
def softmaxBwdOp : Op :=
  { required := fun _ => [0, 1, 2]
    optional := fun _ => [3]
    params := [0]
    formats := fun c => [(3, !c.has 3 || (c.must 3).fmt == .i32)]
    shapes := fun c =>
      [(1, batchFits (c.must 0) (c.must 1)), (2, batchFits (c.must 0) (c.must 2)),
       (3, lengthsOk c 3)]
    run := softBwdRun }

def execSoftmaxBwd (p g : Nat) (s : State) : Host.Outcome State Fault Refusal :=
  .next (issue 0x001B (fun _ => true) softmaxBwdOp p g s)

end Sys2Proof.Machine
end

