-- ==== Sys2Proof/Machine/Update.lean ====
section
/-! DEFINITION. UPDATE: the optimizer step on split master weights with a carry (R75, R76, R78, R79,
R106). -/

namespace Sys2Proof.Machine
open Sys2Proof

/-- What the optimizer arithmetic gives for one element: the moments, δ, and every value formed. -/
structure OptOut where
  m1 : F32
  m2 : F32
  delta : F32
  formed : List F32

/-- The arithmetic of R106. -/
def optimize (r : Rec) (x grad m1 m2 : F32) : OptOut :=
  let g := F32.mul grad (r.pf 9)
  if r.modifier = 0 then
    let m1' := F32.fma (r.pf 1) m1 g
    let w := F32.fma (r.pf 6) x m1'
    let d := F32.mul (r.pf 0) w
    { m1 := m1', m2 := 0, delta := d, formed := [x, grad, m1, g, m1', w, d] }
  else
    let pg := F32.mul (r.pf 2) g
    let m1' := F32.fma (r.pf 1) m1 pg
    let gg := F32.mul g g
    let pgg := F32.mul (r.pf 4) gg
    let m2' := F32.fma (r.pf 3) m2 pgg
    let a := F32.mul m1' (r.pf 7)
    let b := F32.mul m2' (r.pf 8)
    let sq := F32.sqrt b
    let den := F32.add sq (r.pf 5)
    let d := F32.div a den
    let w := F32.fma (r.pf 6) x d
    let dl := F32.mul (r.pf 0) w
    { m1 := m1', m2 := m2', delta := dl
      formed := [x, grad, m1, m2, g, pg, m1', gg, pgg, m2', a, b, sq, den, d, w, dl] }

/-- The new master and residual of one element (R76); nothing where the element is kept. -/
def newMaster (x : F32) (c : Val) (delta : F32) : Option (F32 × Val) :=
  let s := (x.val.add c).add delta.val
  if s.nonFinite then none
  else
    let xn : F32 :=
      if s.isZero then
        (if x == 0x80000000#32 && delta == 0x80000000#32 && c.isZero then 0x80000000#32 else 0)
      else F32.ofVal s
    if xn.finite then some (xn, s.add xn.val.neg) else none

/-- `rn_int` of a value times `2^-k`, clamped. -/
def carryCode (v : Val) (k : Int) : Int :=
  match v.scale (-k) with
  | .fin s m e => clampInt (-127) 127 (roundInt s m e)
  | _ => 0

/-- Re-encode one carry group (R76): nothing where every element is kept. `els` holds, per element, its
residual where it is not kept, and its old carry value. -/
def encodeCarry (els : List (Option Val × Val)) : Option (Nat × List Int) :=
  let rs := els.filterMap (·.1)
  if rs.isEmpty then none
  else
    let k : Int := match (rs.filterMap Val.expo) with
      | [] => 0
      | e :: es => clampInt (-127) 127 (es.foldl max e - 6)
    some ((k + 127).toNat, els.map fun x => match x.1 with
      | some r => carryCode r k
      | none => carryCode x.2 k)

/-- One element of an UPDATE. -/
structure Elem_ where
  idx : List Nat
  old : F32
  new : Option (F32 × Val)
  carry : Val
  opt : OptOut
  grad : F32

def masterAt (c : Ctx) (idx : List Nat) : F32 :=
  let h := (c.must 0).code c.rd ((c.must 0).offset idx)
  let l := (c.must 1).code c.rd ((c.must 1).offset idx)
  BitVec.ofNat 32 (h * 65536 + l)

def elemAt (c : Ctx) (idx : List Nat) : Elem_ :=
  let read := fun (i : Nat) =>
    if c.has i then F32.ofVal ((c.must i).valAt c.rd c.pool idx) else 0
  let x := masterAt c idx
  let cv := (c.must 2).valAt c.rd c.pool idx
  let grad := read 3
  let o := optimize c.r x grad (read 4) (read 5)
  { idx := idx, old := x, new := newMaster x cv o.delta, carry := cv, opt := o, grad := grad }

def Elem_.master (e : Elem_) : F32 := match e.new with | some x => x.1 | none => e.old

/-- The bytes of a carry group that changes. -/
def carryBytes (t : Tensor) (k : Nat) (rest : List Nat) (els : List Elem_) : List (Nat × Byte) :=
  match encodeCarry (els.map fun e => (e.new.map (·.2), e.carry)) with
  | none => []
  | some (s, qs) =>
    let o := t.offset ((256 * k) :: rest)
    (List.range 256).flatMap (fun i => placeAt (t.addr + o + i) (leBytes 1 (Fmt.i8.intCode (qs.getD i 0))))
      ++ [(t.scaleBase + o / 256, BitVec.ofNat 8 s)]

/-- Work of UPDATE: the operations of R106 on each element, and the conversions of its moments (R471). -/
def updateWork (c : Ctx) : Work :=
  let o := c.must 0
  let ms := [4, 5].filter c.has
  let outs := (([0, 1, 2] ++ ms).map c.bitsOf).foldl (· + ·) 0
  let narrow := (ms.filter fun i => (c.must i).fmt != .f32).length
  let e := c.elemCost ([0, 1, 2, 3] ++ ms) 0 0 false
  { units := patches o
    shape := .patch (o.e 0) (o.e 1)
      { e with ops := (if c.r.modifier = 0 then 4 else 13) + narrow, stores := outs, counted := narrow } }

def updateRun (c : Ctx) : Effect :=
  let o := c.must 0
  let els := ((allIdx o.ext).map (elemAt c)).toArray
  let list := els.toList
  let sp := c.outSpec .measured
  let m1 := writePlain (c.must 4) sp (els.map fun e => e.opt.m1.val) c.pool
  let m2 := if c.has 5 then (writePlain (c.must 5) sp (els.map fun e => e.opt.m2.val) c.pool)
    else Written.none c.pool
  let masters := list.flatMap fun e =>
    let x := e.master.toNat
    codeBytes o (o.offset e.idx) (x / 65536)
      ++ codeBytes (c.must 1) ((c.must 1).offset e.idx) (x % 65536)
  let carry := (groups (c.must 2) 256).flatMap fun (k, rest) =>
    carryBytes (c.must 2) k rest ((groupIdx (c.must 2) 256 k rest).filterMap fun i =>
      els[logical o.ext i]?)
  let kept := (list.filter fun e => e.new.isNone).length
  let counts := countEvents (m1.events ++ m2.events)
  let norms := [normOf (list.map Elem_.master), normOf (list.map (·.grad)),
    normOf (list.map fun e => F32.ofVal (e.master.val.add e.old.val.neg))]
  let r : Stat :=
    { ident := o.ident, opcode := c.r.opcode, format := 3, step := c.step,
      index := c.index, counts := { counts with nonFinite := counts.nonFinite + kept }, norms := norms }
  let bs := r.bytes
  let stats := match c.t 6 with
    | some t => bs.zipIdx.map fun (b, i) => (t.addr + i, b)
    | none => []
  let nf := 0 < kept || (list.any fun e => (e.opt.formed.any fun x => !x.finite) || e.carry.nonFinite)
    || norms.any fun n => !(n.1.finite && n.2.finite)
  { s := plainWrite c.s c.p (masters ++ carry ++ m1.bytes ++ m2.bytes ++ stats)
    statuses := if nf then [0x22] else []
    records := [bs]
    lists := [[updateWork c]] }

/-- UPDATE (R76, R106). -/
def updateOp : Op :=
  { required := fun r => if r.modifier = 0 then [0, 1, 2, 3, 4] else [0, 1, 2, 3, 4, 5]
    optional := fun _ => [6]
    form := fun r => r.modifier < 2
    params := [0, 1, 2, 3, 4, 5, 6, 7, 8, 9]
    reads := fun _ => [0, 1, 2, 4, 5]
    carry := fun _ => [2]
    formats := fun c =>
      let moment := fun (i : Nat) => (c.must i).fmt == .f32 || (c.must i).fmt == .bf16
      [(0, (c.must 0).fmt == .bf16 && !(c.must 0).stochastic), (1, (c.must 1).fmt == .u16),
       (2, (c.must 2).fmt == .carry8),
       (3, [Fmt.f32, .bf16, .f8g, .g16].contains (c.must 3).fmt), (4, moment 4),
       (5, !c.has 5 || moment 5), (6, !c.has 6 || (c.must 6).fmt == .u8)]
    shapes := fun c =>
      ((List.range 5).map fun i => (i + 1, !c.has (i + 1) || (c.must (i + 1)).ext == (c.must 0).ext))
        ++ [(6, !c.has 6 || (c.must 6).ext == [128, 1, 1, 1, 1, 1])]
    run := updateRun }

def execUpdate (p g : Nat) (s : State) : Host.Outcome State Fault Refusal :=
  .next (issue 0x0038 (fun _ => true) updateOp p g s)

end Sys2Proof.Machine
end

