-- ==== Sys2Proof/Machine/Dispatch.lean ====
section
/-! DEFINITION. One arm per command: its meaning, or its refusal by name. -/

namespace Sys2Proof.Machine
open Sys2Proof

/-- The effect of a command on everything but the queue. -/
def exec (i : Instr) (s : State) : Host.Outcome State Fault Refusal :=
  match i with
  | .move p g => Sys2Proof.Machine.execMove p g s
  | .fill p g => Sys2Proof.Machine.execFill p g s
  | .elemwise p g => Sys2Proof.Machine.execElemwise p g s
  | .reduce p g => Sys2Proof.Machine.execReduce p g s
  | .rotary p g => Sys2Proof.Machine.execRotary p g s
  | .stats p g => Sys2Proof.Machine.execStats p g s
  | .matmul p g => Sys2Proof.Machine.execMatmul p g s
  | .matmulGrad p g => Sys2Proof.Machine.execMatmulGrad p g s
  | .conv p g => Sys2Proof.Machine.execConv p g s
  | .convGrad p g => Sys2Proof.Machine.execConvGrad p g s
  | .edgeConv p g => Sys2Proof.Machine.execEdgeConv p g s
  | .pool p g => Sys2Proof.Machine.execPool p g s
  | .attnFwd p g => Sys2Proof.Machine.execAttnFwd p g s
  | .attnBwd p g => Sys2Proof.Machine.execAttnBwd p g s
  | .kvAppend p g => Sys2Proof.Machine.execKvAppend p g s
  | .kvFork p g => Sys2Proof.Machine.execKvFork p g s
  | .kvFree p g => Sys2Proof.Machine.execKvFree p g s
  | .normFwd p g => Sys2Proof.Machine.execNormFwd p g s
  | .normBwd p g => Sys2Proof.Machine.execNormBwd p g s
  | .softmaxFwd p g => Sys2Proof.Machine.execSoftmaxFwd p g s
  | .softmaxBwd p g => Sys2Proof.Machine.execSoftmaxBwd p g s
  | .compact p g => Sys2Proof.Machine.execCompact p g s
  | .codebookLoad p g => Sys2Proof.Machine.execCodebookLoad p g s
  | .expand p g => Sys2Proof.Machine.execExpand p g s
  | .collectAllReduce p g => Sys2Proof.Machine.execCollectAllReduce p g s
  | .collectReduceScatter p g => Sys2Proof.Machine.execCollectReduceScatter p g s
  | .collectAllGather p g => Sys2Proof.Machine.execCollectAllGather p g s
  | .collectBroadcast p g => Sys2Proof.Machine.execCollectBroadcast p g s
  | .collectSend p g => Sys2Proof.Machine.execCollectSend p g s
  | .collectReceive p g => Sys2Proof.Machine.execCollectReceive p g s
  | .dispatch p g => Sys2Proof.Machine.execDispatch p g s
  | .combine p g => Sys2Proof.Machine.execCombine p g s
  | .update p g => Sys2Proof.Machine.execUpdate p g s
  | .decodeBatch p g => Sys2Proof.Machine.execDecodeBatch p g s
  | .tokenize p g => Sys2Proof.Machine.execTokenize p g s
  | .dictionaryImageLoad p g => Sys2Proof.Machine.execDictionaryImageLoad p g s
  | .boxdecode p g => Sys2Proof.Machine.execBoxdecode p g s
  | .suppress p g => Sys2Proof.Machine.execSuppress p g s
  | .barrier p g => Sys2Proof.Machine.execBarrier p g s
  | .stepCommit p g => Sys2Proof.Machine.execStepCommit p g s
  | .wait p g => Sys2Proof.Machine.execWait p g s
  | .signal p g => Sys2Proof.Machine.execSignal p g s
  | .signalDeferredAdd p g => Sys2Proof.Machine.execSignalDeferredAdd p g s
  | .programMessage q payload => Sys2Proof.Machine.execProgramMessage q payload s
  | .instructionComplete p n => Sys2Proof.Machine.execInstructionComplete p n s
  | .programEnd p g => Sys2Proof.Machine.execProgramEnd p g s
  | .waitTimeout p g => Sys2Proof.Machine.execWaitTimeout p g s
  | .workRequest strip plot => Sys2Proof.Machine.execWorkRequest strip plot s
  | .phaseBarrier p n => Sys2Proof.Machine.execPhaseBarrier p n s
  | .rdmaWrite q rkey addr data => Sys2Proof.Machine.execRdmaWrite q rkey addr data s
  | .rdmaRead q rkey addr len => Sys2Proof.Machine.execRdmaRead q rkey addr len s
  | .unsupportedRoceRequest q => Sys2Proof.Machine.execUnsupportedRoceRequest q s
  | .roceAckTimeout q => Sys2Proof.Machine.execRoceAckTimeout q s
  | .rnrNak q => Sys2Proof.Machine.execRnrNak q s
  | .cnpReceived q => Sys2Proof.Machine.execCnpReceived q s
  | .ecnRateRise q => Sys2Proof.Machine.execEcnRateRise q s
  | .pfcPause port pauses => Sys2Proof.Machine.execPfcPause port pauses s
  | .logicalPortDown port => Sys2Proof.Machine.execLogicalPortDown port s
  | .fabricCarriageReceived q header payload => Sys2Proof.Machine.execFabricCarriageReceived q header payload s
  | .ptpEventMessage port domain message => Sys2Proof.Machine.execPtpEventMessage port domain message s
  | .linkMessage link codewords badKind header payload => Sys2Proof.Machine.execLinkMessage link codewords badKind header payload s
  | .abort link header => Sys2Proof.Machine.execAbort link header s
  | .linkControl link header => Sys2Proof.Machine.execLinkControl link header s
  | .nak link header => Sys2Proof.Machine.execNak link header s
  | .replayPrbsCheck link errors => Sys2Proof.Machine.execReplayPrbsCheck link errors s
  | .linkAckTimeout link => Sys2Proof.Machine.execLinkAckTimeout link s
  | .linkIdentity link message => Sys2Proof.Machine.execLinkIdentity link message s
  | .linkTrainingComplete link => Sys2Proof.Machine.execLinkTrainingComplete link s
  | .lanePrbsTestEnd link errors => Sys2Proof.Machine.execLanePrbsTestEnd link errors s
  | .bypassReleaseRequest link header => Sys2Proof.Machine.execBypassReleaseRequest link header s
  | .bypassReleaseGrant link header => Sys2Proof.Machine.execBypassReleaseGrant link header s
  | .timeExchangeTimer => Sys2Proof.Machine.execTimeExchangeTimer s
  | .timeExchangeRequest link message stampNs stampFrac => Sys2Proof.Machine.execTimeExchangeRequest link message stampNs stampFrac s
  | .timeExchangeReply link message stampNs stampFrac => Sys2Proof.Machine.execTimeExchangeReply link message stampNs stampFrac s
  | .holdoverTimeout => Sys2Proof.Machine.execHoldoverTimeout s
  | .freeRunningTimeout => Sys2Proof.Machine.execFreeRunningTimeout s
  | .timeSourceTakeover => Sys2Proof.Machine.execTimeSourceTakeover s
  | .groupForm => Sys2Proof.Machine.execGroupForm s
  | .groupDissolve => Sys2Proof.Machine.execGroupDissolve s
  | .dissolveEffect p slot => Sys2Proof.Machine.execDissolveEffect p slot s
  | .formationInvite => Sys2Proof.Machine.execFormationInvite s
  | .formationReport => Sys2Proof.Machine.execFormationReport s
  | .formationVerdict => Sys2Proof.Machine.execFormationVerdict s
  | .formationDissolveMessage => Sys2Proof.Machine.execFormationDissolveMessage s
  | .formationTimeout p slot => Sys2Proof.Machine.execFormationTimeout p slot s
  | .verdictWaitTimeout p slot => Sys2Proof.Machine.execVerdictWaitTimeout p slot s
  | .collectiveDataMessage => Sys2Proof.Machine.execCollectiveDataMessage s
  | .expertDispatchMessage => Sys2Proof.Machine.execExpertDispatchMessage s
  | .expertCombineMessage => Sys2Proof.Machine.execExpertCombineMessage s
  | .fabricOpTimeout p n => Sys2Proof.Machine.execFabricOpTimeout p n s
  | .directoryLoadCopy => Sys2Proof.Machine.execDirectoryLoadCopy s
  | .directoryLoadCanonical => Sys2Proof.Machine.execDirectoryLoadCanonical s
  | .directoryDump => Sys2Proof.Machine.execDirectoryDump s
  | .imageData => Sys2Proof.Machine.execImageData s
  | .imageAck => Sys2Proof.Machine.execImageAck s
  | .imageRefusal => Sys2Proof.Machine.execImageRefusal s
  | .commitSeal p step result lowestRank => Sys2Proof.Machine.execCommitSeal p step result lowestRank s
  | .stepCommitTimeout p n => Sys2Proof.Machine.execStepCommitTimeout p n s
  | .pullRequest => Sys2Proof.Machine.execPullRequest s
  | .pullData => Sys2Proof.Machine.execPullData s
  | .recoveryCall p => Sys2Proof.Machine.execRecoveryCall p s
  | .recoveryStop => Sys2Proof.Machine.execRecoveryStop s
  | .recoveryReport => Sys2Proof.Machine.execRecoveryReport s
  | .probeTimeout p => Sys2Proof.Machine.execProbeTimeout p s
  | .recoveryPlan => Sys2Proof.Machine.execRecoveryPlan s
  | .restoreComplete p => Sys2Proof.Machine.execRestoreComplete p s
  | .recoveryRestored => Sys2Proof.Machine.execRecoveryRestored s
  | .standbyProbe => Sys2Proof.Machine.execStandbyProbe s
  | .standbyAnswer => Sys2Proof.Machine.execStandbyAnswer s
  | .recoveryAbandon p => Sys2Proof.Machine.execRecoveryAbandon p s
  | .offloadStart p => Sys2Proof.Machine.execOffloadStart p s
  | .offloadComplete p => Sys2Proof.Machine.execOffloadComplete p s
  | .fetchStart p => Sys2Proof.Machine.execFetchStart p s
  | .fetchComplete p j => Sys2Proof.Machine.execFetchComplete p j s
  | .deadlineDecision p n => Sys2Proof.Machine.execDeadlineDecision p n s
  | .recomputeComplete p j => Sys2Proof.Machine.execRecomputeComplete p j s
  | .staging p n => Sys2Proof.Machine.execStaging p n s
  | .allocationZeroed p j => Sys2Proof.Machine.execAllocationZeroed p j s
  | .allocationReleaseEnd p j => Sys2Proof.Machine.execAllocationReleaseEnd p j s
  | .heldFormCompaction p j => Sys2Proof.Machine.execHeldFormCompaction p j s
  | .retainedFill p => Sys2Proof.Machine.execRetainedFill p s
  | .cxlEnumeration devices => Sys2Proof.Machine.execCxlEnumeration devices s
  | .cxlPoison p addr => Sys2Proof.Machine.execCxlPoison p addr s
  | .cxlTierLost => Sys2Proof.Machine.execCxlTierLost s
  | .hbmEccError kind p addr stack => Sys2Proof.Machine.execHbmEccError kind p addr stack s
  | .patrolScrub => Sys2Proof.Machine.execPatrolScrub s
  | .flashMount targets cellType targetBytes clean => Sys2Proof.Machine.execFlashMount targets cellType targetBytes clean s
  | .wearLeveling highest average => Sys2Proof.Machine.execWearLeveling highest average s
  | .disturbanceRelocation reads => Sys2Proof.Machine.execDisturbanceRelocation reads s
  | .retentionScan poweredHours => Sys2Proof.Machine.execRetentionScan poweredHours s
  | .garbageCollection levels => Sys2Proof.Machine.execGarbageCollection levels s
  | .nandFailure kind unit => Sys2Proof.Machine.execNandFailure kind unit s
  | .sampleAdmission p n => Sys2Proof.Machine.execSampleAdmission p n s
  | .sampleDecoded p n unit => Sys2Proof.Machine.execSampleDecoded p n unit s
  | .decodeBudgetExceeded p n unit => Sys2Proof.Machine.execDecodeBudgetExceeded p n unit s
  | .sampleAugmented p n unit => Sys2Proof.Machine.execSampleAugmented p n unit s
  | .batchPreparation p stream => Sys2Proof.Machine.execBatchPreparation p stream s
  | .parityError cls unit => Sys2Proof.Machine.execParityError cls unit s
  | .targetedTestEnd cls unit pass => Sys2Proof.Machine.execTargetedTestEnd cls unit pass s
  | .dictionaryRequest path bytes => Sys2Proof.Machine.execDictionaryRequest path bytes s
  | .read => Sys2Proof.Machine.execRead s
  | .objectWrite => Sys2Proof.Machine.execObjectWrite s
  | .readShadow => Sys2Proof.Machine.execReadShadow s
  | .discardShadow => Sys2Proof.Machine.execDiscardShadow s
  | .readAndClear => Sys2Proof.Machine.execReadAndClear s
  | .describe => Sys2Proof.Machine.execDescribe s
  | .paddockCreate => Sys2Proof.Machine.execPaddockCreate s
  | .paddockDelete => Sys2Proof.Machine.execPaddockDelete s
  | .allocationCreate => Sys2Proof.Machine.execAllocationCreate s
  | .allocationRelease => Sys2Proof.Machine.execAllocationRelease s
  | .allocationUpdate => Sys2Proof.Machine.execAllocationUpdate s
  | .qpReady => Sys2Proof.Machine.execQpReady s
  | .qpReset => Sys2Proof.Machine.execQpReset s
  | .portModeChange => Sys2Proof.Machine.execPortModeChange s
  | .linkEnable => Sys2Proof.Machine.execLinkEnable s
  | .counterFreeze => Sys2Proof.Machine.execCounterFreeze s
  | .attestationNonce => Sys2Proof.Machine.execAttestationNonce s
  | .attestationReportSigned => Sys2Proof.Machine.execAttestationReportSigned s
  | .clearLog => Sys2Proof.Machine.execClearLog s
  | .clearDegraded => Sys2Proof.Machine.execClearDegraded s
  | .flashFormat => Sys2Proof.Machine.execFlashFormat s
  | .prepareShutdown => Sys2Proof.Machine.execPrepareShutdown s
  | .trim => Sys2Proof.Machine.execTrim s
  | .lock => Sys2Proof.Machine.execLock s
  | .unlock => Sys2Proof.Machine.execUnlock s
  | .enterMaintenance => Sys2Proof.Machine.execEnterMaintenance s
  | .leaveMaintenance => Sys2Proof.Machine.execLeaveMaintenance s
  | .release => Sys2Proof.Machine.execRelease s
  | .releaseComplete => Sys2Proof.Machine.execReleaseComplete s
  | .decommission => Sys2Proof.Machine.execDecommission s
  | .generateIdentity => Sys2Proof.Machine.execGenerateIdentity s
  | .provision => Sys2Proof.Machine.execProvision s
  | .claim => Sys2Proof.Machine.execClaim s
  | .ownerKeyChange => Sys2Proof.Machine.execOwnerKeyChange s
  | .tenantKey => Sys2Proof.Machine.execTenantKey s
  | .updateBegin => Sys2Proof.Machine.execUpdateBegin s
  | .updateEraseComplete => Sys2Proof.Machine.execUpdateEraseComplete s
  | .updateChunk => Sys2Proof.Machine.execUpdateChunk s
  | .updateFinish => Sys2Proof.Machine.execUpdateFinish s
  | .updateActivate => Sys2Proof.Machine.execUpdateActivate s
  | .updateAbort => Sys2Proof.Machine.execUpdateAbort s
  | .restartMainDie => Sys2Proof.Machine.execRestartMainDie s
  | .raiseRollbackFloor => Sys2Proof.Machine.execRaiseRollbackFloor s
  | .rescueChunk => Sys2Proof.Machine.execRescueChunk s
  | .rescueBoot => Sys2Proof.Machine.execRescueBoot s
  | .bistStart => Sys2Proof.Machine.execBistStart s
  | .bistAbort => Sys2Proof.Machine.execBistAbort s
  | .bistPhaseEnd failed => Sys2Proof.Machine.execBistPhaseEnd failed s
  | .bistRunEnd => Sys2Proof.Machine.execBistRunEnd s
  | .aoPowerGood => Sys2Proof.Machine.execAoPowerGood s
  | .mainPowerGood => Sys2Proof.Machine.execMainPowerGood s
  | .firmwareBoot => Sys2Proof.Machine.execFirmwareBoot s
  | .hbmTrained stackMask => Sys2Proof.Machine.execHbmTrained stackMask s
  | .hostPortLinked port => Sys2Proof.Machine.execHostPortLinked port s
  | .deviceReady => Sys2Proof.Machine.execDeviceReady s
  | .mainPowerLoss => Sys2Proof.Machine.execMainPowerLoss s
  | .mainReset widthUs => Sys2Proof.Machine.execMainReset widthUs s
  | .aoRailLoss => Sys2Proof.Machine.execAoRailLoss s
  | .refclkSysLoss => Sys2Proof.Machine.execRefclkSysLoss s
  | .refclkSysRestored => Sys2Proof.Machine.execRefclkSysRestored s
  | .refclkCxlLoss port => Sys2Proof.Machine.execRefclkCxlLoss port s
  | .aoClkLoss => Sys2Proof.Machine.execAoClkLoss s
  | .derateAssert cause => Sys2Proof.Machine.execDerateAssert cause s
  | .derateEndTimer => Sys2Proof.Machine.execDerateEndTimer s
  | .pmbusAlert words => Sys2Proof.Machine.execPmbusAlert words s
  | .pmbusPoll readings => Sys2Proof.Machine.execPmbusPoll readings s
  | .powerEstimateTick watts => Sys2Proof.Machine.execPowerEstimateTick watts s
  | .clockStepUp => Sys2Proof.Machine.execClockStepUp s
  | .droopDetect rail cycles => Sys2Proof.Machine.execDroopDetect rail cycles s
  | .thermalThrottle sensor milliC => Sys2Proof.Machine.execThermalThrottle sensor milliC s
  | .thermalTrip sensor milliC => Sys2Proof.Machine.execThermalTrip sensor milliC s
  | .thermalTripsClear => Sys2Proof.Machine.execThermalTripsClear s
  | .tapInstruction code => Sys2Proof.Machine.execTapInstruction code s
  | .mainRstNRelease => Sys2Proof.Machine.execMainRstNRelease s
  | .aoClkRestored => Sys2Proof.Machine.execAoClkRestored s
  | .headlandPairTrained pair => Sys2Proof.Machine.execHeadlandPairTrained pair s
  | .fecLockLoss link => Sys2Proof.Machine.execFecLockLoss link s
  | .linkAckDue link => Sys2Proof.Machine.execLinkAckDue link s
  | .ackArrival q ok => Sys2Proof.Machine.execAckArrival q ok s
  | .frameDropped port cause => Sys2Proof.Machine.execFrameDropped port cause s
  | .paddockActive p => Sys2Proof.Machine.execPaddockActive p s
  | .paddockAbsent p => Sys2Proof.Machine.execPaddockAbsent p s
  | .delayRequestInterval => Sys2Proof.Machine.execDelayRequestInterval s
  | .overflowSample strip plot counter => Sys2Proof.Machine.execOverflowSample strip plot counter s

end Sys2Proof.Machine
end

