-- ==== Sys2Proof/Machine/Idle.lean ====
section
/-! DEFINITION. The tick of the idle device: 20 ns pass (R343, R341, R410 to R414, R465; DESIGN CHOICE, log
entry 1). -/

namespace Sys2Proof.Machine
open Sys2Proof

/-- Device time goes on by 20 ns at its corrected rate, in parts per billion (R299, R343). -/
def TimeState.tick (t : TimeState) : TimeState :=
  let v := stampOf t + (20 * 4294967296 * (1000000000 + t.slew)) / 1000000000
  { t with ns := (v / 4294967296).toNat % 2 ^ 64, frac := (v % 4294967296).toNat }
where
  /-- Device time in units of 2^-32 ns. -/
  stampOf (t : TimeState) : Int := (t.ns : Int) * 4294967296 + t.frac

/-- The plot clock runs once the plots have left reset, and time below 3.3 GHz is noted. -/
def Power.tick (w : Power) : Power :=
  { w with
    upNs := if w.running then w.upNs + 20 else w.upNs
    cycles := if w.ready then w.cycles + 20 * w.clockMHz else w.cycles
    throttledNs := if w.running && w.clockMHz < 3300 then w.throttledNs + 20 else w.throttledNs }

/-- One counter takes the cycles of a tick where its plot runs no unit and it selects what they are. -/
def tickCounter (n : Nat) (s : State) (e : Nat × Nat) : State :=
  let k := e.1 / 256 - 0x8040
  let q := e.1 % 256 / 8
  let code := if s.plotTesting k q then 0x07 else 0x06
  if passes e.2 code {} && s.counting k && (s.plotTesting k q || ((s.strip k).plot q).runs.isEmpty) then
    s.bumpCounter k q (e.1 % 8) e.2 n
  else s

/-- Every counter of parked or test cycles takes `n` cycles. -/
def State.countCycles (s : State) (n : Nat) : State :=
  if n = 0 then s
  else (s.objs.filter fun e => 0x8040 ≤ e.1 / 256 && e.1 / 256 ≤ 0x8057 && 0 < e.2).foldl (tickCounter n) s

/-- One cycle of a plot that runs units: its engines move, and the Furrow sends the next job (R111). A cycle after its
last unit has ended is a parked one. -/
def State.plotCycle (k q : Nat) (s : State) : State :=
  let e := (s.strip k).plot q
  if e.runs.isEmpty then s.count k q 0x06 1 {}
  else
    let s := s.tickPlot k q (e.cycle s.gate)
    let alternates := fun (u : Started) => (s.strip k).contexts.any fun c => c.of u && c.mode == 2
    s.modPlot k q fun e => e.send alternates (s.jobOf k)

/-- `n` cycles of a plot. -/
def State.plotCycles (k q : Nat) : Nat → State → State
  | 0, s => s
  | n + 1, s => State.plotCycles k q n (s.plotCycle k q)

/-- The plots of a strip that run units, and are not under test, run `n` cycles. -/
def State.runStrip (n : Nat) (s : State) (k : Nat) : State :=
  let busy := (List.range 16).filter fun q => !((s.strip k).plot q).runs.isEmpty && !s.plotTesting k q
  if busy.isEmpty then s else (busy.foldl (fun s q => State.plotCycles k q n s) s).refill k

/-- Packets whose pause has ended go out (R341). -/
def State.endPauses (s : State) : State :=
  if s.outbox.isEmpty then s
  else (List.range 8).foldl (fun s n => if s.portUp n then State.drainPort n s.outbox.length s else s) s

/-- The device idles for 20 ns. -/
def idle (s : State) : State :=
  if !s.power.aoGood then s
  else
    let w := s.power.tick
    let n := w.cycles / 1000 - s.power.cycles / 1000
    let s := { s with time := s.time.tick, power := w }.countCycles n
    ((List.range 24).foldl (State.runStrip n) s).endPauses

end Sys2Proof.Machine
end

