-- ==== Sys2Proof/Machine/Step.lean ====
section
/-! DEFINITION. One step of the block: the command at the front of the queue, or a tick of the idle
device. -/

namespace Sys2Proof.Machine

/-- Take the command at the front and run it on the state with the queue's rest. On an empty queue
the device's time goes on (DESIGN CHOICE, log entry 1). -/
def step (s : State) : Host.Outcome State Fault Refusal :=
  match s.pending with
  | [] => .next (idle s)
  | c :: rest => exec c { s with pending := rest }

/-- The opcode table gives no row any bits, so no word spells a command and the queue stays as it
is. A program reaches the device as the payload of PROGRAM_MESSAGE (R84). -/
def State.withFetchWord (s : State) (nbits w : Nat) : State :=
  match decodeTableWord nbits w with
  | some c => { s with pending := c :: s.pending }
  | none => s

end Sys2Proof.Machine
end

