-- ==== Sys2Proof/Machine/Touch.lean ====
section
/-! DEFINITION. Which parts of the state a command can change: the terms of the frame claim. -/

namespace Sys2Proof.Machine
open Sys2Proof

/-- The parts of the state. The bytes of HBM and CXL, of logical flash and of the firmware slots are parts of
their own beside the structures that hold them. -/
inductive StatePart where
  | pending
  | out
  | free
  | objs
  | strips
  | videoTurn
  | imageTurn
  | controlNumber
  | paddocks
  | qps
  | pauses
  | outbox
  | rcTurns
  | links
  | inbox
  | seen
  | clock
  | directory
  | requests
  | life
  | firmware
  | power
  | bist
  | faults
  | tiers
  | memory
  | flash
  | slots
  deriving DecidableEq, Repr

/-- A part of the state is the same in two states. -/
def StatePart.same (x : StatePart) (s t : State) : Prop :=
  match x with
  | .pending => t.pending = s.pending
  | .out => t.out = s.out
  | .free => t.free = s.free
  | .objs => t.objs = s.objs
  | .strips => t.strips = s.strips
  | .videoTurn => t.videoTurn = s.videoTurn
  | .imageTurn => t.imageTurn = s.imageTurn
  | .controlNumber => t.controlNumber = s.controlNumber
  | .paddocks => t.paddocks = s.paddocks
  | .qps => t.qps = s.qps
  | .pauses => t.pauses = s.pauses
  | .outbox => t.outbox = s.outbox
  | .rcTurns => t.rcTurns = s.rcTurns
  | .links => t.links = s.links
  | .inbox => t.inbox = s.inbox
  | .seen => t.seen = s.seen
  | .clock => t.time = s.time
  | .directory => t.directory = s.directory
  | .requests => t.requests = s.requests
  | .life => t.life = s.life
  | .firmware => t.firmware = s.firmware
  | .power => t.power = s.power
  | .bist => t.bist = s.bist
  | .faults => t.faults = s.faults
  | .tiers => t.tiers = s.tiers
  | .memory => ∀ p, (t.pad p).hbm = (s.pad p).hbm ∧ (t.pad p).cxl = (s.pad p).cxl
  | .flash => t.tiers.flash = s.tiers.flash
  | .slots => t.firmware.slotA = s.firmware.slotA ∧ t.firmware.slotB = s.firmware.slotB

/-- The parts that a command can change; it changes no other, and never the queue. -/
def touched (c : Instr) : List StatePart :=
  match c with
  | .retentionScan .. | .droopDetect .. => []
  | .headlandPairTrained .. => [.links]
  | .holdoverTimeout .. | .hostPortLinked .. | .frameDropped .. => [.objs]
  | .signalDeferredAdd .. | .verdictWaitTimeout .. | .fabricOpTimeout .. | .stepCommitTimeout ..
  | .offloadStart .. | .fetchStart .. | .staging .. | .batchPreparation .. | .paddockActive .. =>
    [.paddocks]
  | .derateAssert .. | .derateEndTimer .. | .powerEstimateTick .. | .clockStepUp .. | .tapInstruction .. =>
    [.power]
  | .ecnRateRise .. => [.qps]
  | .patrolScrub .. => [.tiers]
  | .flashMount .. => [.faults, .tiers]
  | .updateEraseComplete .. => [.firmware, .slots]
  | .attestationReportSigned .. => [.free, .life]
  | .wearLeveling .. | .disturbanceRelocation .. => [.free, .objs]
  | .deadlineDecision .. | .heldFormCompaction .. => [.free, .paddocks]
  | .aoClkLoss .. | .aoClkRestored .. => [.links, .power]
  | .bistPhaseEnd .. => [.objs, .bist]
  | .linkIdentity .. | .bypassReleaseGrant .. => [.objs, .links]
  | .aoPowerGood .. | .thermalThrottle .. => [.objs, .power]
  | .cnpReceived .. => [.objs, .qps]
  | .ptpEventMessage .. | .freeRunningTimeout .. | .timeSourceTakeover .. => [.objs, .clock]
  | .delayRequestInterval .. => [.out, .objs]
  | .imageAck .. | .imageRefusal .. | .recoveryRestored .. => [.paddocks, .inbox]
  | .offloadComplete .. | .retainedFill .. => [.paddocks, .memory]
  | .hbmTrained .. => [.power, .faults]
  | .deviceReady .. => [.qps, .power]
  | .garbageCollection .. => [.free, .objs, .tiers]
  | .waitTimeout .. => [.free, .paddocks, .faults]
  | .timeExchangeReply .. => [.objs, .links, .clock]
  | .formationDissolveMessage .. => [.objs, .paddocks, .inbox]
  | .logicalPortDown .. => [.objs, .pauses, .outbox]
  | .abort .. | .linkTrainingComplete .. | .linkAckDue .. => [.out, .objs, .links]
  | .pmbusAlert .. => [.out, .objs, .power]
  | .pullData .. => [.free, .paddocks, .inbox, .faults]
  | .mainPowerGood .. | .refclkSysRestored .. | .mainRstNRelease .. => [.objs, .links, .power, .tiers]
  | .cxlEnumeration .. => [.objs, .power, .faults, .tiers]
  | .lanePrbsTestEnd .. => [.out, .objs, .links, .faults]
  | .timeExchangeTimer .. | .timeExchangeRequest .. => [.out, .objs, .links, .clock]
  | .dissolveEffect .. => [.out, .objs, .paddocks, .links]
  | .pmbusPoll .. => [.out, .objs, .power, .bist]
  | .cxlTierLost .. | .nandFailure .. => [.free, .objs, .paddocks, .faults, .tiers]
  | .sampleDecoded .. | .decodeBudgetExceeded .. | .sampleAugmented .. =>
    [.free, .paddocks, .tiers, .memory, .flash]
  | .cxlPoison .. => [.objs, .paddocks, .faults, .tiers, .memory]
  | .refclkCxlLoss .. => [.objs, .paddocks, .power, .faults, .tiers]
  | .overflowSample .. => [.objs, .paddocks, .tiers, .memory, .flash]
  | .pfcPause .. => [.out, .objs, .pauses, .outbox, .rcTurns]
  | .fetchComplete .. | .recomputeComplete .. | .allocationReleaseEnd .. =>
    [.objs, .strips, .paddocks, .tiers, .memory, .flash]
  | .dictionaryRequest .. => [.out, .objs, .qps, .outbox, .rcTurns, .requests]
  | .workRequest .. | .phaseBarrier .. => [.free, .objs, .strips, .paddocks, .tiers, .memory, .flash]
  | .sampleAdmission .. => [.free, .videoTurn, .imageTurn, .paddocks, .tiers, .memory, .flash]
  | .hbmEccError .. => [.objs, .strips, .paddocks, .bist, .faults, .tiers, .memory]
  | .unsupportedRoceRequest .. | .roceAckTimeout .. | .rnrNak .. | .ackArrival .. =>
    [.out, .objs, .paddocks, .qps, .outbox, .rcTurns, .links]
  | .linkControl .. | .nak .. | .replayPrbsCheck .. | .linkAckTimeout .. | .bypassReleaseRequest ..
  | .fecLockLoss .. => [.out, .objs, .qps, .outbox, .rcTurns, .links, .faults]
  | .move .. | .fill .. | .elemwise .. | .reduce .. | .rotary .. | .stats .. | .matmul .. | .matmulGrad ..
  | .conv .. | .convGrad .. | .edgeConv .. | .pool .. | .attnFwd .. | .attnBwd .. | .kvAppend ..
  | .kvFork .. | .kvFree .. | .normFwd .. | .normBwd .. | .softmaxFwd .. | .softmaxBwd .. | .compact ..
  | .codebookLoad .. | .expand .. | .update .. | .decodeBatch .. | .tokenize .. | .dictionaryImageLoad ..
  | .boxdecode .. | .suppress .. | .wait .. | .signal .. | .instructionComplete .. =>
    [.free, .objs, .strips, .paddocks, .faults, .tiers, .memory, .flash]
  | .programMessage .. | .programEnd .. => [.out, .free, .objs, .paddocks, .qps, .outbox, .rcTurns, .faults]
  | .formationTimeout .. => [.out, .objs, .controlNumber, .paddocks, .qps, .outbox, .rcTurns, .links]
  | .pullRequest .. | .standbyProbe .. =>
    [.out, .objs, .controlNumber, .qps, .outbox, .rcTurns, .links, .inbox]
  | .fabricCarriageReceived .. => [.out, .objs, .qps, .outbox, .rcTurns, .links, .inbox, .seen]
  | .paddockAbsent .. => [.out, .objs, .strips, .paddocks, .qps, .links, .life, .memory]
  | .parityError .. => [.free, .objs, .strips, .paddocks, .bist, .faults, .tiers, .memory, .flash]
  | .barrier .. => [.free, .objs, .strips, .paddocks, .directory, .faults, .tiers, .memory, .flash]
  | .linkMessage .. => [.out, .free, .objs, .qps, .outbox, .rcTurns, .links, .inbox, .seen]
  | .formationInvite .. | .formationReport .. | .formationVerdict .. | .imageData .. =>
    [.out, .objs, .controlNumber, .paddocks, .qps, .outbox, .rcTurns, .links, .inbox]
  | .probeTimeout .. => [.out, .objs, .controlNumber, .paddocks, .qps, .outbox, .rcTurns, .links, .seen]
  | .commitSeal .. => [.out, .objs, .paddocks, .qps, .outbox, .rcTurns, .directory, .faults, .memory]
  | .groupDissolve .. | .directoryLoadCopy .. | .directoryLoadCanonical .. | .discardShadow ..
  | .describe .. | .qpReady .. | .portModeChange .. | .attestationNonce .. | .lock .. | .unlock ..
  | .enterMaintenance .. | .leaveMaintenance .. | .release .. | .provision .. | .claim ..
  | .ownerKeyChange .. | .tenantKey .. | .updateBegin .. | .updateFinish .. | .updateActivate ..
  | .updateAbort .. | .raiseRollbackFloor .. =>
    [.out, .objs, .paddocks, .qps, .outbox, .rcTurns, .requests, .life, .firmware]
  | .rdmaWrite .. | .rdmaRead .. =>
    [.out, .objs, .paddocks, .qps, .outbox, .rcTurns, .tiers, .memory, .flash]
  | .counterFreeze .. | .generateIdentity .. =>
    [.out, .free, .objs, .paddocks, .qps, .outbox, .rcTurns, .requests, .life, .firmware]
  | .recoveryReport .. =>
    [.out, .objs, .controlNumber, .paddocks, .qps, .outbox, .rcTurns, .links, .inbox, .seen]
  | .qpReset .. | .linkEnable .. =>
    [.out, .objs, .paddocks, .qps, .outbox, .rcTurns, .links, .requests, .life, .firmware]
  | .bistStart .. | .bistAbort .. =>
    [.out, .objs, .paddocks, .qps, .outbox, .rcTurns, .requests, .life, .firmware, .bist]
  | .clearLog .. | .clearDegraded .. =>
    [.out, .objs, .paddocks, .qps, .outbox, .rcTurns, .requests, .life, .firmware, .faults]
  | .paddockCreate .. | .paddockDelete .. | .allocationCreate .. | .allocationRelease ..
  | .allocationUpdate .. =>
    [.out, .objs, .paddocks, .qps, .outbox, .rcTurns, .requests, .life, .firmware, .memory]
  | .updateChunk .. | .rescueChunk .. =>
    [.out, .objs, .paddocks, .qps, .outbox, .rcTurns, .requests, .life, .firmware, .slots]
  | .prepareShutdown .. =>
    [.out, .objs, .paddocks, .qps, .outbox, .rcTurns, .requests, .life, .firmware, .tiers]
  | .standbyAnswer .. =>
    [.out, .free, .objs, .controlNumber, .paddocks, .qps, .outbox, .rcTurns, .links, .inbox, .seen]
  | .allocationZeroed .. =>
    [.out, .free, .objs, .paddocks, .qps, .outbox, .rcTurns, .faults, .tiers, .memory, .flash]
  | .read .. | .readShadow .. =>
    [.out, .free, .objs, .paddocks, .qps, .outbox, .rcTurns, .requests, .life, .firmware, .faults]
  | .flashFormat .. | .trim .. =>
    [.out, .objs, .paddocks, .qps, .outbox, .rcTurns, .requests, .life, .firmware, .tiers, .flash]
  | .groupForm .. =>
    [.out, .objs, .controlNumber, .paddocks, .qps, .outbox, .rcTurns, .links, .seen, .requests, .life,
     .firmware]
  | .rescueBoot .. | .thermalTripsClear .. =>
    [.out, .objs, .paddocks, .qps, .outbox, .rcTurns, .links, .requests, .life, .firmware, .power, .tiers]
  | .directoryDump .. =>
    [.out, .objs, .paddocks, .qps, .outbox, .rcTurns, .requests, .life, .firmware, .tiers, .memory, .flash]
  | .recoveryStop .. =>
    [.out, .objs, .strips, .controlNumber, .paddocks, .qps, .outbox, .rcTurns, .links, .inbox, .faults,
     .memory]
  | .recoveryAbandon .. =>
    [.out, .free, .objs, .strips, .controlNumber, .paddocks, .qps, .outbox, .rcTurns, .links, .inbox,
     .faults, .memory]
  | .recoveryCall .. | .recoveryPlan .. =>
    [.out, .objs, .strips, .controlNumber, .paddocks, .qps, .outbox, .rcTurns, .links, .inbox, .seen,
     .faults, .memory]
  | .collectiveDataMessage .. | .expertDispatchMessage .. | .expertCombineMessage .. =>
    [.out, .free, .objs, .controlNumber, .paddocks, .qps, .outbox, .rcTurns, .links, .inbox, .faults,
     .tiers, .memory, .flash]
  | .restoreComplete .. =>
    [.out, .free, .objs, .controlNumber, .paddocks, .qps, .outbox, .rcTurns, .links, .seen, .faults,
     .tiers, .memory, .flash]
  | .objectWrite .. | .readAndClear .. =>
    [.out, .free, .objs, .paddocks, .qps, .outbox, .rcTurns, .links, .requests, .life, .firmware, .power,
     .faults, .tiers]
  | .collectAllReduce .. | .collectReduceScatter .. | .collectAllGather .. | .collectBroadcast ..
  | .collectSend .. | .collectReceive .. | .dispatch .. | .combine .. | .stepCommit .. =>
    [.out, .free, .objs, .strips, .controlNumber, .paddocks, .qps, .outbox, .rcTurns, .links, .faults,
     .tiers, .memory, .flash]
  | .targetedTestEnd .. | .bistRunEnd .. =>
    [.out, .free, .objs, .strips, .paddocks, .qps, .outbox, .rcTurns, .links, .bist, .faults, .tiers,
     .memory, .flash]
  | .firmwareBoot .. | .mainPowerLoss .. | .mainReset .. | .refclkSysLoss .. | .thermalTrip .. =>
    [.objs, .strips, .videoTurn, .imageTurn, .paddocks, .qps, .pauses, .outbox, .rcTurns, .links, .inbox,
     .seen, .clock, .directory, .life, .firmware, .power, .bist, .faults, .tiers, .memory]
  | .releaseComplete .. | .aoRailLoss .. =>
    [.objs, .strips, .videoTurn, .imageTurn, .paddocks, .qps, .pauses, .outbox, .rcTurns, .links, .inbox,
     .seen, .clock, .directory, .life, .firmware, .power, .bist, .faults, .tiers, .memory, .flash]
  | .restartMainDie .. =>
    [.out, .objs, .strips, .videoTurn, .imageTurn, .paddocks, .qps, .pauses, .outbox, .rcTurns, .links,
     .inbox, .seen, .clock, .directory, .requests, .life, .firmware, .power, .bist, .faults, .tiers,
     .memory]
  | .decommission .. =>
    [.out, .objs, .strips, .videoTurn, .imageTurn, .paddocks, .qps, .pauses, .outbox, .rcTurns, .links,
     .inbox, .seen, .clock, .directory, .requests, .life, .firmware, .power, .bist, .faults, .tiers,
     .memory, .flash]

end Sys2Proof.Machine
end

