-- ==== Sys2Proof/Safety.lean ====
section
/-! DEFINITION. What counts as a safe state and a safe run, in the terms the claims use. -/

namespace Sys2Proof.Machine

/-- Every memory of a paddock is in its canonical form. -/
def Paddock.memoriesOk (d : Paddock) : Bool := Memory.wf 0 d.hbm && Memory.wf 0 d.cxl

/-- Every memory of the device is in its canonical form: HBM and CXL of each paddock, logical flash, and
the two firmware slots, which read 0xFF where nothing is written. -/
def State.memoriesOk (s : State) : Bool :=
  s.paddocks.toList.all Paddock.memoriesOk && Memory.wf 0 s.tiers.flash
    && Memory.wf 0xFF s.firmware.slotA && Memory.wf 0xFF s.firmware.slotB

/-- Every shadow of the paddock is one of an RWS object (R402). -/
def Paddock.shadowsOk (d : Paddock) : Bool :=
  d.shadows.all fun x => match objRow (x.key / 256) (x.key % 256) with
    | some row => row.access == 4
    | none => false

/-- Every shadow of the device is one of an RWS object. -/
def State.shadowsOk (s : State) : Bool := s.paddocks.toList.all Paddock.shadowsOk

/-- A DECOMMISSIONED device keeps its main die in reset, and no release of it is under way (R431, R432). -/
def State.retiredRests (s : State) : Bool :=
  s.life.state != .retired || (!s.power.running && s.life.transition != some false)

/-! ### What the dictionary server does with a request -/

/-- A waiting request as the server reads it (R394). -/
def Request.req (x : Request) : Req := parseReq x.path x.bytes

/-- The command that each row of a request is. -/
def Row.command : Row → Instr
  | .read => .read
  | .objectWrite => .objectWrite
  | .readShadow => .readShadow
  | .discardShadow => .discardShadow
  | .readAndClear => .readAndClear
  | .describe => .describe
  | .paddockCreate => .paddockCreate
  | .paddockDelete => .paddockDelete
  | .allocationCreate => .allocationCreate
  | .allocationRelease => .allocationRelease
  | .allocationUpdate => .allocationUpdate
  | .qpReady => .qpReady
  | .qpReset => .qpReset
  | .portModeChange => .portModeChange
  | .linkEnable => .linkEnable
  | .counterFreeze => .counterFreeze
  | .attestationNonce => .attestationNonce
  | .clearLog => .clearLog
  | .clearDegraded => .clearDegraded
  | .groupForm => .groupForm
  | .groupDissolve => .groupDissolve
  | .directoryLoadCopy => .directoryLoadCopy
  | .directoryLoadCanonical => .directoryLoadCanonical
  | .directoryDump => .directoryDump
  | .flashFormat => .flashFormat
  | .prepareShutdown => .prepareShutdown
  | .trim => .trim
  | .lock => .lock
  | .unlock => .unlock
  | .enterMaintenance => .enterMaintenance
  | .leaveMaintenance => .leaveMaintenance
  | .release => .release
  | .decommission => .decommission
  | .generateIdentity => .generateIdentity
  | .provision => .provision
  | .claim => .claim
  | .ownerKeyChange => .ownerKeyChange
  | .tenantKey => .tenantKey
  | .updateBegin => .updateBegin
  | .updateChunk => .updateChunk
  | .updateFinish => .updateFinish
  | .updateActivate => .updateActivate
  | .updateAbort => .updateAbort
  | .restartMainDie => .restartMainDie
  | .raiseRollbackFloor => .raiseRollbackFloor
  | .rescueChunk => .rescueChunk
  | .rescueBoot => .rescueBoot
  | .bistStart => .bistStart
  | .bistAbort => .bistAbort
  | .thermalTripsClear => .thermalTripsClear

/-- `x` is the front of the server's queue and `rest` what waits behind it; it is a request of `row`, its
counter is new, and every check of R472 passes. `u` is the state in which its effect takes place: the
request is taken and its counter noted. -/
structure Served (row : Row) (s : State) (x : Request) (rest : List Request) (u : State) : Prop where
  front : s.requests = x :: rest
  isRow : rowOf s x.req = row
  fresh : State.freshness { s with requests := rest } x.req = .fresh
  noted : u = State.modPrincipal { s with requests := rest } x.req.principal
    fun p => { p with counter := x.req.counter }
  passes : checks u x.req = none

/-- The row's command answers a request that passes every check, and what the request comes to is as `P`
says. -/
def AnswersWith (row : Row) (P : State → Req → Answer → Prop) : Prop :=
  ∀ (s : State) (x : Request) (rest : List Request) (u : State), Served row s x rest u →
    ∃ a : Answer, exec row.command s = .next (finish x.req (s.key x.req.principal) a) ∧ P u x.req a

/-- The request is done, and the state is `t`. -/
def Answer.makes (a : Answer) (t : State) : Prop := a.result = 0 ∧ a.status = 0 ∧ a.state = t

/-- The request is refused with a result, and the state is `t`. -/
def Answer.refuses (a : Answer) (result : Nat) (t : State) : Prop := a.result = result ∧ a.state = t

/-- A read of the object neither draws a free value (log entries 33, 34 and 36) nor marks a log entry as
read. -/
def plainIndex (i : Nat) : Prop :=
  ¬ (0x3020 ≤ i ∧ i ≤ 0x3023) ∧ ¬ (0x2030 ≤ i ∧ i ≤ 0x2032) ∧ ¬ (0x8020 ≤ i ∧ i ≤ 0x8037)
    ∧ ¬ (0x9410 ≤ i ∧ i ≤ 0x9413)

/-! ### Host ports -/

/-- No packet waits to leave, and no pause stands (R341): what is sent leaves at once. -/
def State.flows (s : State) : Prop := s.outbox = [] ∧ ∀ port prio, s.pausedAt port prio = false

/-! ### Messages that have come -/

/-- `m` is the next formation message of a kind, `u` the state without it, and it names slot `x.slot` of a
group of its job in paddock `p` (R309). -/
structure FormationHere (kind : Nat) (s u : State) (m : Delivered) (p : Nat) (x : Formation) : Prop where
  taken : s.take (fun m => m.kind == 4 && m.payload.length == 128 && leField m.payload 0 1 == kind)
    = some (m, u)
  paddock : u.jobPaddock m.tag = some p
  clean : formationReserved m.payload = false
  parsed : x = parseFormation m.payload
  slot : x.slot < 16
  group : ((u.pad p).group x.slot).state ≠ .empty ∧ ((u.pad p).group x.slot).tag = m.tag

/-- `m` is the next message of a type that does not wait for its operation, and `u` the state without
it (R313, R314). -/
def FabricHere (kind : Nat) (s u : State) (m : Delivered) : Prop :=
  s.take (fun m => m.kind == kind && !(judge s m).waiting) = some (m, u)

/-- `m` is the next partner-copy message of a kind, for the job of paddock `p` (R381). -/
def CopyHere (kind : Nat) (s u : State) (m : Delivered) (p : Nat) : Prop :=
  s.take (fun m => m.kind == 5 && copyKind m == kind) = some (m, u) ∧ u.jobPaddock m.tag = some p

/-- `x` is the next recovery control message of a kind, which came as `m` (R382). -/
def ControlHere (kind : Nat) (s u : State) (m : Delivered) (x : Control) : Prop :=
  s.takeControl kind = some (m, x, u)

/-! ### Retained copies -/

/-- No block of the paddock is left in its retained copy alone (R229). -/
def Paddock.homesKept (d : Paddock) : Prop := ∀ e ∈ d.allocs, e.2.homeLost = []

/-! ### The main die in reset -/

/-- `t` is `s` with its main die in reset (R21): no paddock exists, no strip has work, no message or
programmable counter is left, and flash, firmware slots, identity, owner, device time and error log entries
are as before. -/
structure MainInReset (s t : State) : Prop where
  held : t.power.running = false ∧ t.power.ready = false
  noPaddock : ∀ p, t.pad p = Paddock.fresh
  noWork : ∀ k, (t.strip k).contexts = [] ∧ (t.strip k).waiting = [] ∧ (t.strip k).started = []
    ∧ (t.strip k).store = [] ∧ ∀ q, ((t.strip k).plot q).runs = []
  noMessage : t.inbox = [] ∧ t.seen = [] ∧ t.directory = [] ∧ t.pauses = [] ∧ t.outbox = []
  noCounter : ∀ k i, k < 24 → i < 256 → t.obj (0x8020 + k) i = objDefault (0x8020 + k) i
  flash : t.tiers.flash = s.tiers.flash
  slots : t.firmware.slotA = s.firmware.slotA ∧ t.firmware.slotB = s.firmware.slotB
    ∧ t.firmware.floor = s.firmware.floor
  identity : t.life.privateKey = s.life.privateKey ∧ t.life.state = s.life.state
    ∧ t.life.certificate = s.life.certificate
  time : t.time.ns = s.time.ns
  log : t.faults.written = s.faults.written ∨ t.faults.written = (s.faults.written + 1) % 2 ^ 32

/-! ### Samples of a batch -/

/-- Where `may` holds, a command moves the first sample of batch `n` that `ok` picks by `f`. While a sample of the
batch is left nothing else of the paddock changes; with the last one over, the batch of a DECODE_BATCH is written and
let go, and a prepared one is kept by its stream (R264, R267). -/
def SampleMoves (c : Nat → Nat → Instr) (may : State → Nat → Nat → Prop) (ok : State → Sample → Bool)
    (f : State → Sample → Sample) : Prop :=
  ∀ (s : State) (p n i : Nat), p < 8 → may s p n →
    ((s.pad p).samples.findIdx? fun x => x.flight == n && ok s x) = some i →
    let l := (s.pad p).samples.modify i (f s)
    let left := l.any fun x => x.flight == n && x.stage != .over
    let gone := fun (t : State) => (t.pad p).samples = l.filter (fun x => x.flight != n)
      ∧ (t.pad p).batches = (s.pad p).batches.filter (fun b => b.flight != n) ∧ ∀ q, q ≠ p → t.pad q = s.pad q
    (left = true → ∃ t, exec (c p n) s = .next t ∧ t.pad p = { s.pad p with samples := l }
      ∧ (∀ q, q ≠ p → t.pad q = s.pad q) ∧ t.out = s.out) ∧
    (∀ b, left = false → ((s.pad p).batches.find? fun b => b.flight == n) = some b →
      (b.waits = true → ∃ t, exec (c p n) s = .next t ∧ gone t
        ∧ ∀ y ∈ (t.pad p).flights, y.serial = n → y.hold = .none) ∧
      (b.waits = false → ∃ t, exec (c p n) s = .next t ∧ gone t ∧ (t.pad p).flights = (s.pad p).flights
        ∧ (t.pad p).streams = (s.pad p).streams.map fun x =>
            if b.of x then
              { x with ready := x.ready ++
                  [{ first := b.first, looks := b.looks, statuses := b.statuses, offset := b.ahead.getD 0 }] }
            else x))

/-- The next sample of a kind is one of batch `n` of paddock `p`, and a unit of the kind is free to take it (R246). -/
def State.admits (s : State) (video : Bool) (p n : Nat) : Prop :=
  (∃ x, s.dueSample video = some (p, x) ∧ x.flight = n) ∧ (s.freeUnit video).isSome = true

/-! ### Work counters -/

/-- Unit `u` is unstarted in the range of plot `q` (R126, R127). -/
def Context.holds (c : Context) (q u : Nat) : Prop := (rangeOf c q).1 ≤ u ∧ u < (rangeOf c q).2

/-- Unit `u` is unstarted: nobody has claimed it, a plot's range holds it, or a lost plot has returned it. -/
def Context.unstartedUnit (c : Context) (u : Nat) : Prop :=
  (c.next ≤ u ∧ u < c.total) ∨ (∃ q, c.holds q u) ∨ u ∈ c.returned

/-- The ranges of a context are those of claims: 16 of them, of claimed units, no two of which meet; and so are the
units that a lost plot has returned. -/
structure Context.tidy (c : Context) : Prop where
  plots : c.ranges.length = 16
  claimed : ∀ u, (∃ q, c.holds q u) ∨ u ∈ c.returned → u < c.next ∧ u < c.total
  apart : ∀ q r u, c.holds q u → c.holds r u → q = r
  returnedOnce : c.returned.Nodup ∧ ∀ q u, u ∈ c.returned → ¬ c.holds q u

/-! ### Issue of a record -/

/-- Record `r` of program `pr`, which is program `g` of paddock `p`, issues next, and it is one of the
command's row. -/
structure Issuing (code : Nat) (mine : Rec → Bool) (s : State) (p g : Nat) (pr : Program) (r : Rec) :
    Prop where
  paddock : p < 8
  next : nextRec s p g = some (pr, some r)
  opcode : r.opcode = code
  isMine : mine r = true

/-- A program with one more record issued. -/
def Program.onward (pr : Program) : Program :=
  { pr with next := pr.next + 1, issued := pr.issued + 1, waitSince := none }

/-- Two programs agree but for how far the lookahead has gone. -/
def Program.like (a b : Program) : Prop := { a with entered := b.entered } = b

/-- The state in which a record that passed every check is issued, before room is made for it. -/
def issuedState (op : Op) (s : State) (p g : Nat) (pr : Program) (r : Rec) : State :=
  noteIssue (countTouches (countReads op s p pr r) p pr (spansOf op (ctxOf s p pr r))) p g

/-- The value of event counter `i` after an advance by `n`, where there is one. -/
def advanced (i : Nat) (hit : Bool) (n v : Nat) : Nat := if hit then objWrap 0xA002 i (v + n) else v

/-- A command that leaves every byte of a paddock and every other paddock as they are. -/
def quiet (s t : State) (p : Nat) : Prop :=
  (∀ a, t.byteAt p a = s.byteAt p a) ∧ ∀ q, q ≠ p → t.pad q = s.pad q

/-- No reader of a page pool bears a flight number that the paddock has not given yet. -/
def noReader (s : State) (p : Nat) : Prop := ∀ x ∈ (s.pad p).readers, x.flight < (s.pad p).nextFlight

/-- The 64-byte units that writers in flight have changed, as they were before: an instruction that is not ordered after
them may see either content (R99). -/
def State.writers (s : State) (p : Nat) : List (Nat × List Byte) := (s.pad p).flights.flatMap (·.before)

/-- `t` holds the flight of a record that has just issued, newest last. -/
def flies (s t : State) (p g : Nat) (pr : Program) (r : Rec) (statuses : List Nat) (hold : Hold) : Prop :=
  ∃ f : Flight, (t.pad p).flights = (s.pad p).flights ++ [f] ∧ f.serial = (s.pad p).nextFlight ∧ f.prog = g
    ∧ f.index = pr.next ∧ f.opcode = r.opcode ∧ f.statuses = statuses ∧ f.hold = hold
    ∧ f.signal = if r.flags.testBit 0 then some r.counter else none

/-- The record flies with one status, and touches nothing. -/
def FliesBare (out : Host.Outcome State Fault Refusal) (s : State) (p g : Nat) (pr : Program) (r : Rec)
    (statuses : List Nat) : Prop :=
  ∃ t, out = .next t ∧ (∃ x, (t.pad p).program g = some x ∧ x.like pr.onward)
    ∧ flies s t p g pr r statuses .none ∧ quiet s t p

/-- What becomes of the record of an operation that issues next (R94 to R97): a failed check returns its
status at issue; a no-op flies with no status; an operation of the CXL tier at no rate, one that reads what is lost, and
one that needs more blocks than can be had fly with the tier's status; every other record has its operation's effect and
flies with what that gives, and the blocks that it still waits for are granted as they come free. -/
def IssuesAs (out : Host.Outcome State Fault Refusal) (code : Nat) (op : Op) (s : State) (p g : Nat)
    (pr : Program) (r : Rec) : Prop :=
  let c := ctxOf s p pr r
  let l := accessesOf op c
  let s1 := issuedState op s p g pr r
  let slow := usesCxl (spansOf op c) && s.obj 0x4011 p < 16384
  let need := needFor s1 p (chargedAccesses pr l) + op.area c
  (∀ st slot, verdict op pr s p r c = .fails st slot → ∃ t, out = .next t
    ∧ (∃ x, (t.pad p).program g = some x ∧ x.like (pr.onward.returned [st] pr.next code slot))
    ∧ (t.pad p).flights = (s.pad p).flights ∧ quiet s t p) ∧
  (verdict op pr s p r c = .noop → ∃ t, out = .next t
    ∧ (∃ x, (t.pad p).program g = some x ∧ x.like pr.onward) ∧ flies s t p g pr r [] .none ∧ quiet s t p) ∧
  (verdict op pr s p r c = .passes → slow = true → FliesBare out s p g pr r [0x13]) ∧
  (∀ st, verdict op pr s p r c = .passes → slow = false → lostStatus s1 p l = some st →
    FliesBare out s p g pr r [st]) ∧
  (verdict op pr s p r c = .passes → slow = false → lostStatus s1 p l = none →
    s1.makeRoom p need (spansOf op c) = none → FliesBare out s p g pr r [0x13]) ∧
  (∀ s2, verdict op pr s p r c = .passes → slow = false → lostStatus s1 p l = none →
    s1.makeRoom p need (spansOf op c) = some s2 →
    let e := op.run { c with s := s2 }
    (e.instant = false → ∃ u : State, out = .next (u.grant p) ∧ quiet e.s u p
      ∧ (u.pad p).programs = (e.s.pad p).programs ∧ ((e.s.pad p).nextFlight = (s.pad p).nextFlight →
        flies e.s u p g pr r e.statuses e.hold)) ∧
    (e.instant = true → ∃ t x, out = .next t ∧ (t.pad p).program g = some x
      ∧ ∃ y, (e.s.pad p).program g = some y ∧ x.like (y.returned e.statuses pr.next code e.slot)))

/-- The next record of a program issues. Where writers are in flight, it issues over what it sees of them, and what it
has not written is then as it was (R99). -/
def IssuesHere (out : Host.Outcome State Fault Refusal) (code : Nat) (mine : Rec → Bool) (op : Op) (s : State)
    (p g : Nat) (pr : Program) (r : Rec) : Prop :=
  (s.writers p = [] → IssuesAs out code op s p g pr r) ∧
  (s.writers p ≠ [] →
    let v := s.unordered p (s.writers p)
    ∃ t : State, out = .next (t.reordered s v p ((s.writers p).map (·.1)).eraseDups) ∧
      ∀ r', Issuing code mine v p g pr r' → IssuesAs (.next t) code op v p g pr r')

/-- The command of an operation issues the next record of its program where it is one of its row. -/
def IssueRow (cmd : Nat → Nat → Instr) (code : Nat) (mine : Rec → Bool) (op : Op) : Prop :=
  ∀ (s : State) (p g : Nat) (pr : Program) (r : Rec), Issuing code mine s p g pr r →
    IssuesHere (exec (cmd p g) s) code mine op s p g pr r

/-- The operation writes no byte outside the footprints of its outputs, and nothing of another paddock. -/
def WritesOutputs (cmd : Nat → Nat → Instr) (code : Nat) (op : Op) : Prop :=
  ∀ (s : State) (p g : Nat), p < 8 → s.writers p = [] →
    ∃ u t : State, exec (cmd p g) s = .next t ∧ (t = u ∨ t = u.grant p) ∧ (∀ q, q ≠ p → t.pad q = s.pad q) ∧
    ∀ a, u.byteAt p a ≠ s.byteAt p a → ∃ pr r, Issuing code (fun _ => true) s p g pr r
      ∧ verdict op pr s p r (ctxOf s p pr r) = .passes
      ∧ ∃ x ∈ spansOf op (ctxOf s p pr r), x.write = true ∧ x.addr ≤ a ∧ a < x.addr + x.len

/-- Where the operation runs and D0 is an F32 tensor in HBM no two elements of which lie on each other, every
element of D0 reads as `val` gives it, and a result that is not finite gives the flight 0x22. -/
def ElementsRead (cmd : Nat → Nat → Instr) (code : Nat) (op : Op) (val : Ctx → List Nat → F32) : Prop :=
  ∀ (s s2 : State) (p g : Nat) (pr : Program) (r : Rec), Issuing code (fun _ => true) s p g pr r →
    s.memoriesOk = true → s.writers p = [] → verdict op pr s p r (ctxOf s p pr r) = .passes →
    let c := ctxOf s p pr r
    let l := accessesOf op c
    let s1 := issuedState op s p g pr r
    let o := c.must 0
    usesCxl (spansOf op c) = false → lostStatus s1 p l = none →
    s1.makeRoom p (needFor s1 p (chargedAccesses pr l) + op.area c) (spansOf op c) = some s2 →
    o.fmt = .f32 → o.addr + o.footprint ≤ hbmEnd →
    (∀ i ∈ allIdx o.ext, ∀ j ∈ allIdx o.ext, o.offset i = o.offset j → i = j) →
    ∃ u : State, exec (cmd p g) s = .next (u.grant p)
      ∧ (∀ i ∈ allIdx o.ext, readLe (u.byteAt p) (o.addr + 4 * o.offset i) 4 = (F32.ofVal (val c i).val).toNat)
      ∧ ((∃ i ∈ allIdx o.ext, (val c i).finite = false) → ∃ f ∈ (u.pad p).flights, 0x22 ∈ f.statuses)

/-! ### Runs -/

/-- A step that answers a next state: nothing stopped the machine. -/
def goesOn (o : Host.Outcome State Fault Refusal) : Bool :=
  match o with
  | .next _ => true
  | _ => false

/-- A run of `k` steps in which every command goes on. -/
def safeRun : Nat → State → Bool
  | 0, _ => true
  | k + 1, s =>
    match step s with
    | .next t => safeRun k t
    | _ => false

end Sys2Proof.Machine
end

