-- ==== Sys2Proof/WellFormed.lean ====
section
/-! DEFINITION. Well-formed commands: operands that name something the device has, in the widths the spec
gives them. -/

namespace Sys2Proof

def paddockOk (p : Nat) : Bool := p < 8

/-- Entries of the queue-pair table (R335). -/
def queueOk (q : Nat) : Bool := q < 4096

/-- Entries of the allocation table (R213). -/
def allocationOk (j : Nat) : Bool := j < 4096

def linkOk (n : Nat) : Bool := n < 48

/-- Logical host ports (R333). -/
def portOk (n : Nat) : Bool := n < 8

def stripOk (k : Nat) : Bool := k < 24

/-- Logical plots 0 to 15; 16 stands for the strip's edge engine. -/
def plotOk (q : Nat) : Bool := q ≤ 16

def counterOk (c : Nat) : Bool := c < 8

def groupOk (g : Nat) : Bool := g < 16

def stackOk (k : Nat) : Bool := k < 12

def drillUnitOk (u : Nat) : Bool := u < 25

def byteOk (x : Nat) : Bool := x < 256

def word32 (x : Nat) : Bool := x < 2 ^ 32

def word64 (x : Nat) : Bool := x < 2 ^ 64

/-- A 64-byte slot (R279). -/
def slotOk (b : List Byte) : Bool := b.length == 64

/-- Whole 64-byte slots, at most 1,024 of them (R279). -/
def payloadOk (b : List Byte) : Bool := b.length % 64 == 0 && b.length ≤ 65536

def pathOk (x : DictPath) : Bool :=
  match x with
  | .field => true
  | .inband n _ => portOk n

def ptpOk (x : PtpMessage) : Bool :=
  match x with
  | .sync a b c => word64 a && word64 b && word64 c
  | .delayResp a b => word64 a && word64 b

/-- The two CXL ports, with eight devices' worth of lanes each (R231). -/
def cxlDeviceOk (x : CxlDevice) : Bool := decide (x.port < 2) && decide (x.lanes ≤ 64)

def nandOk (x : NandFailure) : Bool :=
  match x with
  | .unreadable p _ => paddockOk p
  | _ => true

/-- The units of a class (R468). -/
def unitLimit (c : UnitClass) : Nat :=
  match c with
  | .plot => 408 | .stripBank => 408 | .edgeEngine => 24 | .hbmBlock => 12 | .chipLink => 48
  | .hostPort => 8 | .collectiveEngine => 4 | .drillUnit => 25 | .controlCore => 32 | .cxl => 16
  | .flash => 128 | .directoryBank => 17 | .device => 1 | .job => 8

def unitOk (c : UnitClass) (n : Nat) : Bool := n < unitLimit c

def derateOk (x : DerateCause) : Bool :=
  match x with
  | .pin _ => true
  | .regulator w => w < 65536

/-- Sixteen rails; mV and mA in the widths of objects 0x2020 and 0x2021. -/
def readingOk (x : PmbusReading) : Bool :=
  decide (x.rail < 16)
    && (match x.value with | some (v, a) => decide (v < 65536) && word32 a | none => true)
    && (match x.status with | some w => decide (w < 65536) | none => true)

/-- A command is well formed. -/
def Instr.wf (i : Instr) : Bool :=
  match i with
  | .move p _ => paddockOk p
  | .fill p _ => paddockOk p
  | .elemwise p _ => paddockOk p
  | .reduce p _ => paddockOk p
  | .rotary p _ => paddockOk p
  | .stats p _ => paddockOk p
  | .matmul p _ => paddockOk p
  | .matmulGrad p _ => paddockOk p
  | .conv p _ => paddockOk p
  | .convGrad p _ => paddockOk p
  | .edgeConv p _ => paddockOk p
  | .pool p _ => paddockOk p
  | .attnFwd p _ => paddockOk p
  | .attnBwd p _ => paddockOk p
  | .kvAppend p _ => paddockOk p
  | .kvFork p _ => paddockOk p
  | .kvFree p _ => paddockOk p
  | .normFwd p _ => paddockOk p
  | .normBwd p _ => paddockOk p
  | .softmaxFwd p _ => paddockOk p
  | .softmaxBwd p _ => paddockOk p
  | .compact p _ => paddockOk p
  | .codebookLoad p _ => paddockOk p
  | .expand p _ => paddockOk p
  | .collectAllReduce p _ => paddockOk p
  | .collectReduceScatter p _ => paddockOk p
  | .collectAllGather p _ => paddockOk p
  | .collectBroadcast p _ => paddockOk p
  | .collectSend p _ => paddockOk p
  | .collectReceive p _ => paddockOk p
  | .dispatch p _ => paddockOk p
  | .combine p _ => paddockOk p
  | .update p _ => paddockOk p
  | .decodeBatch p _ => paddockOk p
  | .tokenize p _ => paddockOk p
  | .dictionaryImageLoad p _ => paddockOk p
  | .boxdecode p _ => paddockOk p
  | .suppress p _ => paddockOk p
  | .barrier p _ => paddockOk p
  | .stepCommit p _ => paddockOk p
  | .wait p _ => paddockOk p
  | .signal p _ => paddockOk p
  | .signalDeferredAdd p _ => paddockOk p
  | .programMessage q _ => queueOk q.q
  | .instructionComplete p _ => paddockOk p
  | .programEnd p _ => paddockOk p
  | .waitTimeout p _ => paddockOk p
  | .workRequest strip plot => stripOk strip && plotOk plot
  | .phaseBarrier p _ => paddockOk p
  | .rdmaWrite q rkey addr _ => queueOk q.q && word32 rkey && word64 addr
  | .rdmaRead q rkey addr len => queueOk q.q && word32 rkey && word64 addr && word32 len
  | .unsupportedRoceRequest q => queueOk q.q
  | .roceAckTimeout q => queueOk q
  | .rnrNak q => queueOk q.q
  | .cnpReceived q => queueOk q
  | .ecnRateRise q => queueOk q
  | .pfcPause port pauses => portOk port && pauses.all fun x => decide (x.1 < 8)
  | .logicalPortDown port => portOk port
  | .fabricCarriageReceived q header payload => queueOk q.q && slotOk header && payloadOk payload
  | .ptpEventMessage port domain message => portOk port && byteOk domain && ptpOk message
  | .linkMessage link _ _ header payload => linkOk link && (slotOk header || header.isEmpty) && payloadOk payload
  | .abort link header => linkOk link && slotOk header
  | .linkControl link header => linkOk link && slotOk header
  | .nak link header => linkOk link && slotOk header
  | .replayPrbsCheck link _ => linkOk link
  | .linkAckTimeout link => linkOk link
  | .linkIdentity link message => linkOk link && message.length == 128
  | .linkTrainingComplete link => linkOk link
  | .lanePrbsTestEnd link _ => linkOk link
  | .bypassReleaseRequest link header => linkOk link && slotOk header
  | .bypassReleaseGrant link header => linkOk link && slotOk header
  | .timeExchangeTimer => true
  | .timeExchangeRequest link message stampNs stampFrac => linkOk link && message.length == 128 && word64 stampNs && word32 stampFrac
  | .timeExchangeReply link message stampNs stampFrac => linkOk link && message.length == 128 && word64 stampNs && word32 stampFrac
  | .holdoverTimeout => true
  | .freeRunningTimeout => true
  | .timeSourceTakeover => true
  | .groupForm => true
  | .groupDissolve => true
  | .dissolveEffect p slot => paddockOk p && groupOk slot
  | .formationInvite => true
  | .formationReport => true
  | .formationVerdict => true
  | .formationDissolveMessage => true
  | .formationTimeout p slot => paddockOk p && groupOk slot
  | .verdictWaitTimeout p slot => paddockOk p && groupOk slot
  | .collectiveDataMessage => true
  | .expertDispatchMessage => true
  | .expertCombineMessage => true
  | .fabricOpTimeout p _ => paddockOk p
  | .directoryLoadCopy => true
  | .directoryLoadCanonical => true
  | .directoryDump => true
  | .imageData => true
  | .imageAck => true
  | .imageRefusal => true
  | .commitSeal p step result lowestRank => paddockOk p && word64 step && byteOk result && word32 lowestRank
  | .stepCommitTimeout p _ => paddockOk p
  | .pullRequest => true
  | .pullData => true
  | .recoveryCall p => paddockOk p
  | .recoveryStop => true
  | .recoveryReport => true
  | .probeTimeout p => paddockOk p
  | .recoveryPlan => true
  | .restoreComplete p => paddockOk p
  | .recoveryRestored => true
  | .standbyProbe => true
  | .standbyAnswer => true
  | .recoveryAbandon p => paddockOk p
  | .offloadStart p => paddockOk p
  | .offloadComplete p => paddockOk p
  | .fetchStart p => paddockOk p
  | .fetchComplete p j => paddockOk p && allocationOk j
  | .deadlineDecision p _ => paddockOk p
  | .recomputeComplete p j => paddockOk p && allocationOk j
  | .staging p _ => paddockOk p
  | .allocationZeroed p j => paddockOk p && allocationOk j
  | .allocationReleaseEnd p j => paddockOk p && allocationOk j
  | .heldFormCompaction p j => paddockOk p && allocationOk j
  | .retainedFill p => paddockOk p
  | .cxlEnumeration devices => devices.all cxlDeviceOk
  | .cxlPoison p addr => paddockOk p && word64 addr
  | .cxlTierLost => true
  | .hbmEccError _ p addr stack => paddockOk p && word64 addr && stackOk stack
  | .patrolScrub => true
  | .flashMount targets cellType _ _ => decide (targets < 2 ^ 128) && byteOk cellType
  | .wearLeveling _ _ => true
  | .disturbanceRelocation _ => true
  | .retentionScan _ => true
  | .garbageCollection levels => decide (levels.free ≤ 1000 ∧ levels.spare ≤ 1000)
  | .nandFailure kind unit => nandOk kind && decide (unit < 128)
  | .sampleAdmission p _ => paddockOk p
  | .sampleDecoded p _ unit => paddockOk p && drillUnitOk unit
  | .decodeBudgetExceeded p _ unit => paddockOk p && drillUnitOk unit
  | .sampleAugmented p _ unit => paddockOk p && drillUnitOk unit
  | .batchPreparation p _ => paddockOk p
  | .parityError cls unit => unitOk cls unit
  | .targetedTestEnd cls unit _ => unitOk cls unit
  | .dictionaryRequest path _ => pathOk path
  | .read => true
  | .objectWrite => true
  | .readShadow => true
  | .discardShadow => true
  | .readAndClear => true
  | .describe => true
  | .paddockCreate => true
  | .paddockDelete => true
  | .allocationCreate => true
  | .allocationRelease => true
  | .allocationUpdate => true
  | .qpReady => true
  | .qpReset => true
  | .portModeChange => true
  | .linkEnable => true
  | .counterFreeze => true
  | .attestationNonce => true
  | .attestationReportSigned => true
  | .clearLog => true
  | .clearDegraded => true
  | .flashFormat => true
  | .prepareShutdown => true
  | .trim => true
  | .lock => true
  | .unlock => true
  | .enterMaintenance => true
  | .leaveMaintenance => true
  | .release => true
  | .releaseComplete => true
  | .decommission => true
  | .generateIdentity => true
  | .provision => true
  | .claim => true
  | .ownerKeyChange => true
  | .tenantKey => true
  | .updateBegin => true
  | .updateEraseComplete => true
  | .updateChunk => true
  | .updateFinish => true
  | .updateActivate => true
  | .updateAbort => true
  | .restartMainDie => true
  | .raiseRollbackFloor => true
  | .rescueChunk => true
  | .rescueBoot => true
  | .bistStart => true
  | .bistAbort => true
  | .bistPhaseEnd failed => failed.all fun u => unitOk u.1 u.2
  | .bistRunEnd => true
  | .aoPowerGood => true
  | .mainPowerGood => true
  | .firmwareBoot => true
  | .hbmTrained stackMask => decide (stackMask < 2 ^ 12)
  | .hostPortLinked port => portOk port
  | .deviceReady => true
  | .mainPowerLoss => true
  | .mainReset _ => true
  | .aoRailLoss => true
  | .refclkSysLoss => true
  | .refclkSysRestored => true
  | .refclkCxlLoss port => decide (port < 2)
  | .aoClkLoss => true
  | .derateAssert cause => derateOk cause
  | .derateEndTimer => true
  | .pmbusAlert words => words.all fun w => decide (w < 65536)
  | .pmbusPoll readings => readings.all readingOk
  | .powerEstimateTick _ => true
  | .clockStepUp => true
  | .droopDetect rail cycles => decide (rail < 16) && decide (1 ≤ cycles) && decide (cycles ≤ 4)
  | .thermalThrottle _ _ => true
  | .thermalTrip _ _ => true
  | .thermalTripsClear => true
  | .tapInstruction _ => true
  | .mainRstNRelease => true
  | .aoClkRestored => true
  | .headlandPairTrained pair => decide (pair < 24)
  | .fecLockLoss link => linkOk link
  | .linkAckDue link => linkOk link
  | .ackArrival q _ => queueOk q.q
  | .frameDropped port _ => portOk port
  | .paddockActive p => paddockOk p
  | .paddockAbsent p => paddockOk p
  | .delayRequestInterval => true
  | .overflowSample strip plot counter => stripOk strip && plotOk plot && counterOk counter

end Sys2Proof
end

