-- ==== Sys2Proof/Certificates/Slice0/Obligations.lean ====
section
/-! DEFINITION. The statements for the provers. -/

open Sys2Proof Sys2Proof.Machine

/-! ### The whole machine -/

/-- A step takes the command at the front of the queue and answers what `exec` answers on the state with the
queue's rest (the block's form; the queue itself is the model's). -/
def Obligations.StepRunsFront : Prop :=
  ∀ (c : Instr) (rest : List Instr) (s : State),
    step { s with pending := c :: rest } = exec c { s with pending := rest }

/-- DESIGN CHOICE (log entry 1). On an empty queue a step lets 20 ns pass: with the always-on rail up and an
uncorrected clock, device time goes on by 20 ns and the queue stays empty. With no packet held back and no unit in a
plot, nothing leaves the device and no strip changes; where besides no control word is written, no counter moves, and
paddocks and memories stay as they are. Before the rail is up nothing changes at all. -/
def Obligations.IdleTick : Prop :=
  ∀ s : State, s.pending = [] →
    (s.power.aoGood = false → step s = .next s) ∧
    (s.power.aoGood = true → s.time.slew = 0 → s.time.frac < 4294967296 → s.time.ns + 20 < 2 ^ 64 →
      ∃ t, step s = .next t ∧ t.pending = [] ∧ t.time.ns = s.time.ns + 20 ∧ t.time.frac = s.time.frac
        ∧ (s.outbox = [] → (∀ k q, ((s.strip k).plot q).runs = []) →
            t.out = s.out ∧ t.strips = s.strips ∧ t.links = s.links ∧ t.qps = s.qps ∧ t.life = s.life
            ∧ ((∀ e ∈ s.objs, e.1 / 256 < 0x8040 ∨ 0x8057 < e.1 / 256) →
                t.objs = s.objs ∧ t.paddocks = s.paddocks ∧ t.tiers = s.tiers)))

/-- No command of the table ends in a fault or a refusal: from every state each answers a next state, and the
queue of waiting commands is as it was. -/
def Obligations.EveryCommandGoesOn : Prop :=
  ∀ (c : Instr) (s : State), ∃ t, exec c s = .next t ∧ t.pending = s.pending

/-- From every state in which a decommissioned device rests in reset, every step gives such a state; and once
DECOMMISSIONED, a device is DECOMMISSIONED for ever (R432: the main die is held in reset for ever). -/
def Obligations.DecommissionedForEver : Prop :=
  ∀ s t : State, step s = .next t → s.retiredRests = true →
    t.retiredRests = true ∧ (s.life.state = .retired → t.life.state = .retired)

/-- The life-cycle state changes only by the commands of object 0x1101, by a claim, and by the end of a
release (R428, R430, R431). -/
def Obligations.LifeStateChangesOnlyBy : Prop :=
  ∀ (c : Instr) (s t : State), exec c s = .next t → t.life.state ≠ s.life.state →
    c ∈ [.lock, .unlock, .enterMaintenance, .leaveMaintenance, .decommission, .provision, .claim,
      .releaseComplete]

/-- A step that changes the identity private key either runs GENERATE_IDENTITY on a device in BLANK that has no
identity yet, or it decommissions the device and leaves it with none (R424, R428, R432). -/
def Obligations.IdentityKeyIsSafe : Prop :=
  ∀ (c : Instr) (s t : State), exec c s = .next t → t.life.privateKey ≠ s.life.privateKey →
    (c = .generateIdentity ∧ s.life.state = .blank ∧ s.life.hasIdentity = false) ∨
    (c = .decommission ∧ t.life.privateKey = none ∧ t.life.state = .retired)

/-- The rollback floor is a fuse counter: no step lowers it or gives a fuse step back, and a command that
changes it is RAISE_ROLLBACK_FLOOR, which spends one step and sets the floor to the rollback index of the
running image (R436). -/
def Obligations.RollbackFloorNeverFalls : Prop :=
  (∀ s t : State, step s = .next t →
    s.firmware.floor ≤ t.firmware.floor ∧ t.firmware.stepsLeft ≤ s.firmware.stepsLeft) ∧
  (∀ (c : Instr) (s t : State), exec c s = .next t → t.firmware.floor ≠ s.firmware.floor →
    c = .raiseRollbackFloor ∧ t.firmware.floor = s.firmware.rollback
      ∧ t.firmware.stepsLeft = s.firmware.stepsLeft - 1)

/-- After reset a device is not decommissioned and running; every memory lists nothing and has its canonical form;
no shadow stands. Each byte of HBM and CXL of every paddock, and of flash, reads as 0 (log entry 7), and each byte of
a firmware slot as 0xFF (log entry 6). -/
def Obligations.InvariantsAtReset : Prop :=
  State.reset.retiredRests = true ∧ State.reset.memoriesOk = true ∧ State.reset.shadowsOk = true ∧
  (∀ p a, State.reset.byteAt p a = 0) ∧
  (∀ n o, memBytes 0xFF (State.reset.firmware.slot n) o 1 = [0xFF])

/-- From every state whose memories have their canonical form, every step gives such a state; and from every state
whose shadows are all of objects of class RWS (R402), every step gives such a state. -/
def Obligations.InvariantsKept : Prop :=
  (∀ s t : State, step s = .next t → s.memoriesOk = true → t.memoriesOk = true) ∧
  (∀ s t : State, step s = .next t → s.shadowsOk = true → t.shadowsOk = true)

/-- Bytes written by a paddock inside one window are read back from their addresses; every other address of
that paddock reads as before, HBM and CXL of every other paddock too; bytes outside every window are dropped
and read as 0 (R97). The memories keep their canonical form. -/
def Obligations.MemoryWrites : Prop :=
  ∀ (s : State) (p a : Nat) (bs : List Byte), p < 8 → s.memoriesOk = true →
    (s.writeBytes p (placeAt a bs)).memoriesOk = true ∧
    (∀ w, (∀ i, i < bs.length → windowOf (a + i) = some w) →
      (s.writeBytes p (placeAt a bs)).bytesAt p a bs.length = bs) ∧
    (∀ c, c < a ∨ a + bs.length ≤ c → (s.writeBytes p (placeAt a bs)).byteAt p c = s.byteAt p c) ∧
    (∀ q, q ≠ p → ((s.writeBytes p (placeAt a bs)).pad q) = s.pad q) ∧
    (∀ c, windowOf c = none → (s.writeBytes p (placeAt a bs)).byteAt p c = 0)

/-! ### The dictionary server -/

/-- DICTIONARY_REQUEST. On an open path a well-formed request whose principal and tag are right and whose
counter is new joins the end of the queue, after every request that waits, and nothing else of the queue
changes; with the queue full it is dropped and counted in object 0x1087. A request that is not authentic is
dropped and counted in 0x1086. One with the last counter gets the response sent before, unchanged; one with a
lower counter is dropped and counted in 0x1088. On a path that is not open nothing happens. `arriveOn` counts
the datagram at its port and queue pair, and answers a congestion mark. -/
def Obligations.RequestArrives : Prop :=
  ∀ (x : DictPath) (b : List Byte) (s : State),
    let r := parseReq x b
    let u := arriveOn s x
    (s.pathOpen x = false → exec (.dictionaryRequest x b) s = .next s) ∧
    (s.pathOpen x = true →
      b.length < 64 ∨ r.version ≠ 1 ∨ b.length ≠ 64 + r.len ∨ pathLimit x < b.length →
      exec (.dictionaryRequest x b) s = .next (u.addObj 0x1087 0 1)) ∧
    (s.pathOpen x = true → 64 ≤ b.length → r.version = 1 → b.length = 64 + r.len → b.length ≤ pathLimit x →
      (authentic u r b = false → exec (.dictionaryRequest x b) s = .next (u.addObj 0x1086 0 1)) ∧
      (authentic u r b = true →
        (u.freshness r = .fresh → u.requests.length < queueDepth →
          exec (.dictionaryRequest x b) s =
            .next { u with requests := u.requests ++ [{ path := x, bytes := b }] }) ∧
        (u.freshness r = .fresh → queueDepth ≤ u.requests.length →
          exec (.dictionaryRequest x b) s = .next (u.addObj 0x1087 0 1)) ∧
        (u.freshness r = .old → exec (.dictionaryRequest x b) s = .next (u.addObj 0x1088 0 1)) ∧
        (∀ old, u.freshness r = .again old → exec (.dictionaryRequest x b) s = .next (u.respond x old))))

/-- Against the last accepted counter of its principal, a request with a higher counter is executed, one with
the same counter is answered again with the response sent before, and one with a lower counter is dropped, as
is one with the same counter when no response exists. A public request is always executed (R393).
For each of the 50 commands that are requests. With no request waiting, or one of another row in front, the
command changes nothing. Otherwise the request in front leaves the queue; an old one is counted in object
0x1088, and one with the last counter gets its response again, and neither has any other effect. A new one
that fails a check of R472 is answered with that result and changes nothing but its counter, its response and
the count of refusals; a firmware-update refusal (result 0x08) also adds 1 to object 0x1218. -/
def Obligations.FrontAndCounter : Prop :=
  (∀ (s : State) (r : Req),
    (8 < r.principal → s.freshness r = .fresh) ∧
    (∀ x, s.principal r.principal = some x →
      (x.counter < r.counter ↔ s.freshness r = .fresh) ∧
      (r.counter < x.counter → s.freshness r = .old) ∧
      (r.counter = x.counter → x.response = none → s.freshness r = .old) ∧
      (∀ b, r.counter = x.counter → x.response = some b → s.freshness r = .again b))) ∧
  (∀ (row : Row) (s : State),
    (s.requests = [] → exec row.command s = .next s) ∧
    (∀ (x : Request) (rest : List Request), s.requests = x :: rest →
      let r := x.req
      let v : State := { s with requests := rest }
      let u := v.modPrincipal r.principal fun p => { p with counter := r.counter }
      (rowOf s r ≠ row → exec row.command s = .next s) ∧
      (rowOf s r = row →
        (v.freshness r = .old → exec row.command s = .next (v.addObj 0x1088 0 1)) ∧
        (∀ b, v.freshness r = .again b → exec row.command s = .next (v.respond r.path b)) ∧
        (v.freshness r = .fresh → ∀ c st, checks u r = some (c, st) → c ≠ 8 →
          exec row.command s = .next (finish r (s.key r.principal) (refuse u c))) ∧
        (v.freshness r = .fresh → ∀ st, checks u r = some (8, st) →
          exec row.command s = .next (finish r (s.key r.principal)
            { state :=
                { u.addObj 0x1218 0 1 with
                  firmware := if u.firmware.update = .erasing ∨ u.firmware.update = .receiving then
                      u.firmware.abandon else u.firmware }
              result := 8, status := st })))))

/-- A response carries the protocol version, the operation with bit 7 set, the request's principal, target,
identifier, counter, index and first subindex, the count and length returned, result, status, flags and apply
number at the offsets of R396, and its values follow the 64-byte header.
The response to a request is the last thing to leave the device where its path is still open and no pause holds
packets back; the
principal's last counter and last response are the request's own, unless the request wrote that principal's
key; nothing else of the device changes but the counters of sent responses, of refusals and of frames. -/
def Obligations.Responses : Prop :=
  (∀ (r : Req) (a : Answer) (k : Option (List Byte)),
    r.principal < 256 → r.target < 256 → r.ident < 2 ^ 32 → r.counter < 2 ^ 64 → r.index < 2 ^ 16 →
    r.sub < 256 → a.count < 256 → a.values.length < 2 ^ 32 → a.result < 256 → a.status < 256 → a.flags < 256 →
    a.apply < 2 ^ 32 →
    let b := responseBytes r a none
    leField b 0 1 = 1 ∧ leField b 1 1 = r.op % 128 + 128 ∧ leField b 2 1 = r.principal
      ∧ leField b 3 1 = r.target ∧ leField b 4 4 = r.ident ∧ leField b 8 8 = r.counter
      ∧ leField b 0x10 2 = r.index ∧ leField b 0x12 1 = r.sub ∧ leField b 0x13 1 = a.count
      ∧ leField b 0x14 4 = a.values.length ∧ leField b 0x18 1 = a.result ∧ leField b 0x19 1 = a.status
      ∧ leField b 0x1A 1 = a.flags ∧ leField b 0x1B 1 = 0 ∧ leField b 0x1C 4 = a.apply
      ∧ b.drop 64 = a.values ∧ b.take 32 = (responseBytes r a k).take 32) ∧
  (∀ (r : Req) (k : Option (List Byte)) (a : Answer),
    let t := finish r k a
    (t.pathOpen r.path = true → r.path = .field ∨ a.state.flows → t.out = a.state.out ++ [.response r.path (responseBytes r a k)]) ∧
    (t.pathOpen r.path = false → t.out = a.state.out) ∧
    (∀ p, a.rekey = false → a.state.principal r.principal = some p →
      t.principal r.principal = some { p with counter := r.counter, response := some (responseBytes r a k) }) ∧
    (a.rekey = true → t.life = a.state.life) ∧
    t.requests = a.state.requests ∧ t.strips = a.state.strips ∧ t.links = a.state.links
      ∧ t.firmware = a.state.firmware ∧ t.power = a.state.power ∧ t.faults = a.state.faults
      ∧ t.tiers = a.state.tiers ∧ t.time = a.state.time ∧ t.life.state = a.state.life.state
    ∧ (∀ p, (t.pad p).hbm = (a.state.pad p).hbm ∧ (t.pad p).cxl = (a.state.pad p).cxl
        ∧ (t.pad p).allocs = (a.state.pad p).allocs ∧ (t.pad p).shadows = (a.state.pad p).shadows))

/-- A tenant that names another paddock's T object of the per-paddock kind may not write it, and a read gives
zeros, whether or not that paddock exists; the public principal may use neither an O nor a T object (R391). A
read of such zeros returns result 0x00 and does not depend on the other paddock at all. -/
def Obligations.TenantsAreApart : Prop :=
  ∀ (s : State) (r : Req) (row : ObjRow) (sub : Nat), r.index ≠ 0x1110 →
    (r.principal < 8 → row.priv = 1 → row.perPaddock = true → r.target ≠ 0xFF → r.target ≠ r.principal →
      right s r row sub = (if r.writes then .no else .zeros)) ∧
    (r.principal < 8 → row.priv = 0 → right s r row sub = .no) ∧
    (r.principal = 0x0F → row.priv ≠ 2 → right s r row sub = .no) ∧
    (r.writes = false → row.priv = 2 → right s r row sub = .yes) ∧
    (objRow r.index sub = some row → right s r row sub = .zeros →
      readOne s r sub = some (List.replicate row.len 0, s))

/-- A served READ of one subindex returns the object's value, or its default while the main die is down (the
exceptions are the values that are free: log entries 33, 34 and 36). READ_SHADOW returns the shadow with flag [1]
set, or the applied value. READ_AND_CLEAR returns the value and leaves the object at 0 (R401; object 0x2036
also releases THERMTRIP_N). DESCRIBE of one subindex returns its 8-byte entry and changes nothing. -/
def Obligations.ReadsAnswer : Prop :=
  AnswersWith .read (fun u r a => ∀ row, objRow r.index r.sub = some row → r.count = 1 →
    right u r row r.sub = .yes → 64 + (u.value r.principal r.paddock r.index r.sub).length ≤ pathLimit r.path →
    plainIndex r.index →
    (u.power.running = true ∨ alwaysOn r.index = true) →
    a.makes u ∧ a.count = 1 ∧ a.flags = 0 ∧ a.values = u.value r.principal r.paddock r.index r.sub) ∧
  AnswersWith .read (fun u r a => ∀ row, objRow r.index r.sub = some row → r.count = 1 →
    right u r row r.sub = .yes → 64 + (defaultBytes r.index r.sub).length ≤ pathLimit r.path →
    u.power.running = false → alwaysOn r.index = false →
    a.makes u ∧ a.count = 1 ∧ a.values = defaultBytes r.index r.sub) ∧
  AnswersWith .read (fun u r a => r.principal = 8 → 0x9410 ≤ r.index → r.index ≤ 0x9413 → r.count = 1 →
    a.result = 0 ∧ 256 * (r.index - 0x9410) + r.sub ∉ a.state.faults.unread
      ∧ a.values = u.value 8 r.paddock r.index r.sub) ∧
  AnswersWith .readShadow (fun u r a => ∀ row x, objRow r.index r.sub = some row →
    right u r row r.sub = .yes → plainIndex r.index → u.power.running = true →
    (u.pad r.paddock).shadow (okey r.index r.sub) = some x →
    a.makes u ∧ a.flags = 2 ∧ a.values = leBytes row.len x.value) ∧
  AnswersWith .readShadow (fun u r a => ∀ row, objRow r.index r.sub = some row →
    right u r row r.sub = .yes → plainIndex r.index → u.power.running = true →
    (u.pad r.paddock).shadow (okey r.index r.sub) = none →
    64 + (u.value r.principal r.paddock r.index r.sub).length ≤ pathLimit r.path →
    a.makes u ∧ a.flags = 0 ∧ a.values = u.value r.principal r.paddock r.index r.sub) ∧
  AnswersWith .readAndClear (fun u r a => ∀ row, objRow r.index r.sub = some row →
    right u r row r.sub = .yes → r.index ≠ 0x2036 → plainIndex r.index →
    (u.power.running = true ∨ alwaysOn r.index = true) →
    64 + (u.value r.principal r.paddock r.index r.sub).length ≤ pathLimit r.path →
    a.makes (u.store r 0) ∧ a.values = u.value r.principal r.paddock r.index r.sub) ∧
  AnswersWith .describe (fun u r a => ∀ row, objRow r.index r.sub = some row → r.count = 1 →
    a.makes u ∧ a.count = 1 ∧ leField a.values 0 1 = row.type % 256 ∧ leField a.values 1 1 = row.access % 256
      ∧ leField a.values 2 1 = row.priv % 256 ∧ leField a.values 4 2 = row.len % 65536 ∧ a.values.length = 8)

/-- A served OBJECT_WRITE of an RWS object replaces the object's shadow, leaves the applied value, and its
response sets flag [0] and names the next apply (R402, R403). A W1C write of v leaves old AND NOT v (R401). An
RW object without further effects takes the value at once and reads it back (R400). A value outside the rules
of the object's chapter is refused with 0x04 and changes nothing. DISCARD_SHADOW removes the shadow of its
object, and no other (R403). -/
def Obligations.WritesStore : Prop :=
  AnswersWith .objectWrite (fun u r a => ∀ row, objRow r.index r.sub = some row → row.access = 4 →
    ¬ (0x3900 ≤ r.index ∧ r.index ≤ 0x390F) → ¬ (0x4100 ≤ r.index ∧ r.index ≤ 0x410F) → r.index ≠ 0x1010 →
    (inRange u r.paddock r.index r.sub (cleaned r.index r.num) = true → r.paddock < 8 →
      a.result = 0 ∧ a.flags = 1 ∧ a.apply = (u.pad r.paddock).obj 0x108B 0 + 1
        ∧ (∀ q, (a.state.pad q).objs = (u.pad q).objs)
        ∧ ((a.state.pad r.paddock).shadow (okey r.index r.sub)).map (·.value) = some (cleaned r.index r.num)) ∧
    (inRange u r.paddock r.index r.sub (cleaned r.index r.num) = false → a.refuses 4 u)) ∧
  AnswersWith .objectWrite (fun u r a => ∀ row, objRow r.index r.sub = some row → row.access = 3 →
    r.index ≠ 0x2036 →
    a.makes (u.store r (u.stored r &&& (u.stored r ^^^ (u.stored r &&& cleaned r.index r.num))))) ∧
  AnswersWith .objectWrite (fun u r a => ∀ row, objRow r.index r.sub = some row → row.access = 1 →
    r.index ∉ [0x2011, 0x4010, 0x500D, 0x5810, 0x5C00, 0x5C08, 0x1010, 0x9009] →
    ¬ (0x3900 ≤ r.index ∧ r.index ≤ 0x390F) → ¬ (0x4100 ≤ r.index ∧ r.index ≤ 0x410F) →
    ¬ (0x8040 ≤ r.index ∧ r.index ≤ 0x8057) →
    (inRange u r.paddock r.index r.sub (cleaned r.index r.num) = true →
      a.makes (u.store r (cleaned r.index r.num))
        ∧ (r.paddock < 8 → a.state.stored r = cleaned r.index r.num)) ∧
    (inRange u r.paddock r.index r.sub (cleaned r.index r.num) = false → a.refuses 4 u)) ∧
  AnswersWith .discardShadow (fun u r a => r.paddock < 8 → a.result = 0 ∧
    (∀ x, x ∈ (a.state.pad r.paddock).shadows ↔
      x ∈ (u.pad r.paddock).shadows ∧ x.key ≠ okey r.index r.sub) ∧
    (∀ q, q ≠ r.paddock → a.state.pad q = u.pad q) ∧ a.state.objs = u.objs)

/-! ### Life cycle, keys and firmware -/

/-- With the right confirmation and from the state that R428 lists, LOCK moves the device to OWNED_LOCKED and
abandons an update under way, UNLOCK moves it back to OWNED, ENTER_MAINTENANCE with no paddock to MAINTENANCE,
LEAVE_MAINTENANCE with no self-test running to OWNED, and RELEASE with no paddock starts the release, after
which writes are no longer accepted (R431). Nothing else of the device changes. In every other case each is
refused with 0x04 and changes nothing. -/
def Obligations.LifeCommands : Prop :=
  AnswersWith .lock (fun u r a =>
    if confirmed u r = true ∧ u.life.state = .owned then
      a.makes { u with
        life := { u.life with state := .ownedLocked }
        firmware := if u.firmware.update = .idle then u.firmware else u.firmware.abandon }
    else a.refuses 4 u) ∧
  AnswersWith .unlock (fun u r a =>
    if confirmed u r = true ∧ u.life.state = .ownedLocked then
      a.makes { u with life := { u.life with state := .owned } }
    else a.refuses 4 u) ∧
  AnswersWith .enterMaintenance (fun u r a =>
    if confirmed u r = true ∧ u.life.state = .owned ∧ u.noPaddock = true then
      a.makes { u with life := { u.life with state := .maintenance } }
    else a.refuses 4 u) ∧
  AnswersWith .leaveMaintenance (fun u r a =>
    if confirmed u r = true ∧ u.life.state = .maintenance ∧ u.bist.state ≠ 1 then
      a.makes { u with life := { u.life with state := .owned } }
    else a.refuses 4 u) ∧
  AnswersWith .release (fun u r a =>
    if confirmed u r = true ∧ (u.life.state = .owned ∨ u.life.state = .maintenance)
        ∧ u.noPaddock = true then
      a.makes { u with life := { u.life with transition := some false } }
    else a.refuses 4 u)

/-- From the manufacturing principal on a device in BLANK without an identity, GENERATE_IDENTITY makes a key
pair: a private number between 1 and the group order (a free value, log entry 2) and its public key. PROVISION
with an identity whose certificate verifies moves the device to PROVISIONED and erases the manufacturing key. Each
is refused with 0x04 in every other case, and then changes nothing.
The end of a release erases flash, clears every key and the owner's commitment, leaves the device
PROVISIONED with no paddock, and keeps the identity, the certificate, the retirement records of units other
than links and the error log but for what the restart brings (R431). A decommission destroys the identity private
key, erases flash, and leaves the device DECOMMISSIONED with its main die in reset (R432); it needs the
confirmation, OWNED or MAINTENANCE, and no paddock, and is refused with 0x04 otherwise. -/
def Obligations.IdentityToDecommission : Prop :=
  (AnswersWith .generateIdentity (fun u r a =>
    if confirmed u r = true ∧ u.life.state = .blank ∧ u.life.manufacturing = true
        ∧ u.life.hasIdentity = false then
      ∃ d, 1 ≤ d ∧ d < Crypto.order521 ∧ a.makes { u with
        free := u.free + 1
        life := { u.life with privateKey := some d, publicKey := Crypto.publicKey d } }
    else a.refuses 4 u) ∧
  AnswersWith .provision (fun u r a =>
    if confirmed u r = true ∧ u.life.state = .blank ∧ u.life.manufacturing = true ∧ u.life.hasIdentity = true
        ∧ Config.certificateVerifies (u.life.certificate.take u.life.certLen) u.life.publicKey = true then
      a.rekey = true ∧ a.makes { u with life := { u.life with
        state := .provisioned, manufacturing := false
        principals := u.life.principals.modify 8 fun _ => { key := none, counter := 0, response := none } } }
    else a.refuses 4 u)) ∧
  ((∀ s : State, s.life.transition = some false → ∃ t, exec .releaseComplete s = .next t
    ∧ t.life.state = .provisioned ∧ t.life.transition = none ∧ t.tiers.flash = []
    ∧ t.life.principals.all (fun x => x.key.isNone) = true ∧ t.life.ownerCommitment = List.replicate 64 0
    ∧ t.life.privateKey = s.life.privateKey ∧ t.life.publicKey = s.life.publicKey
    ∧ t.life.certificate = s.life.certificate ∧ t.faults.entries = s.faults.entries
    ∧ t.faults.retired = s.faults.retired.filter (fun u => u.1 != UnitClass.chipLink)
    ∧ (∀ p, (t.pad p).phase = .absent)) ∧
  (∀ s : State, s.life.transition = none → exec .releaseComplete s = .next s) ∧
  AnswersWith .decommission (fun u r a =>
    if confirmed u r = true ∧ (u.life.state = .owned ∨ u.life.state = .maintenance)
        ∧ u.noPaddock = true then
      a.result = 0 ∧ a.state.life.state = .retired ∧ a.state.life.privateKey = none
        ∧ a.state.life.nonces = [] ∧ a.state.tiers.flash = [] ∧ a.state.power.running = false
        ∧ a.state.life.publicKey = u.life.publicKey ∧ a.state.life.certificate = u.life.certificate
    else a.refuses 4 u))

/-- A claim of a PROVISIONED device whose wrapped key unwraps sets the owner's key with its request counter at 0
and the owner key commitment, and the device is OWNED (R430). An owner's key that unwraps under the current
K_w replaces the old one; a tenant's key is set for its paddock. A wrapped key that fails to unwrap is refused
with 0x04 and counted in object 0x1130 (R429); a claim in any other state is refused with 0x04. -/
def Obligations.KeysAreSet : Prop :=
  AnswersWith .claim (fun u r a =>
    let kek := claimKek u (sliceBytes r.value 8 133)
    let got := kek.bind fun k => Crypto.unwrap k (sliceBytes r.value 0x90 72)
    (u.life.state ≠ .provisioned → a.refuses 4 u) ∧
    (u.life.state = .provisioned → leField r.value 0 2 = 1 → got = none →
      a.refuses 4 (u.addObj 0x1130 0 1)) ∧
    (∀ key, u.life.state = .provisioned → leField r.value 0 2 = 1 → got = some key →
      a.makes { u with life := { u.life with
        state := .owned, ownerCommitment := Crypto.sha512 key
        principals := u.life.principals.modify 8 fun _ =>
          { key := some key, counter := 0, response := none } } })) ∧
  AnswersWith .ownerKeyChange (fun u r a =>
    (Crypto.unwrap (ownerKek u) r.value = none → a.refuses 4 (u.addObj 0x1130 0 1)) ∧
    (∀ key, Crypto.unwrap (ownerKek u) r.value = some key →
      a.rekey = true ∧ a.makes { u with life := { u.life with
        ownerCommitment := Crypto.sha512 key
        principals := u.life.principals.modify 8 fun _ =>
          { key := some key, counter := 0, response := none } } })) ∧
  AnswersWith .tenantKey (fun u r a =>
    (Crypto.unwrap (ownerKek u) r.value = none → a.refuses 4 (u.addObj 0x1130 0 1)) ∧
    (∀ key, Crypto.unwrap (ownerKek u) r.value = some key →
      a.makes { u with life := { u.life with
        principals := u.life.principals.modify r.sub fun _ =>
          { key := some key, counter := 0, response := none } } }))

/-- A nonce joins the end of the nonces that wait. The island answers the oldest one: its report, the body of R442
with the nonce in it and a signature of the identity key over its SHA-512 (whose per-message number is a free
value, log entry 2), becomes the report of that principal, and the other reports stay as they were. With no
nonce waiting, or no identity key, nothing happens.
A report begins with version 0x0001, names the life-cycle state and the requester, and carries the nonce at
0x020, the rollback floor at 0x01C and the owner key commitment at 0x120. -/
def Obligations.AttestationReports : Prop :=
  (AnswersWith .attestationNonce (fun u r a =>
    a.makes { u with life := { u.life with
      nonces := u.life.nonces ++ [(r.sub, sliceBytes r.value 0 64)] } }) ∧
  (∀ (s : State) (q : Nat) (nonce : List Byte) (rest : List (Nat × List Byte)) (d : Nat),
    s.life.nonces = (q, nonce) :: rest → s.life.privateKey = some d →
    ∃ k, 1 ≤ k ∧ k < Crypto.order521 ∧ exec .attestationReportSigned s = .next { s with
      free := s.free + 1
      life := { s.life with
        nonces := rest
        reports := s.life.reports.set q
          (reportBody s q nonce ++ Crypto.sign d k (Crypto.sha512 (reportBody s q nonce))) } }) ∧
  (∀ s : State, s.life.nonces = [] ∨ s.life.privateKey = none →
    exec .attestationReportSigned s = .next s)) ∧
  (∀ (s : State) (q : Nat) (nonce : List Byte), q < 256 → nonce.length = 64 → s.life.ownerCommitment.length = 64 →
    s.firmware.floor < 2 ^ 32 →
    let b := reportBody s q nonce
    b.length = 380 ∧ leField b 0 2 = 1 ∧ leField b 2 1 = lifeCode s.life.state ∧ leField b 4 1 = q
      ∧ leField b 0x18 4 = s.address ∧ leField b 0x1C 4 = s.firmware.floor ∧ sliceBytes b 0x20 64 = nonce
      ∧ sliceBytes b 0x60 64 = s.identityDigest ∧ sliceBytes b 0x120 64 = s.life.ownerCommitment
      ∧ leField b 0x160 1 = (if q = 8 then 0xFF else q))

/-- An update goes through the states of R437. A begin whose source version, source digest and target length fit
enters erasing and marks the inactive slot (R439); the erase of the sectors of the target length leaves the rest
of that slot as it was and enters receiving. A chunk of literal bytes is programmed where the last output ended,
in the inactive slot only; a chunk that is not at the offset reached is refused with 0x04. A finish of a written
slot whose SHA-512 is the target digest is staged, and otherwise abandons the update. An activation of a
staged update makes the inactive slot the next boot slot; an abort returns to idle. The running slot keeps its
bytes throughout. -/
def Obligations.UpdateRows : Prop :=
  AnswersWith .updateBegin (fun u r a =>
    if beginOk u.firmware r.value = true then
      a.result = 0 ∧ a.state.firmware.update = .erasing ∧ a.state.firmware.header = r.value
        ∧ a.state.firmware.received = 0 ∧ a.state.firmware.written = 0
        ∧ a.state.firmware.states = u.firmware.states.set u.firmware.inactive 4
        ∧ a.state.firmware.slotA = u.firmware.slotA ∧ a.state.firmware.slotB = u.firmware.slotB
    else a.refuses 4 u) ∧
  (∀ s : State, s.firmware.update = .erasing → Memory.wf 0xFF (s.firmware.slot s.firmware.inactive) = true →
    ∃ t, exec .updateEraseComplete s = .next t ∧ t.firmware.update = .receiving
      ∧ (∀ a, memRead 0xFF (t.firmware.slot s.firmware.inactive) a =
          if a < 65536 * ceilDiv s.firmware.target 65536 then 0xFF
          else memRead 0xFF (s.firmware.slot s.firmware.inactive) a)
      ∧ t.firmware.slot (1 - s.firmware.inactive) = s.firmware.slot (1 - s.firmware.inactive)
      ∧ t.paddocks = s.paddocks ∧ t.objs = s.objs ∧ t.life = s.life) ∧
  (∀ s : State, s.firmware.update ≠ .erasing → exec .updateEraseComplete s = .next s) ∧
  AnswersWith .updateChunk (fun u r a =>
    (u.firmware.update ≠ .receiving ∨ leField r.value 0 8 ≠ u.firmware.received → a.refuses 4 u) ∧
    (∀ g, u.firmware.update = .receiving → leField r.value 0 8 = u.firmware.received →
      u.firmware.received < u.firmware.stream →
      (let n := min 1024 (u.firmware.stream - u.firmware.received)
       let f := { u.firmware with
         received := u.firmware.received + n, carry := u.firmware.carry ++ (r.value.drop 8).take n }
       decodeRecords (f.carry.length / 8 + 1) f = some g) →
      a.makes { u with firmware := g }
        ∧ g.slot (1 - u.firmware.inactive) = u.firmware.slot (1 - u.firmware.inactive)
        ∧ u.firmware.written ≤ g.written)) ∧
  AnswersWith .updateFinish (fun u r a =>
    (r.num = 1 → finishOk u.firmware = true → a.makes { u with firmware := { u.firmware with
      update := .staged, states := u.firmware.states.set u.firmware.inactive 1 } }) ∧
    (r.num = 1 → finishOk u.firmware = false → u.firmware.update ≠ .idle →
      a.refuses 4 { u with firmware := u.firmware.abandon })) ∧
  AnswersWith .updateActivate (fun u r a =>
    (r.num = 1 → u.firmware.update = .staged → a.makes { u with firmware := { u.firmware with
      nextSlot := u.firmware.inactive, update := .idle } }) ∧
    (r.num = 1 → u.firmware.update ≠ .staged → a.refuses 4 u)) ∧
  AnswersWith .updateAbort (fun u r a => r.num = 1 →
    a.result = 0 ∧ a.state.firmware.update = .idle
      ∧ (u.firmware.update ≠ .idle →
          a.state.firmware.states = u.firmware.states.set u.firmware.inactive 3)
      ∧ a.state.firmware.slotA = u.firmware.slotA ∧ a.state.firmware.slotB = u.firmware.slotB)

/-- A slot that passes every boot check runs; a slot that fails one is invalid, and the other is tried, which is
recorded as 0x63; with both invalid the main die stays in reset and firmware is absent (R434, R435). Each boot is
counted. The floor rises to the running image's index only when it would rise, the image is no fallback and a fuse
step is left (R436). A restart is refused while a paddock exists or a self-test runs. A rescue writes slot A at
rising offsets, erasing it at offset 0, and a rescue boot makes slot A the next boot slot (R441). -/
def Obligations.BootAndRescue : Prop :=
  (∀ s : State, s.power.running = true → s.power.firmware = false →
    let f := { s.firmware with bootCount := (s.firmware.bootCount + 1) % 2 ^ 32 }
    let n := s.firmware.nextSlot
    (bootCheck f n = none → ∃ t, exec .firmwareBoot s = .next t
      ∧ t.firmware = { f with running := some n, nextSlot := n, states := f.states.set n 2, lastResult := 0 }
      ∧ t.power = { s.power with firmware := true } ∧ t.obj 0x1007 0 = f.field n 4 4
      ∧ t.faults = s.faults ∧ t.paddocks = s.paddocks) ∧
    (∀ c, n ≤ 1 → bootCheck f n = some c → bootCheck (f.invalid n) (1 - n) = none →
      ∃ t, exec .firmwareBoot s = .next t ∧ t.firmware.running = some (1 - n) ∧ t.firmware.nextSlot = 1 - n
        ∧ t.firmware.lastResult = 0x63 ∧ t.firmware.bootCount = f.bootCount
        ∧ t.faults.written = (s.faults.written + 1) % 2 ^ 32 ∧ t.power.firmware = true) ∧
    (∀ c c', bootCheck f n = some c → bootCheck (f.invalid n) (1 - n) = some c' →
      ∃ t, exec .firmwareBoot s = .next t ∧ t.firmware.running = none ∧ t.power.absent = true
        ∧ t.power.running = false ∧ t.firmware.lastResult = 0x63)) ∧
  (∀ s : State, s.power.running = false ∨ s.power.firmware = true → exec .firmwareBoot s = .next s) ∧
  AnswersWith .restartMainDie (fun u r a =>
    (r.num = 1 → u.noPaddock = true → u.bist.state ≠ 1 → a.makes u.resetMain.startMain) ∧
    (r.num = 1 → u.noPaddock = false ∨ u.bist.state = 1 → a.refuses 4 u)) ∧
  AnswersWith .raiseRollbackFloor (fun u r a => r.num = 1 →
    if u.firmware.floor < u.firmware.rollback ∧ u.firmware.lastResult ≠ 0x63 ∧ u.firmware.stepsLeft ≠ 0 then
      a.makes { u with firmware := { u.firmware with
        floor := u.firmware.rollback, stepsLeft := u.firmware.stepsLeft - 1 } }
    else a.refuses 4 u) ∧
  AnswersWith .rescueChunk (fun u r a =>
    let o := leField r.value 0 8
    if (o = 0 ∨ o = u.firmware.rescued) ∧ o + 1024 ≤ slotSize then
      a.result = 0 ∧ a.state.firmware.rescued = o + 1024 ∧ a.state.firmware.slotB = u.firmware.slotB
        ∧ (Memory.wf 0xFF u.firmware.slotA = true →
            memBytes 0xFF a.state.firmware.slotA o 1024 = sliceBytes r.value 8 1024
            ∧ (∀ c, c < o → memRead 0xFF a.state.firmware.slotA c = memRead 0xFF u.firmware.slotA c)
            ∧ (∀ c, o = 0 → 1024 ≤ c → memRead 0xFF a.state.firmware.slotA c = 0xFF))
    else a.refuses 4 u) ∧
  AnswersWith .rescueBoot (fun u r a => r.num = 1 →
    a.result = 0 ∧ a.state.firmware.nextSlot = 0 ∧ a.state.firmware.states = u.firmware.states.set 0 1
      ∧ ({ u with power := { u.power with absent := false } }.mayStart = true → a.state.power.running = true
          ∧ a.state.power.absent = false))

/-- A start is accepted exactly in BLANK or MAINTENANCE with no paddock, no run, a test access port at BYPASS or
IDCODE and every selected link free; it takes the selection as it is, counts the run and enters phase 1 (R457). A
phase end notes the failures of the units that the phase tests and goes on to the next wave or phase (R458). An
abort ends a run and changes no retirement record (R461). The end of a run reports the units tested, failed and
returned, and the run's result says whether every unit class has the units it needs: 2 for a pass, else 3 and a
degraded device (R460). -/
def Obligations.SelfTest : Prop :=
  AnswersWith .bistStart (fun u _ a =>
    if (u.life.state = .blank ∨ u.life.state = .maintenance) ∧ u.noPaddock = true ∧ u.bist.state ≠ 1
        ∧ u.power.tap ≤ 1 ∧ u.linksFree = true then
      a.result = 0 ∧ a.state.bist.state = 1 ∧ a.state.bist.phase = 1 ∧ a.state.bist.failed = []
        ∧ a.state.bist.classes = u.obj 0x2401 0 ∧ a.state.bist.links = u.obj 0x2402 0
        ∧ a.state.bist.ports = u.obj 0x2403 0 ∧ a.state.faults = u.faults
        ∧ a.state.obj 0x240B 0 = (u.obj 0x240B 0 + 1) % 2 ^ 32
    else a.refuses 4 u) ∧
  AnswersWith .bistAbort (fun u _ a =>
    a.result = 0 ∧ a.state.faults = u.faults ∧ a.state.links = u.links
      ∧ (u.bist.state = 1 → a.state.bist.state = 4 ∧ a.state.bist.failed = [])
      ∧ (u.bist.state ≠ 1 → a.state = u)) ∧
  (∀ (s : State) (bad : List (UnitClass × Nat)), s.bist.state = 1 → s.bist.phase ≤ 5 →
    ∃ t, exec (.bistPhaseEnd bad) s = .next t
      ∧ t.bist.failed = s.bist.failed ++ bad.filter (fun u => s.bist.tests s.bist.phase s.bist.wave u)
      ∧ (s.bist.phase ≠ 2 ∨ 2 ≤ s.bist.wave → t.bist.phase = s.bist.phase + 1 ∧ t.bist.wave = 0)
      ∧ (s.bist.phase = 2 → s.bist.wave < 2 → t.bist.phase = 2 ∧ t.bist.wave = s.bist.wave + 1)
      ∧ t.faults = s.faults ∧ t.links = s.links) ∧
  (∀ (s : State) (bad : List (UnitClass × Nat)), s.bist.state ≠ 1 ∨ 5 < s.bist.phase →
    exec (.bistPhaseEnd bad) s = .next s) ∧
  (∀ s : State, s.bist.state = 1 → 6 ≤ s.bist.phase → ∃ t, exec .bistRunEnd s = .next t
    ∧ t.bist.phase = 0 ∧ t.bist.failed = []
    ∧ t.obj 0x2407 0 = s.unitsTested ∧ t.obj 0x2408 0 = s.bist.failures.length ∧ t.obj 0x2409 0 = s.returned
    ∧ t.bist.state = (if t.complete then 2 else 3) ∧ t.bist.passedSince = t.complete
    ∧ (t.complete = false → t.faults.degraded = true)) ∧
  (∀ s : State, s.bist.state ≠ 1 ∨ s.bist.phase < 6 → exec .bistRunEnd s = .next s)

/-! ### Power, clocks and temperature -/

/-- The always-on rail brings the island up and its straps into object 0x5400 (R405, R464). With it up, MAIN_PWRGD
starts the main die at 3.3 GHz where nothing holds it in reset; a device without firmware stays in reset (R435). The HBM row completes once, with what trained: a
stack that fails is logged with 0x51, and the device then never becomes ready (R20). A port links. The device is
ready once every row of R20 is complete, or its part reported absent (for ports and links the model's choice, log
entry 119), and the fabric queue pairs written ready are ready again. -/
def Obligations.PowerUp : Prop :=
  (∀ s : State, s.power.aoGood = false → ∃ t, exec .aoPowerGood s = .next t ∧ t.power.aoGood = true
    ∧ t.power.running = s.power.running ∧ t.obj 0x5400 0 = Config.addressStraps % 2 ^ 18
    ∧ t.power.address = Config.addressStraps % 2 ^ 18 ∧ t.paddocks = s.paddocks ∧ t.life = s.life) ∧
  (∀ s : State, s.power.aoGood = true → exec .aoPowerGood s = .next s) ∧
  (∀ s : State, s.power.aoGood = true → s.power.mainGood = false → s.power.rstHeld = false →
    s.power.thermTrip = false → s.power.sysClock = true → s.life.state ≠ .retired → s.power.running = false →
    s.power.absent = false → ∃ t, exec .mainPowerGood s = .next t ∧ t.power.mainGood = true ∧ t.power.running = true
      ∧ t.power.clockMHz = 3300 ∧ t.power.address = s.obj 0x5400 0 % 2 ^ 18 ∧ t.tiers.flashState = 1
      ∧ t.paddocks = s.paddocks ∧ t.life = s.life ∧ t.firmware = s.firmware
      ∧ (∀ n, n < 48 → (s.link n).state = .down → (t.link n).state = .training)) ∧
  (∀ s : State, s.power.aoGood = true → s.power.mainGood = false → s.life.state = .retired ∨ s.power.absent = true →
    exec .mainPowerGood s = .next { s with power := { s.power with mainGood := true } }) ∧
  (∀ (s : State) (mask : Nat), s.power.running = true → s.power.hbm = none →
    ∃ t, exec (.hbmTrained mask) s = .next t
      ∧ t.power = { s.power with hbm := some ((List.range 12).all fun k => mask.testBit k) }
      ∧ t.paddocks = s.paddocks ∧ t.objs = s.objs
      ∧ ((List.range 12).all (fun k => mask.testBit k) = true → t.faults = s.faults)
      ∧ t.faults.degraded = s.faults.degraded) ∧
  (∀ (s : State) (port : Nat), s.power.running = true → s.portUsable port = true →
    ∃ t, exec (.hostPortLinked port) s = .next t ∧ t.obj 0x3801 port = 2 ∧ t.portUp port = !s.portTesting port
      ∧ (∀ q, q ≠ port → t.portUp q = s.portUp q) ∧ t.paddocks = s.paddocks ∧ t.power = s.power) ∧
  (∀ s : State, s.power.running = true → s.power.firmware = true → s.power.hbm = some true →
    s.power.cxlDone = true → s.tiers.flashState ≠ 1 →
    1500000000 ≤ s.power.upNs ∨ (∀ n, n < 8 → s.obj 0x3801 n ≠ 1) →
    2000000000 ≤ s.power.upNs ∨ (∀ n, n < 48 → (s.link n).state ≠ .training ∧ (s.link n).state ≠ .identify) →
    s.power.ready = false → exec .deviceReady s = .next { s with
      power := { s.power with ready := true }, qps := s.qps.map QueuePair.again }) ∧
  (∀ s : State, s.power.running = false ∨ s.power.firmware = false ∨ s.power.hbm ≠ some true
      ∨ s.power.cxlDone = false ∨ s.tiers.flashState = 1
      ∨ (s.power.upNs < 1500000000 ∧ ∃ n, n < 8 ∧ s.obj 0x3801 n = 1)
      ∨ (s.power.upNs < 2000000000 ∧ ∃ n, n < 48 ∧
          ((s.link n).state = .training ∨ (s.link n).state = .identify)) →
    exec .deviceReady s = .next s)

/-- A fall of MAIN_PWRGD, MAIN_RST_N low for at least 10 µs, the loss of REFCLK_SYS and a thermal trip each put the
main die in reset with the effects of R21: no paddock, no work, no shadow, no codebook, and flash, firmware and
identity as they were. The power loss, the clock loss and the trip are logged (R448, R451, R456); MAIN_RST_N shorter
than 10 µs does nothing; a trip asserts THERMTRIP_N and is counted in object 0x2036.
When the always-on rail falls, every setting returns to its default and the error log, the retirement records,
every paddock, link and queue pair are gone; the life-cycle state, the identity, the owner's key, both firmware
slots, the rollback floor and the contents of flash stay. -/
def Obligations.ResetsAndLosses : Prop :=
  ((∀ s : State, s.power.mainGood = true → ∃ t, exec .mainPowerLoss s = .next t ∧ MainInReset s t
    ∧ t.power.mainGood = false ∧ t.faults.written = (s.faults.written + 1) % 2 ^ 32) ∧
  (∀ s : State, s.power.mainGood = false → exec .mainPowerLoss s = .next s) ∧
  (∀ (s : State) (w : Nat), s.power.mainGood = true → 10 ≤ w → ∃ t, exec (.mainReset w) s = .next t
    ∧ MainInReset s t ∧ t.power.rstHeld = true ∧ t.power.mainGood = true) ∧
  (∀ (s : State) (w : Nat), w < 10 → exec (.mainReset w) s = .next s) ∧
  (∀ s : State, s.power.running = true → ∃ t, exec .refclkSysLoss s = .next t ∧ MainInReset s t
    ∧ t.power.sysClock = false ∧ t.faults.written = (s.faults.written + 1) % 2 ^ 32) ∧
  (∀ s : State, s.power.running = false →
    exec .refclkSysLoss s = .next { s with power := { s.power with sysClock := false } }) ∧
  (∀ (s : State) (x : ThermalSensor) (c : Int), s.power.running = true → (thermalRow x).2.2.1 ≤ c →
    ∃ t, exec (.thermalTrip x c) s = .next t ∧ MainInReset s t ∧ t.power.thermTrip = true
      ∧ t.faults.written = (s.faults.written + 1) % 2 ^ 32
      ∧ t.obj 0x2036 0 = (s.obj 0x2036 0 + 1) % 2 ^ 32) ∧
  (∀ (s : State) (x : ThermalSensor) (c : Int), s.power.running = false ∨ c < (thermalRow x).2.2.1 →
    exec (.thermalTrip x c) s = .next s)) ∧
  ((∀ s : State, s.power.aoGood = true → ∃ t, exec .aoRailLoss s = .next t
    ∧ t.power = Power.fresh ∧ t.faults = Faults.fresh ∧ t.paddocks = State.reset.paddocks
    ∧ t.links = State.reset.links ∧ t.qps = [] ∧ t.time = TimeState.fresh ∧ t.bist = Bist.fresh
    ∧ t.tiers.flash = s.tiers.flash ∧ t.firmware.slotA = s.firmware.slotA
    ∧ t.firmware.slotB = s.firmware.slotB ∧ t.firmware.floor = s.firmware.floor
    ∧ t.life.state = s.life.state ∧ t.life.privateKey = s.life.privateKey
    ∧ t.life.certificate = s.life.certificate ∧ t.life.principals[8]? = s.life.principals[8]?
    ∧ (∀ k, keptForEver k = false → objFind t.objs k = none)) ∧
  (∀ s : State, s.power.aoGood = false → exec .aoRailLoss s = .next s))

/-- The rising edge of MAIN_RST_N, REFCLK_SYS back for 10 ms, and object 0x2036 cleared to 0, each end what they
held, and the main die starts exactly where power is good, no reset is held, no trip is asserted, the clock is
present and the device is not decommissioned.
The loss of a CXL reference clock takes its port's links, and with devices behind that port the whole tier is lost
(R234); without one only the port's link state in object 0x4403 changes. Without AO_CLK the management port is not served and
every Headland pair passes nothing; a running main die is unaffected (R451). -/
def Obligations.ReleasesAndClocks : Prop :=
  ((∀ s : State, s.power.rstHeld = true →
    let u : State := { s with power := { s.power with rstHeld := false } }
    ∃ t, exec .mainRstNRelease s = .next t ∧ t.power.rstHeld = false ∧ t.life = s.life
      ∧ t.paddocks = s.paddocks ∧ t.power.running = (s.power.running || u.mayStart)) ∧
  (∀ s : State, s.power.rstHeld = false → exec .mainRstNRelease s = .next s) ∧
  (∀ s : State, s.power.sysClock = false →
    let u : State := { s with power := { s.power with sysClock := true } }
    ∃ t, exec .refclkSysRestored s = .next t ∧ t.power.sysClock = true ∧ t.life = s.life
      ∧ t.paddocks = s.paddocks ∧ t.power.running = (s.power.running || u.mayStart)) ∧
  (∀ s : State, s.power.sysClock = true → exec .refclkSysRestored s = .next s) ∧
  AnswersWith .thermalTripsClear (fun u r a =>
    let left := u.stored r &&& (u.stored r ^^^ (u.stored r &&& r.num))
    let v : State := { u.store r left with power := { u.power with thermTrip := false } }
    (left ≠ 0 → a.makes (u.store r left)) ∧
    (left = 0 → u.power.thermTrip = false → a.makes (u.store r 0)) ∧
    (left = 0 → u.power.thermTrip = true → a.result = 0 ∧ a.state.power.thermTrip = false
      ∧ a.state.power.running = (u.power.running || v.mayStart)))) ∧
  ((∀ (s : State) (port : Nat), port = 0 ∨ port = 1 → ∃ t, exec (.refclkCxlLoss port) s = .next t
    ∧ (port = 0 → t.power.cxlClock0 = false) ∧ (port = 1 → t.power.cxlClock1 = false)
    ∧ ((s.tiers.cxlDevices.any fun x => x.port == port) = true → t.tiers.cxlPresent = false)
    ∧ ((s.tiers.cxlDevices.any fun x => x.port == port) = false →
        t.paddocks = s.paddocks ∧ t.tiers = s.tiers ∧ ∀ k, k ≠ 0x440300 → objFind t.objs k = objFind s.objs k)
    ∧ (port = 0 → t.obj 0x4403 0 % 65536 = 0) ∧ (port = 1 → t.obj 0x4403 0 < 65536)) ∧
  (∀ s : State, ∃ t, exec .aoClkLoss s = .next t ∧ t.power.aoClock = false ∧ t.pathOpen .field = false
    ∧ t.power.running = s.power.running ∧ t.paddocks = s.paddocks
    ∧ (∀ n, n < 48 → (t.link n).state ≠ .bypass)
    ∧ (∀ n, n < 48 → (s.link n).state ≠ .bypass → t.link n = s.link n)) ∧
  (∀ s : State, ∃ t, exec .aoClkRestored s = .next t ∧ t.power.aoClock = true
    ∧ t.power.running = s.power.running ∧ t.paddocks = s.paddocks
    ∧ (s.power.running = false → t.links = s.links)
    ∧ (∀ n, n < 48 → s.power.running = true → (s.link n).state = .down → (t.link n).state = .training)))

/-- The supply is derated while DERATE_N is asserted, a STATUS_WORD reports a fault or object 0x2011 is below
2,950 W, and for 10 s after the last of them (R454). An estimate or a PMBus power above the limit in force lowers the
plot clock by one step; 100 µs with both below 95 % of it raises the clock by one step, up to 3.3 GHz (R453). A sensor
at its throttle temperature lowers the clock by a step (R456). PMBus words and readings are kept, a failed reading is
counted and the last good value stands (R452). Outside BLANK and MAINTENANCE, and during a self-test, the test access
port takes BYPASS for every instruction but IDCODE (R462). None of these touches a paddock. -/
def Obligations.DeratingAndLimits : Prop :=
  (∀ (s : State) (b : Bool), s.power.aoGood = true → ∃ t, exec (.derateAssert (.pin b)) s = .next t
    ∧ t.power.deratePin = b ∧ (b = true → t.power.derated = true ∧ t.power.holdSince = none)
    ∧ (b = false → s.power.regFaults = [] → 2950 ≤ s.obj 0x2011 0 → s.power.derated = true →
        s.power.holdSince = none → t.power.derated = true ∧ t.power.holdSince = some s.now)
    ∧ t.paddocks = s.paddocks ∧ t.objs = s.objs) ∧
  (∀ (s : State) (since : Nat), s.power.holdSince = some since → s.power.derated = true →
    s.derateCause = false → since + 10000000000 ≤ s.now →
    ∃ t, exec .derateEndTimer s = .next t ∧ t.power.derated = false ∧ t.power.holdSince = none
      ∧ t.power.clockMHz = s.power.clockMHz ∧ t.paddocks = s.paddocks) ∧
  (∀ (s : State) (w : Nat), s.power.running = true → s.powerLimit < w ∨ s.powerLimit < s.obj 0x2013 0 →
    ∃ t, exec (.powerEstimateTick w) s = .next t ∧ t.power.clockMHz = stepDown s.power.clockMHz
      ∧ t.power.quietSince = none ∧ t.paddocks = s.paddocks) ∧
  (∀ (s : State) (w : Nat), s.power.running = true → 20 * w < 19 * s.powerLimit →
    20 * s.obj 0x2013 0 < 19 * s.powerLimit →
    exec (.powerEstimateTick w) s = .next { s with power := { s.power with
      quietSince := some (s.power.quietSince.getD s.now) } }) ∧
  (∀ (s : State) (since : Nat), s.power.quietSince = some since → s.power.running = true →
    since + 100000 ≤ s.now → s.power.causes &&& 0x1C = 0 →
    ∃ t, exec .clockStepUp s = .next t ∧ t.power.clockMHz = stepUp s.power.clockMHz
      ∧ t.power.quietSince = some s.now ∧ t.paddocks = s.paddocks) ∧
  (∀ (s : State) (rail n : Nat), exec (.droopDetect rail n) s = .next s) ∧
  (∀ (s : State) (x : ThermalSensor) (c : Int), s.power.running = true → (thermalRow x).1 ≤ c →
    ∃ t, exec (.thermalThrottle x c) s = .next t ∧ t.power.clockMHz = stepDown s.power.clockMHz
      ∧ t.power.causes.testBit (thermalRow x).2.2.2 = true ∧ t.paddocks = s.paddocks) ∧
  (∀ (s : State) (ws : List Nat), s.power.aoGood = true → ∃ t, exec (.pmbusAlert ws) s = .next t
    ∧ t.out = s.out ++ (s.polledRails.zip ws).map (fun x => .pmbusRead x.1)
    ∧ (∀ x ∈ s.polledRails.zip ws, t.obj 0x2023 x.1 = x.2 % 65536) ∧ t.paddocks = s.paddocks) ∧
  (∀ (s : State) (x : PmbusReading) (mv ma : Nat), s.power.aoGood = true → x.rail ∈ s.polledRails →
    x.value = some (mv, ma) → ∃ t, exec (.pmbusPoll [x]) s = .next t
      ∧ t.obj 0x2020 x.rail = mv % 65536 ∧ t.obj 0x2021 x.rail = ma % 2 ^ 32
      ∧ t.obj 0x2041 0 = s.obj 0x2041 0 ∧ t.obj 0x2013 0 = min 65535 t.railPower ∧ t.paddocks = s.paddocks) ∧
  (∀ (s : State) (x : PmbusReading), s.power.aoGood = true → x.rail ∈ s.polledRails → x.value = none →
    ∃ t, exec (.pmbusPoll [x]) s = .next t ∧ t.obj 0x2020 x.rail = s.obj 0x2020 x.rail
      ∧ t.obj 0x2021 x.rail = s.obj 0x2021 x.rail ∧ t.obj 0x2041 0 = (s.obj 0x2041 0 + 1) % 2 ^ 32) ∧
  (∀ (s : State) (code : Nat), s.power.aoGood = true → exec (.tapInstruction code) s = .next { s with
    power := { s.power with tap :=
      if ((s.life.state = .blank ∨ s.life.state = .maintenance) ∧ s.bist.state ≠ 1) ∨ code ≤ 1 then code
      else 0 } })

/-! ### Paddocks, allocations, queue pairs and settings -/

/-- A create whose conditions hold makes the paddock afresh, still being zeroed, with no allocation, program, queue
or shadow, every memory reading 0 and no programmable counter of its strips set; it is active once zeroing ends. A
delete of an active paddock stops issue, puts its queue pairs into error, releases every allocation, and drops its
shadows and its recovery (R347). When the last issued instruction has completed, nothing of the paddock is left
and its access key is gone (R392). Other paddocks are untouched throughout. -/
def Obligations.PaddockLife : Prop :=
  AnswersWith .paddockCreate (fun u r a =>
    (createPaddockOk u r.sub = true → r.sub < 8 → a.result = 0
      ∧ a.state.pad r.sub = { Paddock.fresh with phase := .creating }
      ∧ (∀ q, q ≠ r.sub → a.state.pad q = u.pad q)
      ∧ (∀ k i, k ∈ u.stripsOf r.sub → i < 256 → a.state.obj (0x8020 + k) i = objDefault (0x8020 + k) i)
      ∧ a.state.obj 0x3003 r.sub = 0 ∧ a.state.obj 0x3004 r.sub = 0) ∧
    (createPaddockOk u r.sub = false → a.refuses 4 u)) ∧
  (∀ (s : State) (p : Nat), (s.pad p).phase = .creating → ∃ t, exec (.paddockActive p) s = .next t
    ∧ t.pad p = { s.pad p with phase := .active } ∧ (∀ q, q ≠ p → t.pad q = s.pad q) ∧ t.objs = s.objs) ∧
  (∀ (s : State) (p : Nat), (s.pad p).phase ≠ .creating → exec (.paddockActive p) s = .next s) ∧
  AnswersWith .paddockDelete (fun u r a =>
    ((u.pad r.sub).phase = .active → r.sub < 8 → a.result = 0
      ∧ (a.state.pad r.sub).phase = .deleting ∧ (a.state.pad r.sub).stopped = true
      ∧ (a.state.pad r.sub).shadows = [] ∧ (a.state.pad r.sub).recovery = none
      ∧ (∀ e ∈ (a.state.pad r.sub).allocs, e.2.releasing = true)
      ∧ (∀ pr ∈ (a.state.pad r.sub).programs, pr.active = true)
      ∧ (∀ q, 66 ≤ q → (a.state.qp q).paddock = r.sub → (a.state.qp q).state ≠ 1)
      ∧ (∀ q, q ≠ r.sub → a.state.pad q = u.pad q)) ∧
    ((u.pad r.sub).phase = .absent ∨ (u.pad r.sub).phase = .deleting → a.refuses 4 u)) ∧
  (∀ (s : State) (p : Nat), p < 8 → (s.pad p).phase = .deleting → (s.pad p).flights = [] →
    ∃ t, exec (.paddockAbsent p) s = .next t ∧ t.pad p = Paddock.fresh
      ∧ (∀ q, q ≠ p → t.pad q = s.pad q) ∧ t.key p = none
      ∧ (∀ x ∈ t.qps, ¬ (66 ≤ x.index ∧ x.paddock = p))) ∧
  (∀ (s : State) (p : Nat), (s.pad p).phase ≠ .deleting ∨ (s.pad p).flights ≠ [] →
    exec (.paddockAbsent p) s = .next s)

/-- A create whose value obeys R214 makes a live entry with that value, and every byte of an HBM allocation reads 0;
bytes outside it read as before. An update of a live entry changes its recompute fields and retain flag only. A
release marks the entry releasing, and when its last user has completed it becomes unused (R215). A write that
breaks a rule is refused with 0x04 and changes nothing. The end of zeroing lets accesses proceed (R216). The last two
clauses are for a paddock in which no request and no instruction waits for this. -/
def Obligations.AllocationRows : Prop :=
  AnswersWith .allocationCreate (fun u r a =>
    let n := allocOfBytes r.value
    ((u.pad r.paddock).active = true → createOk u r.paddock n = true → r.paddock < 8 →
      a.result = 0 ∧ ((a.state.pad r.paddock).alloc r.entry).map (fun x => (x.base, x.len, x.kind, x.releasing))
          = some (n.base, n.len, n.kind, false)
      ∧ (∀ q, q ≠ r.paddock → a.state.pad q = u.pad q)
      ∧ (∀ c, c < n.base ∨ n.base + n.len ≤ c → a.state.byteAt r.paddock c = u.byteAt r.paddock c)
      ∧ (u.memoriesOk = true → n.kind = 0 ∨ n.kind = 1 →
          ∀ c, n.base ≤ c → c < n.base + n.len → a.state.byteAt r.paddock c = 0)) ∧
    ((u.pad r.paddock).active = false ∨ createOk u r.paddock n = false → a.refuses 4 u)) ∧
  AnswersWith .allocationRelease (fun u r a => ∀ x, (u.pad r.paddock).alloc r.entry = some x → r.paddock < 8 →
    (holdsImage (u.pad r.paddock) x = false → a.result = 0
      ∧ (a.state.pad r.paddock).alloc r.entry = some { x with releasing := true, retained := 0 }
      ∧ (∀ j, j ≠ r.entry → (a.state.pad r.paddock).alloc j = (u.pad r.paddock).alloc j)
      ∧ (a.state.pad r.paddock).hbm = (u.pad r.paddock).hbm) ∧
    (holdsImage (u.pad r.paddock) x = true → a.refuses 4 u)) ∧
  AnswersWith .allocationUpdate (fun u r a => ∀ x, (u.pad r.paddock).alloc r.entry = some x → r.paddock < 8 →
    let n := allocOfBytes r.value
    if n.base = x.base ∧ n.len = x.len ∧ n.kind = x.kind ∧ recomputeFieldsOk (u.pad r.paddock) n = true
        ∧ (n.flags = 0 ∨ n.kind = 0) then
      a.result = 0 ∧ (a.state.pad r.paddock).alloc r.entry = some { x with
        flags := n.flags, recI := n.recI, recAddr := n.recAddr, recD := n.recD, recCost := n.recCost
        retained := if n.flags = 0 then 0 else x.retained }
      ∧ (∀ j, j ≠ r.entry → (a.state.pad r.paddock).alloc j = (u.pad r.paddock).alloc j)
    else a.refuses 4 u) ∧
  (∀ (s : State) (p j : Nat) (x : Alloc), p < 8 → (s.pad p).alloc j = some x →
    s.holds p = false → ∃ t, exec (.allocationZeroed p j) s = .next t ∧ (t.pad p).alloc j = some { x with zeroing := false }
      ∧ (t.pad p).hbm = (s.pad p).hbm ∧ (∀ q, q ≠ p → t.pad q = s.pad q)) ∧
  (∀ (s : State) (p j : Nat) (x : Alloc), p < 8 → (s.pad p).alloc j = some x → x.releasing = true →
    (∀ f ∈ (s.pad p).flights, ∀ y ∈ f.spans, rangesMeet y.addr y.len x.base x.len = false) →
    (∀ pr ∈ (s.pad p).programs, pr.recompute ≠ some j) → ((s.pad p).free j).waited = 0 →
    ∃ t, exec (.allocationReleaseEnd p j) s = .next t ∧ (t.pad p).alloc j = none
      ∧ (∀ q, q ≠ p → t.pad q = s.pad q)
      ∧ (∀ i, i ≠ j → (t.pad p).alloc i = (s.pad p).alloc i))

/-- A reset entry whose value obeys R336 and R337 becomes ready with that value, at full rate; a repeat of a ready
entry's value is accepted and changes nothing, and any other write of a ready entry is refused. A reset flushes
what the entry has outstanding and keeps its other fields. A port mode changes only while no ready queue pair names
the port, and its used logical ports train again. A link is disabled where nothing of a formed group needs it, and
trains again when enabled. A freeze stores its value (R417). -/
def Obligations.QueuePairRows : Prop :=
  AnswersWith .qpReady (fun u r a =>
    let b := cleanQp r.qp r.value
    ((u.qp r.qp).state = 0 → readyOk u r b = true → a.result = 0
      ∧ a.state.qp r.qp = { u.qp r.qp with state := 1, fields := b, rate := 1000000 }
      ∧ (∀ q, q ≠ r.qp → a.state.qp q = u.qp q) ∧ a.state.paddocks = u.paddocks ∧ a.state.objs = u.objs) ∧
    ((u.qp r.qp).state = 0 → readyOk u r b = false → a.refuses 4 u) ∧
    ((u.qp r.qp).state = 1 → b = (u.qp r.qp).fields → a.makes u) ∧
    ((u.qp r.qp).state = 1 → b ≠ (u.qp r.qp).fields → a.refuses 4 u) ∧
    ((u.qp r.qp).state = 2 → a.refuses 4 u)) ∧
  AnswersWith .qpReset (fun u r a => ¬ r.principal < 8 →
    a.result = 0 ∧ (a.state.qp r.qp).state = 0 ∧ (a.state.qp r.qp).outgoing = []
      ∧ (a.state.qp r.qp).fields = leBytes 1 0 ++ (u.qp r.qp).fields.drop 1) ∧
  AnswersWith .portModeChange (fun u r a =>
    (r.num ≤ 1 → u.hostInUse r.sub = false → a.result = 0 ∧ a.state.obj 0x3800 r.sub = r.num
      ∧ a.state.obj 0x3801 (2 * r.sub) ≠ 2 ∧ a.state.obj 0x3801 (2 * r.sub + 1) ≠ 2
      ∧ a.state.qps = u.qps ∧ a.state.paddocks = u.paddocks) ∧
    (1 < r.num ∨ u.hostInUse r.sub = true → a.refuses 4 u)) ∧
  AnswersWith .linkEnable (fun u r a =>
    (r.num = 0 → u.linkBusy r.sub = true → a.refuses 4 u) ∧
    (r.num = 0 → u.linkBusy r.sub = false → r.sub < 48 → a.result = 0 ∧ a.state.obj 0x5002 r.sub = 0
      ∧ ((u.link r.sub).state ≠ .retired → (a.state.link r.sub).state = .disabled)) ∧
    (r.num = 1 → r.sub < 48 → a.result = 0 ∧ a.state.obj 0x5002 r.sub = 1
      ∧ ((u.link r.sub).state = .disabled → (a.state.link r.sub).state = .training)
      ∧ ((u.link r.sub).state ≠ .disabled → a.state.links = u.links)) ∧
    (1 < r.num → a.refuses 4 u)) ∧
  AnswersWith .counterFreeze (fun u r a =>
    (r.num ≤ 1 → r.paddock < 8 → a.result = 0 ∧ (a.state.pad r.paddock).obj 0x8105 r.sub = r.num
      ∧ (∀ q, q ≠ r.paddock → a.state.pad q = u.pad q) ∧ a.state.strips = u.strips) ∧
    (1 < r.num → a.refuses 4 u))

/-- A clear empties the log: every position reads all zero and the oldest sequence is the next one (R386). The degraded
state is cleared only in MAINTENANCE and after a self-test has passed (R362). A format in MAINTENANCE of a mounted tier
leaves all of flash reading as zeros. A trim, aligned to 1 MiB and inside the logical capacity, makes its range read
as zeros and leaves the rest (R244). A shutdown prepared is noted until the next write or format. -/
def Obligations.CommandObjects : Prop :=
  AnswersWith .clearLog (fun u r a => r.num = 1 → a.makes { u with faults := { u.faults with
    entries := List.replicate 1024 (List.replicate 32 0), unread := [], oldest := u.faults.written } }) ∧
  AnswersWith .clearDegraded (fun u r a => r.num = 1 →
    if u.life.state = .maintenance ∧ u.bist.passedSince = true then
      a.makes { u with faults := { u.faults with degraded := false } }
    else a.refuses 4 u) ∧
  AnswersWith .flashFormat (fun u r a =>
    if r.num = 0xA5 ∧ u.life.state = .maintenance ∧ u.mounted = true then
      a.makes { u with tiers := { u.tiers with
        flash := [], parityInForce := u.obj 0x4804 0 != 0, cleanStop := false, lostTargets := []
        flashState := if u.tiers.readOnly then 3 else 2 } }
    else a.refuses 4 u) ∧
  AnswersWith .prepareShutdown (fun u r a => r.num = 1 →
    a.makes { u with tiers := { u.tiers with cleanStop := true } }) ∧
  AnswersWith .trim (fun u r a =>
    let o := leField r.value 0 8
    let n := leField r.value 8 8
    if o % mebi = 0 ∧ n % mebi = 0 ∧ u.mounted = true ∧ o + n ≤ u.tiers.logical then
      a.result = 0 ∧ a.state.paddocks = u.paddocks ∧ a.state.tiers.cleanStop = false
        ∧ (Memory.wf 0 u.tiers.flash = true → ∀ c, memRead 0 a.state.tiers.flash c =
            if o ≤ c ∧ c < o + n then 0 else memRead 0 u.tiers.flash c)
    else a.refuses 4 u)

/-! ### Host ports and programs -/

/-- With the right key, an RDMA WRITE into a fixed or CXL allocation of the paddock is acknowledged and its bytes are
read back from there, and every other byte of the paddock reads as before; an RDMA READ returns the bytes it names and
changes no memory. One that reaches an allocation still being zeroed waits, unanswered, and so do those behind it on its
queue pair (R216). Outside every window a write is dropped and a read returns zeros, each counted (R97). A range that
lies in a window but in no allocation of these kinds, and a wrong key, are NAKed for remote access error, and the
queue pair enters error. Pauses hold nothing back here (`flows`), and the requests bear no congestion mark. -/
def Obligations.RdmaAccess : Prop :=
  (∀ (s : State) (q a : Nat) (data : List Byte), rdmaReaches s q = true → data ≠ [] → s.memoriesOk = true →
    s.flows → (s.qp q).held = [] → rdmaWaits s (s.qp q).paddock (.write (s.qp q).rkey a data) = false →
    let p := (s.qp q).paddock
    (rdmaRange s p a data.length = .inside → ∃ t, exec (.rdmaWrite ⟨q, false⟩ (s.qp q).rkey a data) s = .next t
      ∧ (∀ c, c < a ∨ a + data.length ≤ c → t.byteAt p c = s.byteAt p c)
      ∧ (∀ w, p < 8 → (∀ i, i < data.length → windowOf (a + i) = some w) → t.bytesAt p a data.length = data) ∧ t.out = s.out ++ [.ack q]
      ∧ (∀ p', p' ≠ p → t.pad p' = s.pad p')) ∧
    (rdmaRange s p a data.length = .outside → ∃ t, exec (.rdmaWrite ⟨q, false⟩ (s.qp q).rkey a data) s = .next t
      ∧ t.paddocks = s.paddocks ∧ t.tiers = s.tiers ∧ t.out = s.out ++ [.ack q]
      ∧ t.obj 0x3004 p = objWrap 0x3004 p (s.obj 0x3004 p + 1)) ∧
    (rdmaRange s p a data.length = .refused → ∃ t, exec (.rdmaWrite ⟨q, false⟩ (s.qp q).rkey a data) s = .next t
      ∧ t.out = s.out ++ [.nakAccess q] ∧ (t.qp q).state = 2 ∧ t.tiers = s.tiers
      ∧ (∀ p', (t.pad p').hbm = (s.pad p').hbm ∧ (t.pad p').cxl = (s.pad p').cxl)) ∧
    (∀ key, key ≠ (s.qp q).rkey → ∃ t, exec (.rdmaWrite ⟨q, false⟩ key a data) s = .next t
      ∧ t.out = s.out ++ [.nakAccess q] ∧ (t.qp q).state = 2)) ∧
  (∀ (s : State) (q a n : Nat), rdmaReaches s q = true → 0 < n → n ≤ 2 ^ 31 →
    s.flows → (s.qp q).held = [] → rdmaWaits s (s.qp q).paddock (.read (s.qp q).rkey a n) = false →
    let p := (s.qp q).paddock
    (rdmaRange s p a n = .inside → ∃ t, exec (.rdmaRead ⟨q, false⟩ (s.qp q).rkey a n) s = .next t
      ∧ t.out = s.out ++ [.readResponse q (s.bytesAt p a n)] ∧ t.paddocks = s.paddocks ∧ t.tiers = s.tiers) ∧
    (rdmaRange s p a n = .outside → ∃ t, exec (.rdmaRead ⟨q, false⟩ (s.qp q).rkey a n) s = .next t
      ∧ t.out = s.out ++ [.readResponse q (List.replicate n 0)] ∧ t.paddocks = s.paddocks) ∧
    (rdmaRange s p a n = .refused → ∃ t, exec (.rdmaRead ⟨q, false⟩ (s.qp q).rkey a n) s = .next t
      ∧ t.out = s.out ++ [.nakAccess q] ∧ (t.qp q).state = 2 ∧ t.tiers = s.tiers)) ∧
  (∀ (s : State) (q k a : Nat) (data : List Byte), rdmaReaches s q = true →
    ((s.qp q).held ≠ [] ∨ rdmaWaits s (s.qp q).paddock (.write k a data) = true) →
    ∃ t, exec (.rdmaWrite ⟨q, false⟩ k a data) s = .next t ∧ t.out = s.out ∧ t.paddocks = s.paddocks
      ∧ t.tiers = s.tiers ∧ t.qp q = { s.qp q with held := (s.qp q).held ++ [.write k a data] }) ∧
  (∀ (s : State) (q k a n : Nat), rdmaReaches s q = true →
    ((s.qp q).held ≠ [] ∨ rdmaWaits s (s.qp q).paddock (.read k a n) = true) →
    ∃ t, exec (.rdmaRead ⟨q, false⟩ k a n) s = .next t ∧ t.out = s.out ∧ t.paddocks = s.paddocks
      ∧ t.tiers = s.tiers ∧ t.qp q = { s.qp q with held := (s.qp q).held ++ [.read k a n] })

/-- A request outside the subset is NAKed and its queue pair enters error. An ACK takes the oldest outstanding message
of a queue pair and starts its retries afresh; a time-out with retries left sends the outstanding messages again and
counts one retry, and one past the retry count puts the queue pair into error. An RNR NAK is retried under the RNR
retry, 7 without limit. A CNP halves the rate, down to the minimum; 55 µs without one raise it by 5 % of line rate,
up to the full rate. A CE-marked packet is answered with one CNP at the DSCP of object 0x3808, and none follows on that
queue pair for 50 µs. A pause frame holds exactly the priorities with PFC on for its time, and 0 ends a pause. A port
that goes down is down, and no pause of it is left. A dropped frame is counted. -/
def Obligations.RequesterAndCongestion : Prop :=
  (∀ (s : State) (q : Nat), 66 ≤ q → q < 4096 → s.reaches q = true → s.flows → carriages (s.qp q).outgoing = [] →
    ∃ t, exec (.unsupportedRoceRequest ⟨q, false⟩) s = .next t ∧ t.out = s.out ++ [.nakInvalid q]
      ∧ (t.qp q).state = 2 ∧ (t.qp q).outgoing = [] ∧ t.tiers = s.tiers) ∧
  (∀ (s : State) (q : Nat), (s.qp q).ready = true → (s.qp q).outgoing ≠ [] →
    (s.qp q).retries < (s.qp q).retryCount → s.flows → ∃ t, exec (.roceAckTimeout q) s = .next t
      ∧ t.qp q = { s.qp q with retries := (s.qp q).retries + 1 } ∧ t.paddocks = s.paddocks
      ∧ t.out = s.out ++ (if s.portUp (s.qp q).port then (s.qp q).outgoing.map (outgoingEmission q) else [])) ∧
  (∀ (s : State) (q : Nat), 66 ≤ q → (s.qp q).ready = true → (s.qp q).outgoing ≠ [] →
    (s.qp q).retryCount ≤ (s.qp q).retries → carriages (s.qp q).outgoing = [] →
    ∃ t, exec (.roceAckTimeout q) s = .next t ∧ (t.qp q).state = 2 ∧ (t.qp q).outgoing = []) ∧
  (∀ (s : State) (q : Nat), s.reaches q = true → (s.qp q).outgoing ≠ [] →
    ∃ t, exec (.ackArrival ⟨q, false⟩ true) s = .next t
      ∧ t.qp q = { s.qp q with outgoing := (s.qp q).outgoing.drop 1, retries := 0, rnrRetries := 0 }
      ∧ t.out = s.out ∧ t.paddocks = s.paddocks) ∧
  (∀ (s : State) (q : Nat), s.reaches q = true → (s.qp q).outgoing ≠ [] →
    ((s.qp q).rnrRetry = 7 ∨ (s.qp q).rnrRetries < (s.qp q).rnrRetry) → s.flows → ∃ t, exec (.rnrNak ⟨q, false⟩) s = .next t
      ∧ t.qp q = { s.qp q with rnrRetries := (s.qp q).rnrRetries + 1 }
      ∧ t.out = s.out ++ (s.qp q).outgoing.map (outgoingEmission q)) ∧
  (∀ (s : State) (q : Nat), s.reaches q = true → s.flows → (s.qp q).outgoing ≠ [] → s.obj 0x3807 0 ≠ 0 →
    ∃ t, exec (.ackArrival ⟨q, true⟩ true) s = .next t
      ∧ (t.qp q).outgoing = (s.qp q).outgoing.drop 1
      ∧ ((∀ n, (s.qp q).cnpAt = some n → n + 50000 ≤ s.power.upNs) →
          t.out = s.out ++ [.cnp q (s.obj 0x3808 0)] ∧ (t.qp q).cnpAt = some s.power.upNs)
      ∧ (∀ n, (s.qp q).cnpAt = some n → s.power.upNs < n + 50000 → t.out = s.out ∧ (t.qp q).cnpAt = some n)) ∧
  (∀ (s : State) (q : Nat), s.reaches q = true → s.obj 0x3807 0 ≠ 0 → ∃ t, exec (.cnpReceived q) s = .next t
    ∧ t.qp q = { s.qp q with rate := max (s.minRate (s.qp q).port) ((s.qp q).rate / 2) }
    ∧ t.paddocks = s.paddocks) ∧
  (∀ (s : State) (q : Nat), (s.qp q).ready = true → ∃ t, exec (.ecnRateRise q) s = .next t
    ∧ t.qp q = { s.qp q with rate := min 1000000 ((s.qp q).rate + 50000) } ∧ t.objs = s.objs) ∧
  (∀ (s : State) (port prio quanta : Nat), s.portUp port = true → prio < 8 →
    (s.obj 0x3805 port).testBit prio = true → ∃ t, exec (.pfcPause port [(prio, quanta)]) s = .next t
      ∧ (∀ e, (port, prio, e) ∈ t.pauses ↔ quanta ≠ 0 ∧ e = s.power.upNs + 512 * quanta / s.lineRate port)
      ∧ (∀ x : Nat × Nat × Nat, ¬ (x.1 = port ∧ x.2.1 = prio) → (x ∈ t.pauses ↔ x ∈ s.pauses))) ∧
  (∀ (s : State) (port : Nat), s.obj 0x3801 port = 2 ∨ s.obj 0x3801 port = 1 →
    ∃ t, exec (.logicalPortDown port) s = .next t ∧ t.portUp port = false
      ∧ (∀ x ∈ t.pauses, x.1 ≠ port) ∧ t.qps = s.qps ∧ t.paddocks = s.paddocks) ∧
  (∀ (s : State) (port : Nat) (c : DropCause), s.portUp port = true →
    ∃ t, exec (.frameDropped port c) s = .next t ∧ t.paddocks = s.paddocks ∧ t.qps = s.qps
      ∧ t.obj 0x380D port = objWrap 0x380D port (s.obj 0x380D port + 1))

/-- A message with room for it is acknowledged, counted, and its program joins the paddock; one for a queue pair whose
receive depth is used up, or that finds the message area full, gets an RNR NAK and nothing else changes. One whose
queue pair still holds earlier RDMA requests waits for them (R340). A program
none of whose instructions is in flight and whose records have all issued, or that has stopped, leaves the paddock; in
an active paddock, where its queue pair is ready, its completion message (R87) is sent on that queue pair. The
completion message carries the program's identifier, status, stop flag, record index and counts at the offsets of R87. -/
def Obligations.ProgramsComeAndGo : Prop :=
  (∀ (s : State) (q : Nat) (b : List Byte), 66 ≤ q → q < 4096 → s.reaches q = true →
    (s.pad (s.qp q).paddock).active = true → s.flows →
    let p := (s.qp q).paddock
    let d := s.pad p
    let full := (s.qp q).depth ≤ d.unstarted q
      ∨ s.areaBlocks p / 2 < d.piecesUsed + max 1 (ceilDiv b.length 65536)
    (full → ∃ t, exec (.programMessage ⟨q, false⟩ b) s = .next t ∧ t.out = s.out ++ [.rnrNak q]
      ∧ t.paddocks = s.paddocks ∧ t.qps = s.qps) ∧
    (¬ full → 16 ≤ d.activeCount → ∃ t, exec (.programMessage ⟨q, false⟩ b) s = .next t
      ∧ t.out = s.out ++ [.ack q]
      ∧ t.pad p = { d with programs := d.programs ++ [programOf d q b], nextSerial := d.nextSerial + 1 }
      ∧ t.qp q = { s.qp q with received := ((s.qp q).received + 1) % 2 ^ 64 }
      ∧ (∀ p', p' ≠ p → t.pad p' = s.pad p')) ∧
    (¬ full → d.programs = [] → (s.qp q).held = [] → d.stopped = false → d.isStandby = false → headerOk d b.length (parseHeader b) = true → s.faults.degraded = false →
      ∃ t, exec (.programMessage ⟨q, false⟩ b) s = .next t ∧ ∃ pr, (t.pad p).programs = [pr] ∧ pr.active = true
        ∧ pr.next = 0 ∧ pr.issued = 0 ∧ pr.stop = none ∧ pr.nI = (parseHeader b).nI
        ∧ pr.ident = (parseHeader b).ident ∧ pr.qp = q) ∧
    (¬ full → d.programs = [] → (s.qp q).held ≠ [] → ∃ t, exec (.programMessage ⟨q, false⟩ b) s = .next t
      ∧ (t.pad p).programs = [programOf d q b] ∧ (∀ a, t.byteAt p a = s.byteAt p a)
      ∧ (t.qp q).held = (s.qp q).held)) ∧
  (∀ (s : State) (p g : Nat) (pr : Program), p < 8 → (s.pad p).program g = some pr → pr.recompute = none →
    programOver (s.pad p) pr = true →
    ((s.pad p).active = true → (s.pad p).programs.length = 1 → (s.qp pr.qp).ready = true →
      s.portUp (s.qp pr.qp).port = true → s.flows → pr.stop = none → ∃ t, exec (.programEnd p g) s = .next t
        ∧ (t.pad p).programs = [] ∧ t.out = s.out ++ [.send pr.qp pr.ident (completionBytes s p pr)]
        ∧ (t.pad p).obj 0xA008 0 = objWrap 0xA008 0 ((s.pad p).obj 0xA008 0 + 1)) ∧
    ((s.pad p).active = false → ∃ t, exec (.programEnd p g) s = .next t
      ∧ (t.pad p).programs = (s.pad p).programs.filter (fun x => x.serial != g) ∧ t.out = s.out)) ∧
  (∀ (s : State) (p g : Nat) (pr : Program), (s.pad p).program g = some pr →
    programOver (s.pad p) pr = false → exec (.programEnd p g) s = .next s) ∧
  (∀ (s : State) (p : Nat) (pr : Program), pr.ident < 2 ^ 32 → pr.issued < 2 ^ 32 → pr.completed < 2 ^ 32 →
    let b := completionBytes s p pr
    b.length = 64 ∧ leField b 0 4 = pr.ident ∧ leField b 5 1 = (if pr.stop.isSome then 1 else 0)
      ∧ leField b 0x10 4 = pr.issued ∧ leField b 0x14 4 = pr.completed
      ∧ (∀ x, pr.stop = some x → x.status < 256 → x.index < 2 ^ 32 →
          leField b 4 1 = x.status ∧ leField b 8 4 = x.index))

/-! ### Chip links and time -/

/-- Every field of R279, at every value its width admits, is read back from the header it was written into, and the
header is 64 bytes with a CRC that checks. An address is its farm, field and slot (R6). -/
def Obligations.MessageHeaders : Prop :=
  (∀ h : MsgHeader, h.type < 2 ^ 8 → h.flags < 2 ^ 8 → h.lane < 2 ^ 8 → h.hops < 2 ^ 8 → h.dest < 2 ^ 32 →
    h.source < 2 ^ 32 → h.slots < 2 ^ 16 → h.seq < 2 ^ 16 → h.ack < 2 ^ 16 → h.epoch < 2 ^ 32 → h.step < 2 ^ 64 →
    h.flow < 2 ^ 32 → h.number < 2 ^ 32 → h.offset < 2 ^ 64 → h.word < 2 ^ 32 → h.crc < 2 ^ 32 →
    parseMsg h.bytes = h ∧ h.bytes.length = 64 ∧ headerCrcOk h.bytes = true) ∧
  (∀ farm field slot : Nat, farm < 64 → field < 256 → slot < 16 →
    let a := addrOf farm field slot
    a < 2 ^ 18 ∧ farmOf a = farm ∧ fieldOf a = field ∧ slotOf a = slot)

/-- On an up link a whole message in sequence for this device is delivered, once for its source, flow and number
(R292), and the next sequence is expected. One that breaks off after some payload slots waits for the rest (R284), and
is delivered with the last of them. An
errored message is not delivered, the sequence expected stays, and a NAK has been sent (R281, R282). An abort ends the
partial message of its lane and delivers nothing. A link-control message sets the credit totals and, with flag [1],
takes what it acknowledges out of the replay buffer (R285). A NAK makes the device send again from the sequence it
names, then the PRBS31 slots. An acknowledgement that is due goes in a link-control message. -/
def Obligations.LinkReceipt : Prop :=
  (∀ (s : State) (n : Nat) (hd pl : List Byte),
    let h := parseMsg hd
    n < 48 → (s.link n).isUp = true → hd.length = 64 → headerCrcOk hd = true → 1 ≤ h.type → h.type ≤ 6 →
    h.seq = (s.link n).rxSeq → pl.length = 64 * h.slots → payloadCrc pl = h.crc → reservedSet hd = false →
    h.slots ≤ 1024 → (h.flags.testBit 0 = true → h.slots ≤ 4) → h.dest = s.address →
    (s.link n).arriving = [] → (s.link n).taken = [] →
    FabMsg.bodyReserved { header := hd, payload := pl } = false →
    ∃ t, exec (.linkMessage n {} false hd pl) s = .next t
      ∧ (t.link n).rxSeq = (h.seq + 1) % 65536 ∧ (t.link n).nakSent = false
      ∧ t.inbox = (if (h.source, h.flow, h.number) ∈ s.seen then s.inbox else s.inbox ++
          [{ kind := h.type, source := h.source, epoch := h.epoch, step := h.step, flow := h.flow,
             number := h.number, offset := h.offset, word := h.word, payload := pl }])
      ∧ t.paddocks = s.paddocks) ∧
  (∀ (s : State) (n : Nat) (hd pl : List Byte),
    let h := parseMsg hd
    n < 48 → (s.link n).isUp = true → hd.length = 64 → headerCrcOk hd = true → 1 ≤ h.type → h.type ≤ 6 →
    h.seq = (s.link n).rxSeq → pl.length < 64 * h.slots → (s.link n).mayBegin h.lane = true → (s.link n).taken = [] →
    ∃ t, exec (.linkMessage n {} false hd pl) s = .next t
      ∧ (t.link n).arriving = (s.link n).arriving ++ [{ header := hd, payload := pl }]
      ∧ (t.link n).rxSeq = (h.seq + 1) % 65536 ∧ t.inbox = s.inbox ∧ t.paddocks = s.paddocks) ∧
  (∀ (s : State) (n : Nat) (x : Arriving) (rest : List Arriving) (pl : List Byte),
    let h := parseMsg x.header
    n < 48 → (s.link n).isUp = true → (s.link n).arriving = rest ++ [x] → 1 ≤ h.type → h.type ≤ 6 →
    (x.payload ++ pl).length = 64 * h.slots → payloadCrc (x.payload ++ pl) = h.crc → reservedSet x.header = false →
    h.slots ≤ 1024 → (h.flags.testBit 0 = true → h.slots ≤ 4) → h.dest = s.address →
    FabMsg.bodyReserved { header := x.header, payload := x.payload ++ pl } = false →
    ∃ t, exec (.linkMessage n {} false [] pl) s = .next t ∧ (t.link n).arriving = rest
      ∧ t.inbox = (if (h.source, h.flow, h.number) ∈ s.seen then s.inbox else s.inbox ++
          [{ kind := h.type, source := h.source, epoch := h.epoch, step := h.step, flow := h.flow,
             number := h.number, offset := h.offset, word := h.word, payload := x.payload ++ pl }])
      ∧ t.paddocks = s.paddocks) ∧
  (∀ (s : State) (n : Nat) (words : Codewords) (bad : Bool) (hd pl : List Byte), n < 48 → (s.link n).isUp = true →
    hd.length = 64 → words.uncorrectable = true ∨ bad = true ∨ headerCrcOk hd = false →
    ∃ t, exec (.linkMessage n words bad hd pl) s = .next t ∧ (t.link n).rxSeq = (s.link n).rxSeq
      ∧ (t.link n).nakSent = true ∧ t.inbox = s.inbox ∧ t.paddocks = s.paddocks) ∧
  (∀ (s : State) (n : Nat) (hd : List Byte), n < 48 → (s.link n).isUp = true → hd.length = 64 →
    (parseMsg hd).type = 0x13 → headerCrcOk hd = true → (parseMsg hd).seq = (s.link n).rxSeq →
    reservedSet hd = false → ∃ t, exec (.abort n hd) s = .next t ∧ (t.link n).rxSeq = ((s.link n).rxSeq + 1) % 65536
      ∧ (∀ x ∈ (t.link n).arriving, (parseMsg x.header).lane ≠ (parseMsg hd).lane) ∧ t.inbox = s.inbox ∧ t.paddocks = s.paddocks) ∧
  (∀ (s : State) (n : Nat) (hd : List Byte), n < 48 → (s.link n).isUp = true → controlOk hd = true →
    controlReserved hd = false → (s.link n).waiting = [] →
    (leField hd 1 1 = 0 → ∃ t, exec (.linkControl n hd) s = .next t
      ∧ t.link n = { s.link n with
          returned := leField hd 0x20 2 :: (List.range 6).map fun i => leField hd (0x14 + 2 * i) 2 }
      ∧ t.out = s.out) ∧
    (leField hd 1 1 = 2 → ∃ t, exec (.linkControl n hd) s = .next t
      ∧ (t.link n).unacked = (s.link n).unacked.drop (ackedCount (s.link n) (leField hd 0x10 2))
      ∧ t.out = s.out ∧ t.inbox = s.inbox)) ∧
  (∀ (s : State) (n i : Nat) (hd : List Byte), n < 48 → (s.link n).isUp = true → controlOk hd = true →
    controlReserved hd = false → leField hd 1 1 = 1 → (s.link n).waiting = [] →
    (s.link n).unacked.findIdx? (fun x => x.1 == leField hd 0x12 2) = some i → (s.link n).replays < 7 →
    ∃ t, exec (.nak n hd) s = .next t ∧ (t.link n).unacked = (s.link n).unacked.drop i
      ∧ t.out = s.out ++ ((s.link n).unacked.drop i).map (fun x => .linkMessage n x.2) ++ [.prbs n]
      ∧ t.paddocks = s.paddocks) ∧
  (∀ (s : State) (n : Nat), n < 48 → (s.link n).isUp = true → (s.link n).ackDue = true →
    ∃ t, exec (.linkAckDue n) s = .next t ∧ t.out = s.out ++ [.linkControl n (controlHeader s n 2 0)]
      ∧ t.link n = { s.link n with ackDue := false } ∧ t.paddocks = s.paddocks)

/-- A failed test after a replay, 10 µs without acknowledgement while messages are outstanding, and a loss of FEC lock
each take an up link down: it retrains at once, with its buffers empty, its lane test due and the fall counted; a
second fall within 1 s retires it and logs 0x51 (R293). A passed test leaves the link as it is. A trained link enters
identify and sends its identity, after the lane test where one is due, with the credits of lane 0 that it needs. An identity that passes R289 brings a link up
with its peer; one that fails is counted in object 0x5401 and the link stays in identify. A failed lane test retires
the link.
While the main die is down the Headland takes both links of a trained pair into bypass, whatever they were (R294). A neighbour grants a release once no group of a running job may route over the link, and until then
keeps the request. A pair leaves bypass when both grants have come and object 0x500D allows it (R295), but for a link that object 0x5002 disables. -/
def Obligations.LinkStates : Prop :=
  ((∀ (c : Instr) (s : State) (n : Nat), n < 48 → (s.link n).isUp = true →
    (c = .linkAckTimeout n ∧ (s.link n).unacked ≠ []) ∨ (∃ e, e ≠ 0 ∧ c = .replayPrbsCheck n e)
      ∨ (c = .fecLockLoss n ∧ (s.link n).granted = false) →
    ((s.link n).lastDown = none → ∃ t, exec c s = .next t ∧ (t.link n).state = .training
      ∧ (t.link n).testPending = true ∧ (t.link n).unacked = [] ∧ (t.link n).txSeq = 0
      ∧ (t.link n).lastDown = some s.now ∧ t.paddocks = s.paddocks ∧ t.faults = s.faults
      ∧ t.obj 0x5006 n = objWrap 0x5006 n (s.obj 0x5006 n + 1)) ∧
    (∀ w, (s.link n).lastDown = some w → s.now < w + 1000000000 → ∃ t, exec c s = .next t
      ∧ (t.link n).state = .retired ∧ t.faults.written = (s.faults.written + 1) % 2 ^ 32
      ∧ t.paddocks = s.paddocks)) ∧
  (∀ (s : State) (n : Nat), exec (.replayPrbsCheck n 0) s = .next s) ∧
  (∀ (s : State) (n : Nat), n < 48 → s.power.running = true → (s.link n).state = .training →
    (s.link n).waiting = [] → 2 ≤ (s.link n).credits 0 → ∃ t, exec (.linkTrainingComplete n) s = .next t ∧ (t.link n).state = .identify ∧ (t.link n).peer = none
      ∧ ((s.link n).testPending = true → t.out = s.out)
      ∧ ((s.link n).testPending = false → ∃ m, t.out = s.out ++ [.linkMessage n m]
          ∧ leField m.payload 0 4 = s.address ∧ leField m.payload 4 1 = n ∧ m.payload.length = 64)) ∧
  (∀ (s : State) (n : Nat) (b : List Byte), n < 48 → (s.link n).state = .identify → laneZeroOk 0x12 b = true →
    reservedSet (b.take 64) = false → leField b 0x40 4 < 2 ^ 18 → leField b 0x45 1 < 2 → zeroField b 0x50 48 = true →
    (identityOk s n (leField b 0x40 4) (leField b 0x44 1) (leField b 0x46 2) (s.link n).cabling = true →
      (s.link n).testPending = false → spareLink s.address n = false →
      ∃ t, exec (.linkIdentity n b) s = .next t ∧ (t.link n).state = .up
        ∧ (t.link n).peer = some (leField b 0x40 4, leField b 0x44 1)) ∧
    (identityOk s n (leField b 0x40 4) (leField b 0x44 1) (leField b 0x46 2) (s.link n).cabling = false →
      ∃ t, exec (.linkIdentity n b) s = .next t ∧ (t.link n).state = .identify
        ∧ (t.link n).peer = (s.link n).peer ∧ t.obj 0x5401 0 = objWrap 0x5401 0 (s.obj 0x5401 0 + 1))) ∧
  (∀ (s : State) (n e : Nat), n < 48 → (s.link n).state = .identify → (s.link n).testPending = true →
    (e ≠ 0 → ∃ t, exec (.lanePrbsTestEnd n e) s = .next t ∧ (t.link n).state = .retired
      ∧ t.faults.written = (s.faults.written + 1) % 2 ^ 32) ∧
    (e = 0 → (s.link n).peer.isSome = true → spareLink s.address n = false →
      ∃ t, exec (.lanePrbsTestEnd n e) s = .next t ∧ (t.link n).state = .up ∧ (t.link n).testPending = false))) ∧
  ((∀ (s : State) (k : Nat), k < 24 → s.power.running = false → s.power.aoGood = true → s.power.aoClock = true →
    ∃ t, exec (.headlandPairTrained k) s = .next t
      ∧ (t.link (2 * k)).state = .bypass ∧ (t.link (2 * k + 1)).state = .bypass
      ∧ (∀ n, n ≠ 2 * k → n ≠ 2 * k + 1 → t.link n = s.link n) ∧ t.paddocks = s.paddocks) ∧
  (∀ (s : State) (n : Nat) (hd : List Byte), n < 48 → (s.link n).isUp = true → controlOk hd = true →
    controlReserved hd = false → leField hd 1 1 = 4 → (s.link n).waiting = [] →
    (s.linkBusy n = false → ∃ t, exec (.bypassReleaseRequest n hd) s = .next t
      ∧ (t.link n).granted = true ∧ (t.link n).releaseAsked = false) ∧
    (s.linkBusy n = true → ∃ t, exec (.bypassReleaseRequest n hd) s = .next t
      ∧ (t.link n).releaseAsked = true ∧ (t.link n).granted = (s.link n).granted)) ∧
  (∀ (s : State) (n : Nat) (hd : List Byte), n < 48 → (s.link n).state = .bypass → controlOk hd = true →
    controlReserved hd = false → (leField hd 1 1).testBit 3 = true →
    ((s.link (pairMate n)).granted = true → s.obj 0x500D 0 = 0 → ∃ t, exec (.bypassReleaseGrant n hd) s = .next t
      ∧ (t.link n).state = (if s.obj 0x5002 n = 0 then .disabled else .training)
      ∧ (t.link (pairMate n)).state = (if s.obj 0x5002 (pairMate n) = 0 then .disabled else .training)) ∧
    ((s.link (pairMate n)).granted = false → ∃ t, exec (.bypassReleaseGrant n hd) s = .next t
      ∧ t.link n = { s.link n with granted := true } ∧ t.out = s.out)))

/-- A device that does not serve asks on every up link once an interval, where lane 0 has the credits; a parent answers with t1, t2 and t3. The reply
of the parent gives the offset ((t2 − t1) − (t4 − t3)) / 2; once the time has been set, no exchange steps it: it only
slews, by at most 500 ppm (R299, R343). The time states go from locked to holdover to free-running (R301). A candidate
that has heard of no lower one for 10 ms serves (R300). A Sync is measured, a delay response gives the path delay,
and a delay request goes out where a Sync has been heard (R344). -/
def Obligations.TimeService : Prop :=
  (∀ s : State, s.servesTime = false →
    (∀ n, n < 48 → (s.link n).isUp = true → (s.link n).waiting = [] ∧ 2 ≤ (s.link n).credits 0) →
    ∃ t, exec .timeExchangeTimer s = .next t
    ∧ t.out = s.out ++ ((List.range 48).filter fun n => (s.link n).isUp).map (fun n =>
        .linkMessage n (laneZero s 0x11 (match (s.link n).peer with | some (a, _) => a | none => 0)
          (exchangeBytes s 1 (s.time.ns % 2 ^ 64, s.time.frac) (0, 0) (0, 0))))
    ∧ (∀ n, n < 48 → (s.link n).isUp = true → (n, s.time.ns % 2 ^ 64, s.time.frac) ∈ t.time.asked)
    ∧ t.time.ns = s.time.ns) ∧
  (∀ (s : State) (n ns frac : Nat) (b : List Byte), n < 48 → (s.link n).isUp = true → exchangeOk 1 b = true →
    reservedSet (b.take 64) = false → exchangeReserved (b.drop 64) = false → (s.link n).waiting = [] →
    2 ≤ (s.link n).credits 0 → ns < 2 ^ 64 → frac < 2 ^ 32 → s.time.frac < 2 ^ 32 →
    ∃ t m, exec (.timeExchangeRequest n b ns frac) s = .next t ∧ t.out = s.out ++ [.linkMessage n m]
      ∧ leField m.payload 0 1 = 2 ∧ leField m.payload 8 8 = leField b 0x48 8
      ∧ leField m.payload 0x10 4 = leField b 0x50 4 ∧ leField m.payload 0x14 8 = ns
      ∧ leField m.payload 0x1C 4 = frac ∧ leField m.payload 0x20 8 = s.time.ns % 2 ^ 64
      ∧ t.time.ns = s.time.ns ∧ t.time.frac = s.time.frac) ∧
  (∀ (s : State) (n ns frac : Nat) (b : List Byte), s.time.setOnce = true → ∃ t,
    exec (.timeExchangeReply n b ns frac) s = .next t ∧ t.time.ns = s.time.ns ∧ t.time.frac = s.time.frac
      ∧ (t.time.slew = s.time.slew ∨ (-500000 ≤ t.time.slew ∧ t.time.slew ≤ 500000))) ∧
  (∀ (s : State) (n ns frac : Nat) (b : List Byte), n < 48 → (s.link n).isUp = true → exchangeOk 2 b = true →
    (n, leField b 0x48 8, leField b 0x50 4) ∈ s.time.asked → reservedSet (b.take 64) = false →
    exchangeReserved (b.drop 64) = false → (∃ x, ((s.takeLaneZero n).hear n (b.drop 64)).timeParent = some x ∧ x.link = n) → ∃ t,
    exec (.timeExchangeReply n b ns frac) s = .next t ∧ t.obj 0x5C01 0 = 1
      ∧ (let t1 := stamp (leField b 0x48 8) (leField b 0x50 4)
         let t2 := stamp (leField b 0x54 8) (leField b 0x5C 4)
         let t3 := stamp (leField b 0x60 8) (leField b 0x68 4)
         t.obj 0x5C04 0 = i32Code (toPs (((t2 - t1) - (stamp ns frac - t3)) / 2)))) ∧
  (∀ s : State, s.obj 0x5C01 0 = 1 → s.servesTime = false → ∃ t, exec .holdoverTimeout s = .next t
    ∧ t.obj 0x5C01 0 = 2 ∧ t.obj 0x5C07 0 = 500 ∧ t.time = s.time) ∧
  (∀ s : State, s.obj 0x5C01 0 = 2 → ∃ t, exec .freeRunningTimeout s = .next t
    ∧ t.obj 0x5C01 0 = 0 ∧ t.obj 0x5C07 0 = 0xFFFFFFFF ∧ t.time.neighbours = [] ∧ t.time.ns = s.time.ns) ∧
  (∀ s : State, s.candidate = true → s.time.lowerSeen.isSome = true → ∃ t, exec .timeSourceTakeover s = .next t
    ∧ t.servesTime = true ∧ t.timeSource = some s.address ∧ t.timeHops = 0 ∧ t.time.ns = s.time.ns) ∧
  (∀ (s : State) (o r g : Nat), s.obj 0x5C08 0 ≠ 0 → s.portUp (s.obj 0x5C09 0) = true →
    s.time.setOnce = true → ∃ t,
    exec (.ptpEventMessage (s.obj 0x5C09 0) (s.obj 0x5C0A 0) (.sync o r g)) s = .next t
      ∧ t.obj 0x5C0D 0 = i32Code (((r : Int) - o - s.time.delayNs) * 1000) ∧ t.obj 0x5C0E 0 = g % 2 ^ 64
      ∧ t.time.lastSync = some (o, r) ∧ t.time.ns = s.time.ns
      ∧ (s.servesTime = true → t.obj 0x5C01 0 = 1)) ∧
  (∀ (s : State) (sent master t1 t2 : Nat), s.obj 0x5C08 0 ≠ 0 → s.portUp (s.obj 0x5C09 0) = true →
    s.time.lastSync = some (t1, t2) → ∃ t,
    exec (.ptpEventMessage (s.obj 0x5C09 0) (s.obj 0x5C0A 0) (.delayResp sent master)) s = .next t
      ∧ t.time = { s.time with delayNs := (((t2 : Int) - t1 + ((master : Int) - sent)) / 2).toNat }
      ∧ t.obj 0x5C0C 0 = 3) ∧
  (∀ s : State, s.obj 0x5C08 0 ≠ 0 → s.portUp (s.obj 0x5C09 0) = true → s.time.lastSync.isSome = true →
    ∃ t, exec .delayRequestInterval s = .next t ∧ t.out = s.out ++ [.ptpDelayReq (s.obj 0x5C09 0)]
      ∧ t.time = s.time)

/-! ### Groups, the fabric and the expert directory -/

/-- A form command whose conditions hold reads the member map, computes the configuration digest, and, where no
group of the paddock stands yet, takes the job's epoch, step and identifier from the definition. A group of more than
one member is then forming; a group of one member has its verdict at once: formed where time is good, refused with
0x34 where it is not (R310). Otherwise the command is refused with 0x04 and nothing changes. A dissolve marks a
standing group, and once no issued operation of the group is left the slot is dissolved (R312). -/
def Obligations.GroupsForm : Prop :=
  AnswersWith .groupForm (fun u r a =>
    let p := r.paddock
    let d := u.pad p
    let g := d.group r.sub
    let h := (a.state.pad p).group r.sub
    let ok := d.active && !d.isStandby && formOk u p r.sub
    let timed := u.obj 0x5C01 0 != 0 && decide (u.obj 0x5C07 0 ≤ 500)
    (ok = true → p < 8 → r.sub < 16 → a.result = 0
      ∧ h.definition = g.definition ∧ h.members = readMap u p g.definition
      ∧ h.digest = configDigest u p r.sub h.members
      ∧ (d.groups.toList.any Group.standing = false →
          (a.state.pad p).epoch = defEpoch g.definition ∧ (a.state.pad p).step = defStart g.definition
            ∧ (a.state.pad p).job = g.job)
      ∧ (2 ≤ g.n → h.state = .forming)
      ∧ (g.n = 1 → h.state = (if timed then .formed else .refused) ∧ h.verdict = (if timed then 0 else 0x34))
      ∧ (∀ q, q ≠ p → a.state.pad q = u.pad q)) ∧
    (ok = false → a.refuses 4 u)) ∧
  AnswersWith .groupDissolve (fun u r a =>
    let p := r.paddock
    let g := (u.pad p).group r.sub
    (g.standing = true → p < 8 → a.result = 0
      ∧ a.state.pad p = (u.pad p).setGroup r.sub { g with state := .dissolving }
      ∧ (∀ q, q ≠ p → a.state.pad q = u.pad q) ∧ a.state.out = u.out) ∧
    (g.standing = false → a.makes u)) ∧
  (∀ (s : State) (p slot : Nat), p < 8 → slot < 16 → ((s.pad p).group slot).state = .dissolving →
    ((s.pad p).ops.any fun o => o.group == slot) = false →
    (s.pad p).commit.group ≠ some slot ∨ (s.pad p).commit.flight = none →
    ∃ t, exec (.dissolveEffect p slot) s = .next t
      ∧ t.pad p = (s.pad p).setGroup slot { (s.pad p).group slot with state := .dissolved }
      ∧ (∀ q, q ≠ p → t.pad q = s.pad q)) ∧
  (∀ (s : State) (p slot : Nat), ((s.pad p).group slot).state ≠ .dissolving →
    exec (.dissolveEffect p slot) s = .next s)

/-- An invite for a group that this member has not begun to form is kept; one for a forming group is compared, and
the member's own report carries a flag for each difference (R310). A head merges reports: it takes each cluster once,
and rank 0 decides when every member is covered, or at the time-out with what it has: 0x31, 0x32, 0x33 and 0x34 in
this order, then 0x70 where a member is silent (R311). A verdict forms or refuses the group; a member without one by
its time-out refuses it with 0x70. A dissolve message marks a standing group. A message that names no defined group
is dropped and counted in object 0x5842; where its job tag is no paddock's, in that of every paddock present (the model's
choice, log entry 132). Otherwise other paddocks are untouched. -/
def Obligations.FormationMessages : Prop :=
  (∀ (s u : State) (m : Delivered) (p : Nat) (x : Formation), FormationHere 1 s u m p x →
    let g := (u.pad p).group x.slot
    let i : Invite := { generation := x.generation, firmware := x.firmware, epoch := m.epoch, step := x.step,
                        digest := x.digest }
    (g.state ≠ .forming → ∃ t, exec .formationInvite s = .next t ∧ t.out = u.out
      ∧ t.pad p = (u.pad p).setGroup x.slot { g with invite := some i }
      ∧ (∀ q, q ≠ p → t.pad q = u.pad q)) ∧
    (g.state = .forming → g.rank ≠ 0 → g.reports = [] →
      let f := failFlags u p x.slot i
      ∃ t, exec .formationInvite s = .next t
        ∧ t.pad p = (u.pad p).setGroup x.slot { g with
            invite := none
            reports := [{ first := g.rank, covered := 1, flags := f
                          lowest := if f = 0 then 0xFFFFFFFF else g.rank, bound := u.obj 0x5C07 0 }] }
        ∧ (∀ q, q ≠ p → t.pad q = u.pad q))) ∧
  (∀ (s u : State) (m : Delivered) (p : Nat) (x : Formation), FormationHere 2 s u m p x →
    let g := (u.pad p).group x.slot
    let rep : Report := { first := x.first, covered := x.covered, flags := x.flags, lowest := x.lowest
                          bound := x.bound }
    let all := mergeReports (g.reports ++ [rep]) g.rank
    g.state = .forming → (g.reports.any fun y => y.first == x.first) = false →
    (g.rank ≠ 0 ∨ all.covered < subtreeSize g.n 0 → ∃ t, exec .formationReport s = .next t
      ∧ t.pad p = (u.pad p).setGroup x.slot { g with reports := g.reports ++ [rep] }
      ∧ (∀ q, q ≠ p → t.pad q = u.pad q)) ∧
    (g.rank = 0 → subtreeSize g.n 0 ≤ all.covered →
      let v := verdictOf all.flags all.covered g.n
      ∃ t, exec .formationReport s = .next t
        ∧ t.pad p = (u.pad p).setGroup x.slot { g with
            reports := g.reports ++ [rep], state := if v = 0 then .formed else .refused, verdict := v
            lowest := all.lowest, issued := 0 }
        ∧ (∀ q, q ≠ p → t.pad q = u.pad q))) ∧
  (∀ (s u : State) (m : Delivered) (p : Nat) (x : Formation), FormationHere 3 s u m p x →
    let g := (u.pad p).group x.slot
    (g.state = .forming → ∃ t, exec .formationVerdict s = .next t
      ∧ t.pad p = (u.pad p).setGroup x.slot { g with
          state := if x.verdict = 0 then .formed else .refused, verdict := x.verdict, lowest := x.lowest
          issued := 0 }
      ∧ (∀ q, q ≠ p → t.pad q = u.pad q)) ∧
    (g.state ≠ .forming → exec .formationVerdict s = .next u)) ∧
  (∀ (s u : State) (m : Delivered) (p : Nat) (x : Formation), FormationHere 4 s u m p x →
    let g := (u.pad p).group x.slot
    (g.standing = true → ∃ t, exec .formationDissolveMessage s = .next t
      ∧ t.pad p = (u.pad p).setGroup x.slot { g with state := .dissolving }
      ∧ (∀ q, q ≠ p → t.pad q = u.pad q)) ∧
    (g.standing = false → exec .formationDissolveMessage s = .next u)) ∧
  (∀ (s u : State) (m : Delivered) (p : Nat),
    s.take (fun m => m.kind == 4 && m.payload.length == 128 && leField m.payload 0 1 == 1) = some (m, u) →
    u.jobPaddock m.tag = some p → formationReserved m.payload = false →
    16 ≤ (parseFormation m.payload).slot → ∃ t, exec .formationInvite s = .next t
      ∧ t.pad p = (u.pad p).addObj 0x5842 0 1 ∧ (∀ q, q ≠ p → t.pad q = u.pad q)) ∧
  (∀ (s u : State) (m : Delivered),
    s.take (fun m => m.kind == 4 && m.payload.length == 128 && leField m.payload 0 1 == 1) = some (m, u) →
    u.jobPaddock m.tag = none → formationReserved m.payload = false → ∃ t, exec .formationInvite s = .next t
      ∧ ∀ p, p < 8 → t.pad p = if (u.pad p).present then (u.pad p).addObj 0x5842 0 1 else u.pad p) ∧
  (∀ (s : State) (p slot : Nat), p < 8 → slot < 16 → ((s.pad p).group slot).state = .forming →
    let g := (s.pad p).group slot
    let all := mergeReports g.reports 0
    let v := verdictOf all.flags all.covered g.n
    (g.rank = 0 → ∃ t, exec (.formationTimeout p slot) s = .next t
      ∧ t.pad p = (s.pad p).setGroup slot { g with
          state := if v = 0 then .formed else .refused, verdict := v, lowest := all.lowest, issued := 0 }
      ∧ (∀ q, q ≠ p → t.pad q = s.pad q)) ∧
    (g.rank ≠ 0 → exec (.formationTimeout p slot) s = .next s) ∧
    (∃ t, exec (.verdictWaitTimeout p slot) s = .next t
      ∧ t.pad p = (s.pad p).setGroup slot { g with state := .refused, verdict := 0x70, issued := 0 }
      ∧ (∀ q, q ≠ p → t.pad q = s.pad q)))

/-- A load that obeys R323 becomes a shadow of object 0x5830: the applied directory stays as it is until the step
that the load names, and the response names the apply. A copy holds the entries as they stand in memory at the write.
Canonical placement of E experts over D ranks puts expert i with the one rank whose share of the division holds i
(R318, R323). A load that breaks a rule is refused with 0x04. A dump writes the applied share, and nothing else, at
an address in a fixed allocation. -/
def Obligations.DirectoryRows : Prop :=
  AnswersWith .directoryLoadCopy (fun u r a =>
    let p := r.paddock
    let v := cleaned r.index r.num
    let x := parseLoad (leBytes 32 v)
    let es := copiedEntries u p x
    let ok := loadOk u p x && x.arg % 16 == 0 && (u.pad p).inFixed x.arg (16 * x.count) && !(es.any entryReserved)
    (ok = true → p < 8 → a.result = 0 ∧ a.flags = 1 ∧ a.apply = (u.pad p).obj 0x108B 0 + 1
      ∧ (a.state.pad p).shadow (okey r.index r.sub) = some { key := okey r.index r.sub, value := v, entries := es }
      ∧ a.state.directory = u.directory ∧ (∀ c, a.state.byteAt p c = u.byteAt p c)) ∧
    (ok = false → a.refuses 4 u)) ∧
  AnswersWith .directoryLoadCanonical (fun u r a =>
    let p := r.paddock
    let v := cleaned r.index r.num
    let x := parseLoad (leBytes 32 v)
    let ok := loadOk u p x && x.arg % 2 ^ 32 == x.count && within 1 262144 (x.arg >>> 32)
    (ok = true → p < 8 → a.result = 0 ∧ a.flags = 1 ∧ a.apply = (u.pad p).obj 0x108B 0 + 1
      ∧ (a.state.pad p).shadow (okey r.index r.sub) = some { key := okey r.index r.sub, value := v, entries := [] }
      ∧ a.state.directory = u.directory) ∧
    (ok = false → a.refuses 4 u)) ∧
  AnswersWith .directoryDump (fun u r a =>
    let p := r.paddock
    let b := shareBytes u p
    ((u.pad p).inFixed r.num (max 1 b.length) = true → p < 8 → u.memoriesOk = true →
      r.num + b.length ≤ hbmEnd → a.result = 0 ∧ a.state.bytesAt p r.num b.length = b
        ∧ (∀ c, c < r.num ∨ r.num + b.length ≤ c → a.state.byteAt p c = u.byteAt p c)
        ∧ (∀ q, q ≠ p → a.state.pad q = u.pad q) ∧ a.state.directory = u.directory) ∧
    ((u.pad p).inFixed r.num (max 1 b.length) = false → a.refuses 4 u)) ∧
  (∀ e n i : Nat, 0 < n → i < e →
    let r := rankOf e n i
    r < n ∧ (division e n r).1 ≤ i ∧ i < (division e n r).1 + (division e n r).2
      ∧ ∀ q, q < n → (division e n q).1 ≤ i → i < (division e n q).1 + (division e n q).2 → q = r)

/-- A message of types 0x01 to 0x03 goes to the operation it names: one of an earlier epoch, with a wrong operation
word, or late, is dropped and counted in its object; one that nothing uses is gone; a piece that ends its operation
lets the instruction complete, and no other paddock changes. Up to 16 ranks reduce from rank 0 upward, in rank order,
each step rounded (R315). A time-out returns 0x70 and leaves memory as it is (R321). A message carried from another
farm that is whole is acknowledged and delivered; one that is not is acknowledged and discarded (R342). -/
def Obligations.FabricMessages : Prop :=
  (∀ (c : Instr) (k : Nat) (s u : State) (m : Delivered),
    (c, k) ∈ [(Instr.collectiveDataMessage, 1), (.expertDispatchMessage, 2), (.expertCombineMessage, 3)] →
    FabricHere k s u m →
    let u := u.pairSend m
    (judge s m = .gone → exec c s = .next u) ∧
    (∀ p i, judge s m = .counted p i → ∃ t, exec c s = .next t ∧ t.pad p = (u.pad p).addObj i 0 1
      ∧ (∀ q, q ≠ p → t.pad q = u.pad q)) ∧
    (∀ p, judge s m = .mismatch p → ∃ t, exec c s = .next t
      ∧ (t.pad p).obj 0x5841 0 = ((u.pad p).obj 0x5841 0 + 1) % 2 ^ 32
      ∧ (t.pad p).hbm = (u.pad p).hbm ∧ (∀ q, q ≠ p → t.pad q = u.pad q)) ∧
    (∀ p o x, judge s m = .used p o x → ∃ t, exec c s = .next t ∧ t.inbox = u.inbox
      ∧ (∀ q, q ≠ p → t.pad q = u.pad q)
      ∧ (∀ e, o.kind ≠ 5 → look (opCtx u p { o with got := o.got ++ [x] }) { o with got := o.got ++ [x] } = .ends e →
          (∀ y ∈ (t.pad p).ops, y.flight = o.flight → y.done = true)
          ∧ (∀ f ∈ (t.pad p).flights, f.serial = o.flight → f.hold = .none)))) ∧
  (∀ (got : List Piece) (n i len : Nat) (v : Nat → Enc), 2 ≤ n → n ≤ 16 → (∀ x ∈ got, x.level = 0) →
    (∀ r, r < n → nodeAt got n i len 0 r = some (v r)) →
    reducedGroup got n i len = some (((List.range (n - 1)).map fun j => v (j + 1)).foldl foldEnc (v 0))) ∧
  (∀ (s : State) (p n : Nat) (o : FabOp), p < 8 → ((s.pad p).ops.find? fun o => o.flight == n) = some o →
    o.group < 16 → o.done = false →
    (o.r.p 4 = 0 → exec (.fabricOpTimeout p n) s = .next s) ∧
    (o.r.p 4 ≠ 0 → ∃ t, exec (.fabricOpTimeout p n) s = .next t
      ∧ (t.pad p).ops = (s.pad p).ops.filter (fun x => x.flight != n)
      ∧ o.seq ∈ ((t.pad p).group o.group).timedOut
      ∧ (∀ f ∈ (t.pad p).flights, f.serial = n → f.hold = .none ∧ 0x70 ∈ f.statuses)
      ∧ (∀ q c, t.byteAt q c = s.byteAt q c) ∧ (∀ q, q ≠ p → t.pad q = s.pad q))) ∧
  (∀ (s : State) (q : Nat) (hd pl : List Byte), 0 < q → q < 66 → s.reaches q = true → s.flows →
    let h := parseMsg hd
    (carriageOk hd pl = false → ∃ t, exec (.fabricCarriageReceived ⟨q, false⟩ hd pl) s = .next t
      ∧ t.inbox = s.inbox ∧ t.paddocks = s.paddocks ∧ t.links = s.links
      ∧ (t.qp q).received = ((s.qp q).received + 1) % 2 ^ 64
      ∧ t.out = s.out ++ (if q = 1 then [] else [.ack q])) ∧
    (carriageOk hd pl = true → 1 ≤ h.type → h.type ≤ 6 → reservedSet hd = false → h.dest = s.address →
      FabMsg.bodyReserved { header := hd, payload := pl } = false → ∃ t, exec (.fabricCarriageReceived ⟨q, false⟩ hd pl) s = .next t
        ∧ t.inbox = (if (h.source, h.flow, h.number) ∈ s.seen then s.inbox else s.inbox ++
            [{ kind := h.type, source := h.source, epoch := h.epoch, step := h.step, flow := h.flow,
               number := h.number, offset := h.offset, word := h.word, payload := pl }])
        ∧ t.paddocks = s.paddocks ∧ t.links = s.links
        ∧ t.out = s.out ++ (if q = 1 then [] else [.ack q])))

/-- R331. After a reset of the main die no group exists and every slot is empty; job epoch, job step and job
identifier read 0; every directory entry's valid bit is clear; every counter of R332 reads 0; and the directory
shares keep their last written values. It holds of the reset itself, and of every command that only resets. -/
def Obligations.FabricStateAfterReset : Prop :=
  let holds := fun (s t : State) =>
    (∀ p g, ((t.pad p).group g).state = .empty)
    ∧ (∀ p, (t.pad p).obj 0x5820 0 = 0 ∧ (t.pad p).obj 0x5821 0 = 0 ∧ (t.pad p).obj 0x5822 0 = 0)
    ∧ (∀ n, (leField (t.dirEntry n) 0 4).testBit 31 = false)
    ∧ (∀ p i, 0x5840 ≤ i → i ≤ 0x5847 → (t.pad p).obj i 0 = 0)
    ∧ (∀ p, p < 8 → t.obj 0x5803 p = s.obj 0x5803 p)
  (∀ s : State, holds s s.resetMain) ∧
  (∀ (c : Instr) (s t : State), (c = .mainPowerLoss ∨ (∃ w, c = .mainReset w) ∨ c = .refclkSysLoss
      ∨ ∃ x m, c = .thermalTrip x m) →
    s.power.running = true → exec c s = .next t → t.power.running = false → holds s t)

/-- R425. Objects 0x3802.n of the logical ports and 0x1080 of the management port read, whatever principal asks: byte
0 is (d[0] AND 0xFC) OR 0x02, bytes 1 to 4 are d[1] to d[4], byte 5 is (d[5] AND 0xF0) OR i, where i is the port's
number, and 8 for the management port. -/
def Obligations.MacAddresses : Prop :=
  ∀ (s : State) (who p i : Nat), i ≤ 8 →
    let d := fun (k : Nat) => (Crypto.sha512 s.life.publicKey).getD k 0
    s.value who p (if i = 8 then 0x1080 else 0x3802) (if i = 8 then 0 else i) =
      [(d 0 &&& 0xFC#8) ||| 0x02#8, d 1, d 2, d 3, d 4, (d 5 &&& 0xF0#8) ||| BitVec.ofNat 8 i]

/-! ### Commit, partner copies and recovery -/

/-- Partner image bytes go into the held slot of their parity; the image is complete exactly when all of it has come
and both digests match (R368), and an image too large for the slot is refused and leaves the slot as it was. An
acknowledgement of the running commit's image completes the home copy, a refusal is noted. A complete image that is
asked for is sent to the asker; pulled bytes that match their digests complete the slot that their word names, and
bytes that do not leave it incomplete (R374). No memory of the paddock and no other paddock changes. -/
def Obligations.PartnerImages : Prop :=
  (∀ (s u : State) (m : Delivered) (p : Nat), CopyHere 0 s u m p →
    let c := (u.pad p).commit
    let k := copyParity m
    let i := addPiece (c.held.getD k none) m
    let b := i.bytes.take i.total
    (m.offset = 0 → u.commitSlotSize p < i.total →
      ∃ t, exec .imageData s = .next t ∧ t.paddocks = u.paddocks) ∧
    (m.offset ≠ 0 ∨ i.total ≤ u.commitSlotSize p →
      192 ≤ i.bytes.length → i.total ≤ i.bytes.length → digestsOk b = true →
      ∃ t, exec .imageData s = .next t
        ∧ (t.pad p).commit.held = c.held.set k (some { i with bytes := b, complete := true })
        ∧ (t.pad p).hbm = (u.pad p).hbm ∧ (∀ q, q ≠ p → t.pad q = u.pad q)) ∧
    (m.offset ≠ 0 ∨ i.total ≤ u.commitSlotSize p → ¬ (192 ≤ i.bytes.length ∧ i.total ≤ i.bytes.length) →
      ∃ t, exec .imageData s = .next t ∧ (t.pad p).commit.held = c.held.set k (some { i with complete := false })
        ∧ t.out = u.out ∧ t.links = u.links ∧ (t.pad p).hbm = (u.pad p).hbm ∧ (∀ q, q ≠ p → t.pad q = u.pad q)) ∧
    (m.offset ≠ 0 ∨ i.total ≤ u.commitSlotSize p → 192 ≤ i.bytes.length → i.total ≤ i.bytes.length →
      digestsOk b = false → ∃ t, exec .imageData s = .next t
        ∧ (t.pad p).commit.held = c.held.set k (some { i with bytes := b, complete := false })
        ∧ t.out = u.out ∧ t.links = u.links ∧ (t.pad p).hbm = (u.pad p).hbm ∧ (∀ q, q ≠ p → t.pad q = u.pad q))) ∧
  (∀ (s u : State) (m : Delivered) (p : Nat),
    let c := (u.pad p).commit
    let mine := c.running.isSome && c.running == (c.home.getD (copyParity m) none).map (·.step)
    (CopyHere 1 s u m p → mine = true → ∃ t, exec .imageAck s = .next t
      ∧ t.pad p = { u.pad p with commit := { c with
          acked := true
          home := c.home.modify (copyParity m) fun i => i.map fun i => { i with complete := true } } }
      ∧ (∀ q, q ≠ p → t.pad q = u.pad q)) ∧
    (CopyHere 1 s u m p → mine = false → exec .imageAck s = .next u) ∧
    (CopyHere 2 s u m p → mine = true → ∃ t, exec .imageRefusal s = .next t
      ∧ t.pad p = { u.pad p with commit := { c with refused := true } }
      ∧ (∀ q, q ≠ p → t.pad q = u.pad q)) ∧
    (CopyHere 2 s u m p → mine = false → exec .imageRefusal s = .next u)) ∧
  (∀ (s u : State) (m : Delivered) (p : Nat), CopyHere 3 s u m p →
    let c := (u.pad p).commit
    let k := copyParity m
    let l := if copyClass m = 1 then c.held else c.home
    (∀ i, l.getD k none = some i → i.complete = true →
      ∃ t, exec .pullRequest s = .next t ∧ t.paddocks = u.paddocks
        ∧ t = sendCopy u p m.source (copyWord 4 k 0 m.tag)
            (pullStream i (if copyClass m = 1 then c.heldStatics else c.ownStatics))) ∧
    ((∀ i, l.getD k none = some i → i.complete = false) → exec .pullRequest s = .next u)) ∧
  (∀ (s u : State) (m : Delivered) (p : Nat),
    s.take (fun m => m.kind == 5 && copyKind m == 4) = some (m, u) → pullPaddock u m.tag = some p →
    let slots := fun (t : State) => if copyClass m = 0 then (t.pad p).commit.home else (t.pad p).commit.held
    let k := copyParity m
    let i := addPiece ((slots u).getD k none) m
    let b := i.bytes.take i.total
    let all := 192 ≤ i.bytes.length ∧ i.total + 8 ≤ i.bytes.length
      ∧ i.total + 8 + leField i.bytes i.total 8 ≤ i.bytes.length
    (all → digestsOk b = true → ∃ t, exec .pullData s = .next t
      ∧ slots t = (slots u).set k (some { i with bytes := b, complete := true, sealed := true })
      ∧ (t.pad p).hbm = (u.pad p).hbm ∧ (∀ q, q ≠ p → t.pad q = u.pad q)) ∧
    (¬ all ∨ digestsOk b = false → ∃ t, exec .pullData s = .next t
      ∧ slots t = (slots u).set k (some i) ∧ i.complete = false
      ∧ (t.pad p).hbm = (u.pad p).hbm ∧ (∀ q, q ≠ p → t.pad q = u.pad q)))

/-- The seal of the running commit brings the job step to its step, seals the complete images of that step, applies
the shadows and lets STEP_COMMIT complete. A result other than 0 is returned by the commit, and the step stays; 0x52
ends the recovery as well (R379). A seal that fits no running commit is counted in object 0x5843. A time-out returns
0x70 and leaves step and images as they are. Memory is unchanged throughout, but for blocks whose retained copy alone
was left and that the apply gives up. -/
def Obligations.CommitEnds : Prop :=
  (∀ (s : State) (p n step lowest : Nat), p < 8 → (s.pad p).present = true →
    (s.pad p).commit.running = some step → (s.pad p).commit.flight = some n →
    let c := (s.pad p).commit
    ((s.pad p).shadowsOk = true → ∃ t, exec (.commitSeal p step 0 lowest) s = .next t
      ∧ (t.pad p).step = step ∧ (t.pad p).obj 0x9005 0 = step
      ∧ (t.pad p).obj 0x108B 0 = objWrap 0x108B 0 ((s.pad p).obj 0x108B 0 + 1)
      ∧ (t.pad p).commit.running = none ∧ (t.pad p).commit.flight = none
      ∧ ((s.pad p).replaying = none → (t.pad p).commit.home = sealSlot c.home step
          ∧ (t.pad p).commit.held = sealSlot c.held step ∧ (t.pad p).commit.staticsKept = true)
      ∧ ((s.pad p).replaying ≠ none → (t.pad p).commit.home = c.home)
      ∧ (∀ f ∈ (t.pad p).flights, f.serial = n → f.hold = .none)
      ∧ ((s.pad p).homesKept → ∀ a, t.byteAt p a = s.byteAt p a) ∧ (∀ q, q ≠ p → t.pad q = s.pad q)) ∧
    (∀ result, result ≠ 0 → result ≠ 0x52 → ∃ t, exec (.commitSeal p step result lowest) s = .next t
      ∧ (t.pad p).objs = (s.pad p).objs ∧ (t.pad p).shadows = (s.pad p).shadows
      ∧ (t.pad p).commit = { c with running := none, flight := none }
      ∧ (∀ f ∈ (t.pad p).flights, f.serial = n → f.hold = .none ∧ result ∈ f.statuses)
      ∧ (∀ a, t.byteAt p a = s.byteAt p a) ∧ (∀ q, q ≠ p → t.pad q = s.pad q)) ∧
    (∃ t, exec (.commitSeal p step 0x52 lowest) s = .next t
      ∧ (t.pad p).step = (s.pad p).step ∧ (t.pad p).recovery = none
      ∧ (t.pad p).obj 0x900D 0 = objWrap 0x900D 0 ((s.pad p).obj 0x900D 0 + 1)
      ∧ (t.pad p).commit = { c with running := none, flight := none }
      ∧ (∀ f ∈ (t.pad p).flights, f.serial = n → f.hold = .none ∧ 0x52 ∈ f.statuses)
      ∧ (∀ q, q ≠ p → t.pad q = s.pad q)) ∧
    (∀ other result, other ≠ step → ∃ t, exec (.commitSeal p other result lowest) s = .next t
      ∧ t.pad p = (s.pad p).addObj 0x5843 0 1 ∧ (∀ q, q ≠ p → t.pad q = s.pad q))) ∧
  (∀ (s : State) (p n : Nat), p < 8 → (s.pad p).commit.flight = some n →
    ((s.pad p).commit.limit = 0 → exec (.stepCommitTimeout p n) s = .next s) ∧
    ((s.pad p).commit.limit ≠ 0 → ∃ t, exec (.stepCommitTimeout p n) s = .next t
      ∧ (t.pad p).objs = (s.pad p).objs
      ∧ (t.pad p).commit = { (s.pad p).commit with running := none, flight := none }
      ∧ (∀ f ∈ (t.pad p).flights, f.serial = n → f.hold = .none ∧ 0x70 ∈ f.statuses)
      ∧ (∀ a, t.byteAt p a = s.byteAt p a) ∧ (∀ q, q ≠ p → t.pad q = s.pad q)))

/-- A program that stops with 0x30, 0x51 or 0x70 in an active paddock with object 0x9000 at TRUE and a formed commit group
starts a recovery under the next epoch, with that status as its trigger; another stop starts none (R371). A member that has detected a fault calls rank 0, and then, where no stop comes, the alternate; rank 0 leads, and
its paddock stops (R371, R372). A stop of a later epoch stops the paddock: no active program, instruction or
operation is left, and memory stays as it is but for blocks that only a retained copy held (R373). The leader notes each member's report. At the probe time-out the
silent members are failed; without a live source for every image, or without a standby left, the attempt is given up
with 0x51 (R374, R375). An abandoned job has no standing group and no recovery, and object 0x9001 reads 7 (R380). -/
def Obligations.RecoveryStarts : Prop :=
  (∀ (s : State) (p n : Nat) (f : Flight) (pr : Program), p < 8 →
    let u := s.finishUnits p n
    ((u.pad p).flights.find? fun f => f.serial == n) = some f → canRetire u p f = true → farFlight u p n = false →
    (u.pad p).program f.prog = some pr → pr.recompute = none → pr.stop = none → (u.pad p).recovery = none →
    let stop := stopOf pr.flags f.statuses
    (∀ st, stop = some st → st = 0x30 ∨ st = 0x51 ∨ st = 0x70 → (u.pad p).obj 0x9000 0 = 1 →
      (u.pad p).commitFormed = true → (u.pad p).active = true →
      ∃ t r, exec (.instructionComplete p n) s = .next t ∧ (t.pad p).recovery = some r ∧ r.trigger = st
        ∧ r.attempt = 1 ∧ r.epoch = (u.pad p).obj 0x5820 0 + 1 ∧ r.suspect < 2 ^ 18
        ∧ (t.pad p).obj 0x9001 0 = 1 ∧ (∀ q, q ≠ p → t.pad q = u.pad q)) ∧
    ((∀ st, stop = some st → st ≠ 0x30 ∧ st ≠ 0x51 ∧ st ≠ 0x70) →
      ∃ t, exec (.instructionComplete p n) s = .next t ∧ (t.pad p).recovery = none
        ∧ t.faults = u.faults ∧ (∀ q, q ≠ p → t.pad q = u.pad q))) ∧
  (∀ (s : State) (p : Nat) (r : Recovery), p < 8 → (s.pad p).present = true →
    s.take (fun m => m.kind == 6 && leField m.payload 0 1 == 1 && leField m.payload 4 4 == (s.pad p).job) = none →
    (s.pad p).recovery = some r → r.leading = false → r.restoring = false → r.abandon = none →
    s.faults.degraded = false →
    ((s.pad p).commitRank ≠ 0 → r.called = 0 → ∃ t, exec (.recoveryCall p) s = .next t
      ∧ t.pad p = { s.pad p with recovery := some { r with called := 1 } }
      ∧ (∀ q, q ≠ p → t.pad q = s.pad q)) ∧
    ((s.pad p).commitRank ≠ 0 → r.called = 1 → (s.pad p).stopped = false →
      (s.pad p).commitRank ≠ (s.pad p).alternate → ∃ t, exec (.recoveryCall p) s = .next t
        ∧ t.pad p = { s.pad p with recovery := some { r with called := 2 } }) ∧
    ((s.pad p).commitRank = 0 → 2 ≤ (s.pad p).commitCount → r.reports = [] →
      ∃ t, exec (.recoveryCall p) s = .next t
        ∧ (t.pad p).recovery = some { r with leading := true, reports := [ownReport (s.pad p)] }
        ∧ (t.pad p).obj 0x9001 0 = 2 ∧ (t.pad p).stopped = true
        ∧ (t.pad p).flights = [] ∧ (t.pad p).ops = []
        ∧ ((s.pad p).homesKept → ∀ a, t.byteAt p a = s.byteAt p a)
        ∧ (∀ q, q ≠ p → t.pad q = s.pad q))) ∧
  (∀ (s u : State) (m : Delivered) (x : Control) (p : Nat), ControlHere 2 s u m x →
    u.memberPaddock x.job = some p → (u.pad p).obj 0x9000 0 = 1 → (u.pad p).recovery = none →
    ((u.pad p).epoch < x.epoch → ∃ t, exec .recoveryStop s = .next t
      ∧ (t.pad p).stopped = true ∧ (t.pad p).flights = [] ∧ (t.pad p).ops = []
      ∧ (∀ pr ∈ (t.pad p).programs, pr.active = false)
      ∧ ((t.pad p).recovery.map fun r => (r.epoch, r.attempt, r.leading)) = some (x.epoch, x.attempt, false)
      ∧ ((u.pad p).homesKept → ∀ a, t.byteAt p a = u.byteAt p a) ∧ (∀ q, q ≠ p → t.pad q = u.pad q)) ∧
    (x.epoch ≤ (u.pad p).epoch → exec .recoveryStop s = .next u)) ∧
  (∀ (s u : State) (m : Delivered) (x : Control) (p i j : Nat) (r : Recovery), ControlHere 3 s u m x →
    u.memberPaddock x.job = some p → (u.pad p).recovery = some r →
    (((u.pad p).group (u.pad p).commitSlot).members.findIdx? fun a => a == m.source) = some i →
    r.leading = true → r.fixed = false → r.epoch = x.epoch → j < (u.pad p).commitCount → j ≠ i →
    (∀ y ∈ r.reports, y.rank ≠ j ∧ y.rank ≠ i) → ∃ t, exec .recoveryReport s = .next t
      ∧ t.pad p = { u.pad p with recovery := some { r with
          reports := r.reports ++ [{ rank := i, sealedStep := x.sealedStep, steps := x.steps }] } }
      ∧ (∀ q, q ≠ p → t.pad q = u.pad q)) ∧
  (∀ (s : State) (p : Nat) (r : Recovery), p < 8 → (s.pad p).recovery = some r → r.leading = true →
    r.restoring = false → r.abandon = none → r.fixed = false →
    let d := s.pad p
    let failed := (List.range d.commitCount).filter fun i => !(r.reports.any fun m => m.rank == i)
    let k := (r.reports.map (·.sealedStep)).foldl max d.commit.startStep
    let steps := neededSteps d.commit.startStep k
    let live := steps.all fun st => (List.range d.commitCount).all (sourceLive d.commitCount r.reports st)
    let r1 : Recovery := { r with
      fixed := true, failed := failed, restoreStep := steps.headD d.commit.startStep, cursor := 0, plan := [] }
    let l := standbyList s p
    (live = false ∨ (failed ≠ [] ∧ nextStandby d r1 l l.length 0 = none) →
      ∃ t, exec (.probeTimeout p) s = .next t
        ∧ t.pad p = { d with recovery := some { r1 with abandon := some 0x51 } }
        ∧ (∀ q, q ≠ p → t.pad q = s.pad q)) ∧
    (∀ i a, live = true → failed ≠ [] → nextStandby d r1 l l.length 0 = some (i, a) →
      ∃ t, exec (.probeTimeout p) s = .next t
        ∧ t.pad p = { d with recovery := some { r1 with cursor := i + 1, probing := some a } }
        ∧ (∀ q, q ≠ p → t.pad q = s.pad q)) ∧
    (live = true → failed = [] → ∃ t, exec (.probeTimeout p) s = .next t
      ∧ (t.pad p).epoch = r.epoch ∧ (t.pad p).step = r1.restoreStep ∧ (t.pad p).obj 0x9001 0 = 3)) ∧
  (∀ (s : State) (p : Nat) (r : Recovery) (st : Nat), p < 8 → (s.pad p).present = true →
    s.take (fun m => m.kind == 6 && leField m.payload 0 1 == 8 && leField m.payload 4 4 == (s.pad p).job) = none →
    (s.pad p).recovery = some r →
    (r.abandon = none → exec (.recoveryAbandon p) s = .next s) ∧
    (r.abandon = some st → ∃ t, exec (.recoveryAbandon p) s = .next t
      ∧ (t.pad p).recovery = none ∧ (t.pad p).stopped = false ∧ (t.pad p).obj 0x9001 0 = 7
      ∧ (∀ k, ((t.pad p).group k).standing = false)
      ∧ ((s.pad p).homesKept → ∀ a, t.byteAt p a = s.byteAt p a) ∧ (∀ q, q ≠ p → t.pad q = s.pad q)))

/-- A member follows a plan of a later epoch from rank 0: its epoch and step become the plan's, its paddock is stopped
and object 0x9001 reads 3; it follows no other (R372, R375). A standby that a plan names takes its rank. A probed
standby answers and changes nothing. A usable standby's answer fills the plan, and with every failed rank replaced
the plan is in force; whether one is usable is a free value (log entry 26). Restore waits for its images; then every
event counter and bound register is 0, the state is 4 until the groups have formed, and then 5 with the paddock free to
issue (R376 to R378). The leader notes each member's restore. -/
def Obligations.PlanAndRestore : Prop :=
  (∀ (s u : State) (m : Delivered) (x : Control) (p : Nat), ControlHere 4 s u m x →
    u.memberPaddock x.job = some p →
    let follows := mayFollow (u.pad p) m x && !(x.plan.any fun e => u.address == (u.pad p).commitAddr e.1)
    (follows = true → ∃ t, exec .recoveryPlan s = .next t
      ∧ (t.pad p).epoch = x.epoch ∧ (t.pad p).step = x.steps.getD 0 0 ∧ (t.pad p).job = x.job
      ∧ (t.pad p).obj 0x9001 0 = 3 ∧ (t.pad p).stopped = true
      ∧ ((t.pad p).recovery.map fun r => (r.epoch, r.plan, r.restoring)) = some (x.epoch, x.plan, true)
      ∧ ((u.pad p).homesKept → ∀ a, t.byteAt p a = u.byteAt p a) ∧ (∀ q, q ≠ p → t.pad q = u.pad q)) ∧
    (follows = false → exec .recoveryPlan s = .next u)) ∧
  (∀ (s u : State) (m : Delivered) (x : Control) (p : Nat) (e : Nat × Nat), ControlHere 4 s u m x →
    u.memberPaddock x.job = none → u.standbyPaddock x.job = some p →
    (x.plan.find? fun e => e.2 == u.address) = some e → (u.pad p).recovery = none →
    ∃ t, exec .recoveryPlan s = .next t ∧ (t.pad p).stopped = true ∧ (t.pad p).epoch = x.epoch
      ∧ (t.pad p).obj 0x9001 0 = 3
      ∧ ((t.pad p).recovery.map fun r => (r.rank, r.standby, r.restoring)) = some (e.1, true, true)) ∧
  (∀ (s u : State) (m : Delivered) (x : Control), ControlHere 6 s u m x →
    (∀ p, u.standbyPaddock x.job = some p → ∃ t, exec .standbyProbe s = .next t
      ∧ t = sendControl u p m.source { x with kind := 7 } ∧ t.paddocks = u.paddocks) ∧
    (u.standbyPaddock x.job = none → exec .standbyProbe s = .next u)) ∧
  (∀ (s u : State) (m : Delivered) (x : Control) (p : Nat) (r : Recovery), ControlHere 7 s u m x →
    u.memberPaddock x.job = some p → (u.pad p).recovery = some r →
    (r.probing ≠ some m.source → exec .standbyAnswer s = .next u) ∧
    (r.probing = some m.source → r.leading = true → r.restoring = false →
      let usable := Config.freeNat u.free % 2 = 1
      let pair := (r.failed.getD r.plan.length 0, m.source)
      (usable → r.failed.length = r.plan.length + 1 → ∃ t, exec .standbyAnswer s = .next t
        ∧ t.free = u.free + 1 ∧ ((t.pad p).recovery.map (·.plan)) = some (r.plan ++ [pair])
        ∧ (t.pad p).obj 0x9001 0 = 3 ∧ (t.pad p).epoch = r.epoch) ∧
      (¬ usable → r.failed.length ≠ r.plan.length →
        (∀ y : Recovery, y.plan = r.plan → nextStandby (u.pad p) y (standbyList u p) (standbyList u p).length r.cursor
          = none) →
        ∃ t, exec .standbyAnswer s = .next t ∧ t.free = u.free + 1
          ∧ t.pad p = { u.pad p with recovery := some { r with probing := none, abandon := some 0x51 } }))) ∧
  (∀ (s : State) (p : Nat) (r : Recovery), p < 8 → (s.pad p).recovery = some r → r.restoring = true →
    (s.pad p).obj 0x9001 0 ≠ 5 → r.rank ∉ r.restored →
    let image := fun (k : Nat) =>
      ((s.pad p).commit.home.getD (k % 2) none).filter fun i => i.step == k && i.complete
    (r.nothing = false → image r.restoreStep = none → exec (.restoreComplete p) s = .next s) ∧
    (r.nothing = true → ∃ t, exec (.restoreComplete p) s = .next t
      ∧ ((t.pad p).recovery.map (·.restored)) = some (r.restored ++ [r.rank])
      ∧ (t.pad p).obj 0x9001 0 = (if (s.pad p).settled then 5 else 4)
      ∧ ((s.pad p).settled = true → (t.pad p).stopped = false)
      ∧ (∀ a, t.byteAt p a = s.byteAt p a) ∧ (∀ q, q ≠ p → t.pad q = s.pad q)) ∧
    (∀ i, r.nothing = false → image r.restoreStep = some i → (∀ k, r.replay = some k → (image k).isSome = true) →
      (s.pad p).programs = [] → ∃ t, exec (.restoreComplete p) s = .next t
        ∧ ((t.pad p).recovery.map (·.restored)) = some (r.restored ++ [r.rank])
        ∧ ((t.pad p).obj 0x9001 0 = 4 ∨ (t.pad p).obj 0x9001 0 = 5)
        ∧ (∀ n, n < 64 → (t.pad p).obj 0xA002 n = 0) ∧ (∀ n, n < 16 → (t.pad p).obj 0xA003 n = 0)
        ∧ (∀ q, q ≠ p → t.pad q = s.pad q))) ∧
  (∀ (s u : State) (m : Delivered) (x : Control) (p i : Nat) (r : Recovery), ControlHere 5 s u m x →
    u.memberPaddock x.job = some p → (u.pad p).recovery = some r → i ∉ r.restored →
    (((u.pad p).group (u.pad p).commitSlot).members.findIdx? fun a => a == m.source) = some i →
    ∃ t, exec .recoveryRestored s = .next t
      ∧ t.pad p = { u.pad p with recovery := some { r with restored := r.restored ++ [i] } }
      ∧ (∀ q, q ≠ p → t.pad q = u.pad q))

/-! ### Tiers, faults and the Drill -/

/-- Silo off-loads the first candidates of R219 that bring the free quota to the headroom; a block that CXL
acknowledges leaves HBM and is counted, and what waits for room is served. A fetch with room brings every block of the
wanted range on its way; when it completes they are resident, and the readers go on. At a missed deadline a recompute
program starts where its cost is less than the fetch's and there is room; a lost block without one returns 0x11, and
otherwise Silo waits and counts the deadline missed. A recompute that ran to its end makes every block fresh and its
readers return 0x12; one that stopped is counted. A part of a CXL operand is staged where the area has room. No byte
that a paddock reads changes but for the records that the counters of discarded and retired work may write. -/
def Obligations.SiloMoves : Prop :=
  (∀ (s : State) (p : Nat), p < 8 → (s.pad p).present = true → s.tiers.cxlPresent = true →
    let moving := ((s.pad p).allocs.map fun e => (e.2.blocks.filter fun b => b.place == .offloading).length).foldl
      (· + ·) 0
    let lack := (s.pad p).obj 0x4024 0 - (s.freeQuota p + moving)
    (lack = 0 → exec (.offloadStart p) s = .next s) ∧
    (lack ≠ 0 → ∃ t, exec (.offloadStart p) s = .next t
      ∧ (∀ c ∈ (s.candidates p).take lack, ∀ a, (t.pad p).alloc c.1 = some a →
          ∀ b ∈ a.blocks, b.index = c.2 → b.place ≠ .resident)
      ∧ (∀ a, t.byteAt p a = s.byteAt p a) ∧ (∀ q, q ≠ p → t.pad q = s.pad q))) ∧
  (∀ (s : State) (p j i o : Nat) (l : List (Nat × Nat × Nat)), p < 8 →
    (s.pad p).moving .offloading = (j, i, o) :: l →
    let u := s.modPad p fun d => d.evict j i
    exec (.offloadComplete p) s = .next (u.grant p)
      ∧ (∀ a, (u.pad p).alloc j = some a → ∀ b ∈ a.blocks, b.index = i → b.place = .offloaded)
      ∧ (u.pad p).obj 0x4026 0 = objWrap 0x4026 0 ((s.pad p).obj 0x4026 0 + 1)
      ∧ (∀ a, u.byteAt p a = s.byteAt p a) ∧ (∀ q, q ≠ p → u.pad q = s.pad q)
      ∧ ((u.pad p).waited = 0 → u.grant p = u)) ∧
  (∀ (s : State) (p j x n : Nat) (a : Alloc), p < 8 → (s.pad p).present = true → s.tiers.cxlPresent = true →
    firstWanted s p = some (j, x, n) → (s.pad p).alloc j = some a →
    let l := (a.blocks.filter fun b => b.place == .offloaded && blockMeets a b x n).map (·.index)
    (l.length ≤ s.freeQuota p → ∃ t, exec (.fetchStart p) s = .next t
      ∧ ((t.pad p).alloc j).map (·.blocks) = some (a.blocks.map fun b =>
          if l.contains b.index then { b with place := .fetching, order := (s.pad p).moves } else b)
      ∧ (∀ c, t.byteAt p c = s.byteAt p c) ∧ (∀ q, q ≠ p → t.pad q = s.pad q)) ∧
    (s.makeRoom p l.length = none → exec (.fetchStart p) s = .next s)) ∧
  (∀ (s : State) (p j : Nat) (a : Alloc), p < 8 → s.tiers.cxlPresent = true → (s.pad p).alloc j = some a →
    a.saved = none → (∀ b ∈ a.blocks, b.place ≠ .lost) →
    let n := (a.blocks.filter fun b => b.place == .fetching).length
    let u := settleRace s p j false
    n ≠ 0 → ∃ t, exec (.fetchComplete p j) s = .next t
      ∧ ((t.pad p).alloc j).map (·.blocks) = some (a.blocks.map fun b =>
          if b.place == .fetching then
            { b with place := .resident, held := if b.clean then b.held else none } else b)
      ∧ (∀ f ∈ (t.pad p).flights, j ∉ f.waits) ∧ (∀ x ∈ (t.pad p).programs, x.recompute ≠ some j)
      ∧ (t.pad p).obj 0x4027 0 = objWrap 0x4027 0 ((s.pad p).obj 0x4027 0 + n)
      ∧ (∀ c, t.byteAt p c = u.byteAt p c) ∧ (∀ q, q ≠ p → t.pad q = u.pad q)) ∧
  (∀ (s : State) (p n j : Nat) (f : Flight) (a : Alloc) (l : List Nat), p < 8 →
    ((s.pad p).flights.find? fun f => f.serial == n) = some f → f.waits = j :: l → (s.pad p).alloc j = some a →
    let d := s.pad p
    let lost := a.blocks.any fun b => b.place == .lost
    let starts := a.recI != 0 && (lost || a.recCost * (s.cxlRate).1 < a.outstanding)
      && a.len / blockSize ≤ s.freeQuota p && d.activeCount < 16
      && !(d.programs.any fun x => x.recompute == some j)
    (starts = true → ∃ t, exec (.deadlineDecision p n) s = .next t
      ∧ (∃ pr l, (t.pad p).programs = l ++ [pr] ∧ l.length = d.programs.length ∧ (∀ y ∈ l.zip d.programs, y.1.like y.2)
          ∧ pr.recompute = some j ∧ pr.active = true ∧ pr.next = 0
          ∧ pr.nI = a.recI ∧ pr.nD = a.recD ∧ pr.body = .byRef a.recAddr)
      ∧ (∀ c, t.byteAt p c = s.byteAt p c) ∧ (∀ q, q ≠ p → t.pad q = s.pad q)) ∧
    (lost = true → a.recI = 0 → ∃ t, exec (.deadlineDecision p n) s = .next t
      ∧ (∀ y ∈ (t.pad p).flights, j ∉ y.waits) ∧ (∃ y ∈ (t.pad p).flights, y.serial = n ∧ 0x11 ∈ y.statuses)
      ∧ (t.pad p).programs = d.programs) ∧
    (starts = false → (lost = true → a.recI ≠ 0) → ∃ t, exec (.deadlineDecision p n) s = .next t
      ∧ (t.pad p).flights = d.flights ∧ (t.pad p).programs = d.programs
      ∧ (t.pad p).obj 0x402A 0 =
          if a.wanted then objWrap 0x402A 0 (d.obj 0x402A 0 + 1) else d.obj 0x402A 0)) ∧
  (∀ (s : State) (p j : Nat) (pr : Program) (a : Alloc), p < 8 →
    ((s.pad p).programs.find? fun x => x.recompute == some j) = some pr → (s.pad p).alloc j = some a →
    programOver (s.pad p) pr = true →
    (pr.stop = none → ∃ t, exec (.recomputeComplete p j) s = .next t
      ∧ ((t.pad p).alloc j).map (·.blocks) = some (a.blocks.map fun b =>
          { b with place := .resident, clean := false, held := none })
      ∧ (∀ f ∈ (t.pad p).flights, j ∉ f.waits) ∧ (∀ x ∈ (t.pad p).programs, x.recompute ≠ some j)
      ∧ (∀ f ∈ (s.pad p).flights, j ∈ f.waits →
          (∀ x ∈ (s.pad p).programs, x.recompute = some j → f.prog ≠ x.serial) →
          ∃ y ∈ (t.pad p).flights, y.serial = f.serial ∧ 0x12 ∈ y.statuses)
      ∧ (∀ c, t.byteAt p c = (settleRace s p j true).byteAt p c)
      ∧ (∀ q, q ≠ p → t.pad q = (settleRace s p j true).pad q)) ∧
    (pr.stop ≠ none → ∃ t, exec (.recomputeComplete p j) s = .next t
      ∧ (∀ x ∈ (t.pad p).programs, x.recompute ≠ some j)
      ∧ (t.pad p).obj 0x402C 0 = objWrap 0x402C 0 ((s.pad p).obj 0x402C 0 + 1)
      ∧ (∀ q, q ≠ p → t.pad q = (settleRace s p j false).pad q))) ∧
  (∀ (s : State) (p n : Nat), p < 8 →
    (∀ f x r, s.tiers.cxlPresent = true → ((s.pad p).flights.find? fun f => f.serial == n) = some f →
      f.stage = x :: r →
      (∀ d, (s.pad p).stagePart (s.obj 0x4011 p) x (some n) = some d → ∃ t, exec (.staging p n) s = .next t
        ∧ (t.pad p).flights = (s.pad p).flights.map (fun g => if g.serial == n then { g with stage := r } else g)
        ∧ (t.pad p).staged = d.staged ∧ (∃ y ∈ d.staged, y.addr = x.addr ∧ y.len = x.len ∧ y.user = some n)
        ∧ (∀ c, t.byteAt p c = s.byteAt p c) ∧ (∀ q, q ≠ p → t.pad q = s.pad q)) ∧
      ((s.pad p).stagePart (s.obj 0x4011 p) x (some n) = none → exec (.staging p n) s = .next s)) ∧
    (∀ x, s.tiers.cxlPresent = true → (∀ f ∈ (s.pad p).flights, f.serial ≠ n) → firstUnstaged s p = some x →
      ∀ d, (s.pad p).stagePart (s.obj 0x4011 p) x none = some d → exec (.staging p n) s = .next (s.setPad p d)
        ∧ (∃ y ∈ d.staged, y.addr = x.addr ∧ y.len = x.len)) ∧
    (s.tiers.cxlPresent = false → exec (.staging p n) s = .next s))

/-- A held activation whose writer is done has every resident block that it wrote in held form, and every byte reads as
before. A filling brings one more block of a retained allocation into the region, while there is space (one block at a
time is the model's choice, log entry 137). The usable CXL devices form one interleave set whose capacity is the count
times the least (R231). A poisoned read withdraws its granule, is counted and logged; its block is lost, or its bytes
return 0x11 to every reader from then on. The loss of the tier leaves no block in CXL or on its way. A corrected HBM
error is counted and nothing else changes; after an uncorrectable one a retained block is read from its retained copy,
a clean one is fetched again, and that of a fixed allocation stops its readers, now and later, with no spare left
(R241). A patrol scrub changes nothing that a program sees. -/
def Obligations.HbmAndCxl : Prop :=
  (∀ (s : State) (p j : Nat) (a : Alloc), p < 8 → (s.pad p).alloc j = some a → a.kind = 1 →
    (∃ b ∈ a.blocks, b.elem.isSome = true) → a.releasing = false → (s.pad p).obj 0x6800 0 ≠ 0 →
    ((s.pad p).flights.any fun f => f.spans.any fun x => x.write && rangesMeet x.addr x.len a.base a.len) = false →
    ∃ t, exec (.heldFormCompaction p j) s = .next t
      ∧ (∀ b, (t.pad p).alloc j = some b → ∀ x ∈ b.blocks, x.place = .resident → x.elem.isSome = true →
          x.held.isSome = true)
      ∧ (∀ c, t.byteAt p c = s.byteAt p c) ∧ (∀ q, q ≠ p → t.pad q = s.pad q)) ∧
  (∀ (s : State) (p j : Nat) (a : Alloc), p < 8 → (s.pad p).alloc j = some a →
    ((s.pad p).allocs.filter fun e => e.2.kind == 0 && e.2.flags == 1 && !e.2.releasing) = [(j, a)] →
    let ok := (s.pad p).active && (s.pad p).retainedOn && (s.stripsOf p).length == 24
    let w := min (a.len / blockSize) retainedRegion
    let fits := retainedFits s ((s.pad p).retainedBlocks + 1)
    (ok = true → a.retained < w → fits = true → (∀ i ∈ a.homeLost, i < a.retained) →
      ∃ t, exec (.retainedFill p) s = .next t
        ∧ (t.pad p).alloc j = some { a with retained := a.retained + 1 }
        ∧ (∀ c, t.byteAt p c = s.byteAt p c) ∧ (∀ q, q ≠ p → t.pad q = s.pad q)) ∧
    (ok = true → w < a.retained → (∀ i ∈ a.homeLost, i < w) → ∃ t, exec (.retainedFill p) s = .next t
      ∧ (t.pad p).alloc j = some { a with retained := w }
      ∧ (∀ c, t.byteAt p c = s.byteAt p c) ∧ (∀ q, q ≠ p → t.pad q = s.pad q)) ∧
    (ok = false ∨ a.retained = w ∨ (a.retained ≤ w ∧ fits = false) → exec (.retainedFill p) s = .next s)) ∧
  (∀ (s : State) (ds : List CxlDevice) (x : CxlDevice) (l : List CxlDevice), s.power.running = true →
    usableCxl ds = x :: l →
    (s.power.cxlDone = false → ∃ t, exec (.cxlEnumeration ds) s = .next t
      ∧ t.tiers.cxlDevices = x :: l ∧ t.tiers.cxlPresent = true ∧ t.power.cxlDone = true
      ∧ t.obj 0x4404 0 = min ((l.length + 1) * (l.map (·.capacity)).foldl min x.capacity) (8 * 2 ^ 40)
      ∧ t.paddocks = s.paddocks) ∧
    (s.power.cxlDone = true → exec (.cxlEnumeration ds) s = .next s)) ∧
  (∀ (s : State) (p addr j : Nat) (a : Alloc), p < 8 → s.tiers.cxlPresent = true →
    (s.pad p).allocOf addr 1 = some (j, a) → ∃ t, exec (.cxlPoison p addr) s = .next t
      ∧ t.tiers.withdrawn = s.tiers.withdrawn ++ [addr / 4096]
      ∧ t.obj 0x4440 0 = objWrap 0x4440 0 (s.obj 0x4440 0 + 1)
      ∧ t.faults.written = (s.faults.written + 1) % 2 ^ 32
      ∧ (a.kind = 1 → ∀ b, (t.pad p).alloc j = some b → ∀ x ∈ b.blocks, x.index = (addr - a.base) / blockSize →
          x.place = .lost)
      ∧ (a.kind ≠ 1 → (4096 * (addr / 4096), 4096, 0x11) ∈ (t.pad p).bad ∧ ∀ f ∈ (t.pad p).flights,
          (f.spans.any fun y => y.read && rangesMeet y.addr y.len (4096 * (addr / 4096)) 4096) = true →
            0x11 ∈ f.statuses)
      ∧ (∀ q, q ≠ p → t.pad q = s.pad q)) ∧
  (∀ s : State, s.tiers.cxlPresent = true → ∃ t, exec .cxlTierLost s = .next t
    ∧ t.tiers.cxlPresent = false ∧ t.obj 0x4441 0 = objWrap 0x4441 0 (s.obj 0x4441 0 + 1)
    ∧ (∀ p, ∀ e ∈ (t.pad p).allocs, ∀ b ∈ e.2.blocks,
        b.place ≠ .offloaded ∧ b.place ≠ .fetching ∧ b.place ≠ .offloading)
    ∧ (∀ p c, t.byteAt p c = s.byteAt p c)) ∧
  (∀ s : State, s.tiers.cxlPresent = false → exec .cxlTierLost s = .next s) ∧
  (∀ (s : State) (p addr stack : Nat), s.power.running = true → stack < 12 →
    ∃ t, exec (.hbmEccError .corrected p addr stack) s = .next t
      ∧ t.obj 0x4006 0 = objWrap 0x4006 0 (s.obj 0x4006 0 + 1) ∧ t.paddocks = s.paddocks) ∧
  (∀ (s : State) (p addr stack j : Nat) (a : Alloc), p < 8 → s.power.running = true → stack < 12 →
    addr < hbmEnd → (s.pad p).allocOf addr 1 = some (j, a) →
    let base := addr / blockSize * blockSize
    let i := (addr - a.base) / blockSize
    ∃ t, exec (.hbmEccError .uncorrectable p addr stack) s = .next t
      ∧ t.obj 0x4007 0 = objWrap 0x4007 0 (s.obj 0x4007 0 + 1) ∧ (∀ q, q ≠ p → t.pad q = s.pad q)
      ∧ (i < a.retained → (t.pad p).flights = (s.pad p).flights ∧ (∀ c, t.byteAt p c = s.byteAt p c)
          ∧ ∀ b, (t.pad p).alloc j = some b → i ∈ b.homeLost)
      ∧ (a.retained ≤ i → a.kind = 1 → (∃ b ∈ a.blocks, b.index = i ∧ b.clean = true) → s.tiers.cxlPresent = true →
          (∀ c, t.byteAt p c = s.byteAt p c)
          ∧ ∀ b, (t.pad p).alloc j = some b → ∀ x ∈ b.blocks, x.index = i → x.place = .fetching)
      ∧ (a.retained ≤ i → a.kind ≠ 1 → (base, blockSize, 0x151) ∈ (t.pad p).bad
          ∧ (∀ c, base ≤ c → c < base + blockSize → t.byteAt p c = 0)
          ∧ (∀ c, c < base ∨ base + blockSize ≤ c → t.byteAt p c = s.byteAt p c)
          ∧ ∀ f ∈ (t.pad p).flights, (f.spans.any fun y => y.read && rangesMeet y.addr y.len base blockSize) = true →
              0x151 ∈ f.statuses)) ∧
  (∀ s : State, ∃ t, exec .patrolScrub s = .next t ∧ t.paddocks = s.paddocks ∧ t.objs = s.objs
    ∧ (s.power.running = true → t.tiers.scrubs = s.tiers.scrubs + 1))

/-- Targets of one TLC or QLC kind mount read-write, or read-only where the tier has become so; none present, or a mix,
leaves the tier absent, and a mix is logged (R235). The translation layer's own work changes no logical byte: it counts
program cycles, disturbance relocations and failures; with spare blocks below 0.5 % the tier becomes read-only. A
target that fails is rebuilt where parity is in force, and its units are lost otherwise; the loss is logged. A read that
cannot be decoded is rebuilt, or the reading instruction returns 0x11. -/
def Obligations.FlashEvents : Prop :=
  (∀ (s : State) (targets cell size : Nat) (clean : Bool), s.power.running = true → s.tiers.flashState = 1 →
    (targets % 2 ^ 128 = 0 → exec (.flashMount targets cell size clean) s =
      .next { s with tiers := { s.tiers with flashState := 0 } }) ∧
    (targets % 2 ^ 128 ≠ 0 → cell = 3 ∨ cell = 4 → ∃ t, exec (.flashMount targets cell size clean) s = .next t
      ∧ t.tiers = { s.tiers with
          targets := targets % 2 ^ 128, cellType := cell, targetBytes := size
          flashState := if s.tiers.readOnly then 3 else 2, cleanStop := false }
      ∧ t.faults = s.faults ∧ t.mounted = true) ∧
    (targets % 2 ^ 128 ≠ 0 → cell ≠ 3 → cell ≠ 4 → ∃ t, exec (.flashMount targets cell size clean) s = .next t
      ∧ t.tiers = { s.tiers with flashState := 0 } ∧ t.faults.written = (s.faults.written + 1) % 2 ^ 32)) ∧
  (∀ (s : State) (highest average reads : Nat) (l : FlashLevels), s.mounted = true →
    (∃ t, exec (.wearLeveling highest average) s = .next t ∧ t.tiers = s.tiers ∧ t.paddocks = s.paddocks
      ∧ t.obj 0x4809 0 = objWrap 0x4809 0 highest ∧ t.obj 0x480A 0 = objWrap 0x480A 0 average) ∧
    ((if s.tiers.cellType = 3 then 50000 else 20000) ≤ reads →
      ∃ t, exec (.disturbanceRelocation reads) s = .next t ∧ t.tiers = s.tiers ∧ t.paddocks = s.paddocks
        ∧ t.obj 0x480C 0 = objWrap 0x480C 0 (s.obj 0x480C 0 + 1)) ∧
    (reads < (if s.tiers.cellType = 3 then 50000 else 20000) → exec (.disturbanceRelocation reads) s = .next s) ∧
    (20 ≤ l.free → 5 ≤ l.spare → exec (.garbageCollection l) s = .next s) ∧
    (∃ t, exec (.garbageCollection l) s = .next t ∧ t.paddocks = s.paddocks
      ∧ t.tiers = if l.spare < 5 then { s.tiers with flashState := 3, readOnly := true } else s.tiers)) ∧
  (∀ (s : State) (h : Nat), exec (.retentionScan h) s = .next s) ∧
  (∀ (s : State) (unit : Nat), s.mounted = true →
    (∀ k, k = NandFailure.program ∨ k = .erase → ∃ t, exec (.nandFailure k unit) s = .next t
      ∧ t.obj 0x480B 0 = objWrap 0x480B 0 (s.obj 0x480B 0 + 1) ∧ t.tiers = s.tiers ∧ t.paddocks = s.paddocks
      ∧ t.faults.written = (s.faults.written + 1) % 2 ^ 32) ∧
    (s.tiers.parityInForce = true → ∃ t, exec (.nandFailure .target unit) s = .next t ∧ t.tiers = s.tiers
      ∧ t.paddocks = s.paddocks ∧ t.faults.written = (s.faults.written + 1) % 2 ^ 32
      ∧ t.obj 0x480D 0 = objWrap 0x480D 0 (s.obj 0x480D 0 + 1)) ∧
    (s.tiers.parityInForce = false → ∃ t, exec (.nandFailure .target unit) s = .next t
      ∧ t.tiers = { s.tiers with lostTargets := s.tiers.lostTargets ++ [(unit, [])] }
      ∧ (∀ n, Config.onTarget n unit = true → t.unitLost n = true)
      ∧ t.faults.written = (s.faults.written + 1) % 2 ^ 32 ∧ t.objs = s.objs) ∧
    (∀ p n, p < 8 → (s.tiers.parityInForce = true → ∃ t, exec (.nandFailure (.unreadable p n) unit) s = .next t
        ∧ t.obj 0x480D 0 = objWrap 0x480D 0 (s.obj 0x480D 0 + 1) ∧ t.paddocks = s.paddocks ∧ t.tiers = s.tiers) ∧
      (s.tiers.parityInForce = false → ∃ t, exec (.nandFailure (.unreadable p n) unit) s = .next t
        ∧ t.obj 0x480E 0 = objWrap 0x480E 0 (s.obj 0x480E 0 + 1) ∧ t.tiers = s.tiers
        ∧ (∀ f ∈ (t.pad p).flights, f.serial = n → 0x11 ∈ f.statuses)
        ∧ (∀ b ∈ (t.pad p).batches, b.flight ≠ n) ∧ (∀ q, q ≠ p → t.pad q = s.pad q))))

/-- The next sample of a kind is admitted by the lowest free unit of that kind, or is over where its headers reject it;
it goes on to decoded and over, and one past its budget is over. That a unit holds its sample until it is augmented
is the model's choice (log entry 129). While a sample of the batch is left nothing else of the paddock changes; with
the last one the batch is written and its instruction may complete, or the prepared batch is kept by its stream. A
preparation of an active stream with room starts on the next batch (R268); a stopped paddock prepares none. -/
def Obligations.DrillSamples : Prop :=
  (∀ video, SampleMoves (fun p n => .sampleAdmission p n)
    (fun s p n => s.admits video p n ∧ (video = false → ¬ s.admits true p n))
    (fun _ x => x.stage == .waiting && x.video == video)
    fun s x => match x.fate with
      | .headers _ _ => { x with stage := .over }
      | _ => { x with stage := .admitted, unit := s.freeUnit video }) ∧
  (∀ (s : State) (p n : Nat), (∀ video, ¬ s.admits video p n) → exec (.sampleAdmission p n) s = .next s) ∧
  (∀ unit, SampleMoves (fun p n => .sampleDecoded p n unit) (fun _ _ _ => True)
    (fun s x => x.stage == .admitted && x.fate != .budget && unitServes s unit x)
    (fun _ x => { x with stage := if x.fate = .accepted then .decoded else .over })) ∧
  (∀ unit, SampleMoves (fun p n => .decodeBudgetExceeded p n unit) (fun _ _ _ => True)
    (fun s x => x.stage == .admitted && x.fate == .budget && unitServes s unit x)
    (fun _ x => { x with stage := .over })) ∧
  (∀ unit, SampleMoves (fun p n => .sampleAugmented p n unit) (fun _ _ _ => True)
    (fun _ x => x.stage == .decoded && x.unit == some unit) (fun _ x => { x with stage := .over })) ∧
  (∀ (s : State) (p i : Nat) (x : Stream), p < 8 → (s.pad p).streams[i]? = some x →
    let d := s.pad p
    let frontier := x.frontier d (d.obj 0x7009 0) x.base
    let room := d.areaRoom (workBytes x.ts)
    (d.active = false ∨ d.stopped = true ∨ frontier = none ∨ room = none ∨ moveIntoFlash s p = true
        ∨ unitsLeft s true = 0 ∨ unitsLeft s false = 0 → exec (.batchPreparation p i) s = .next s) ∧
    (∀ at_ o, d.active = true → d.stopped = false → frontier = some at_ → room = some o →
      let c : Ctx := { s := s, p := p, r := x.r, index := 0, ts := x.ts, seed := d.seed, step := d.obj 0x5821 0 }
      let j : Job := { c := c, aug := parseAug x.aug, env := x.env, first := at_ }
      (j.scan = [] → exec (.batchPreparation p i) s = .next s) ∧
      (j.scan ≠ [] → moveIntoFlash s p = false → unitsLeft s true ≠ 0 → unitsLeft s false ≠ 0 →
        (∀ y ∈ j.scan, y.2.lost s p = false) →
        ∃ t b, exec (.batchPreparation p i) s = .next t
          ∧ t.pad p = { d with
              nextFlight := d.nextFlight + 1, batches := d.batches ++ [b]
              samples := d.samples ++ samplesOf d.nextFlight j.scan }
          ∧ b.flight = d.nextFlight ∧ b.first = at_ ∧ b.looks = j.scan ∧ b.ahead = some o ∧ b.waits = false
          ∧ b.r = x.r ∧ b.ts = x.ts ∧ b.aug = x.aug ∧ b.env = x.env
          ∧ (∀ q, q ≠ p → t.pad q = s.pad q) ∧ (∀ a, t.byteAt p a = s.byteAt p a))))

/-- A parity error in a unit that has parity and is in service sends the unit to its targeted test, is noted toward
the limit of object 0x9010, and the one instruction it was serving returns 0x50; in a unit already under test it is
only noted. One in a port buffer also costs a packet, which is counted, and the port is not up while its host port is
tested (R352, R359). A test that passes within the limit logs 0x50 and returns the unit to service. Otherwise the unit is
retired: a plot gives its logical number to the strip's spare, and a control core without a spare degrades the device
(R361, R362). No byte of a paddock changes but for the sample records of counters on discarded work. -/
def Obligations.FaultsAndTests : Prop :=
  (∀ (s : State) (cls : UnitClass) (unit : Nat), s.power.running = true → unit < unitCount cls →
    let u := testUnit cls unit
    hasParity cls = true → s.isRetired u = false →
    (s.isTesting u = false → s.bist.state ≠ 1 → ∃ t, exec (.parityError cls unit) s = .next t
      ∧ t.isTesting u = true ∧ t.faults.errors = s.faults.errors ++ [(u, s.now)]
      ∧ (cls = .hostPort → t.portUp unit = false ∧ (s.portUp unit = true →
          t.obj 0x380D unit = objWrap 0x380D unit (s.obj 0x380D unit + 1)))
      ∧ t.faults.retired = s.faults.retired
      ∧ ((∀ k q, s.controlWords k q = []) → ∀ p a, t.byteAt p a = s.byteAt p a)
      ∧ (∀ p n, s.servedBy u = [(p, n)] → p < 8 →
          ∀ f ∈ (t.pad p).flights, f.serial = n → 0x50 ∈ f.statuses)) ∧
    (s.isTesting u = true → exec (.parityError cls unit) s = .next (noteError s u))) ∧
  (∀ (s : State) (cls : UnitClass) (unit : Nat), s.power.running = false ∨ unitCount cls ≤ unit
      ∨ hasParity cls = false ∨ s.isRetired (testUnit cls unit) = true →
    exec (.parityError cls unit) s = .next s) ∧
  (∀ (s : State) (cls : UnitClass) (unit : Nat), s.isTesting (testUnit cls unit) = true →
    let u := testUnit cls unit
    (s.recentErrors u ≤ s.obj 0x9010 0 → ∃ t, exec (.targetedTestEnd cls unit true) s = .next t
      ∧ t.isTesting u = false ∧ t.faults.retired = s.faults.retired
      ∧ t.faults.written = (s.faults.written + 1) % 2 ^ 32
      ∧ (cls = .edgeEngine → unit < 24 → (t.strip unit).edge = .available)
      ∧ t.paddocks = s.paddocks) ∧
    (∀ pass, pass = false ∨ s.obj 0x9010 0 < s.recentErrors u →
      (∀ x ∈ s.faults.testing, x.unit = u → x.counted = false) →
      ∃ t, exec (.targetedTestEnd cls unit pass) s = .next t
        ∧ t.isTesting u = false ∧ t.isRetired u = true
        ∧ ((∀ k q, s.controlWords k q = []) → ∀ p a, t.byteAt p a = s.byteAt p a)
        ∧ (cls = .controlCore → t.faults.degraded = true)
        ∧ (∀ q, cls = .plot → unit < 408 → q < 16 → (s.strip (unit / 17)).map.count (some (unit % 17)) = 1 →
            ((s.strip (unit / 17)).map[q]?).getD none = some (unit % 17) → (s.strip (unit / 17)).spareFree = true →
            ((t.strip (unit / 17)).map[q]?).getD none = some 16 ∧ (t.strip (unit / 17)).spareFree = false)) ∧
    (∀ pass, pass = false ∨ s.obj 0x9010 0 < s.recentErrors u →
      (∀ x ∈ s.faults.testing, x.unit = u → x.counted = true) →
      ∃ t, exec (.targetedTestEnd cls unit pass) s = .next t
        ∧ t.isTesting u = false ∧ t.faults.retired = s.faults.retired)) ∧
  (∀ (s : State) (cls : UnitClass) (unit : Nat) (pass : Bool), s.isTesting (testUnit cls unit) = false →
    exec (.targetedTestEnd cls unit pass) s = .next s)

/-! ### Work counters, issue, and what commands leave unchanged -/

/-- In a context whose ranges come from claims, a request answers a unit exactly where one is unstarted. The unit was
unstarted and is so no more, every other unit is as it was, and the ranges stay those of claims; so a started unit is
never handed out again. Where the plot's range is empty and the counter is exhausted, the unit comes out of another
plot's range, the largest one, and the rest of the stolen part is the plot's own (R126); a unit that a lost plot has
returned comes last. A request on a strip leaves the started units of every other plot to them. -/
def Obligations.WorkStealing : Prop :=
  (∀ (c : Context) (q : Nat), c.tidy → q < 16 →
    let c' := (request c q).2
    c'.tidy ∧ c'.total = c.total ∧
    ((request c q).1 = none ↔ ∀ u, ¬ c.unstartedUnit u) ∧
    (∀ u, (request c q).1 = some u → c.unstartedUnit u ∧ ¬ c'.unstartedUnit u
      ∧ ∀ v, v ≠ u → (c'.unstartedUnit v ↔ c.unstartedUnit v)) ∧
    (∀ u, (request c q).1 = some u → (∀ v, ¬ c.holds q v) → c.total ≤ c.next → (∃ v w, c.holds v w) →
      ∃ v, v < 16 ∧ v ≠ q ∧ c.holds v u
        ∧ (∀ w, w < 16 → (rangeOf c w).2 - (rangeOf c w).1 ≤ (rangeOf c v).2 - (rangeOf c v).1)
        ∧ rangeOf c' v = ((rangeOf c v).1, u) ∧ rangeOf c' q = (u + 1, (rangeOf c v).2)
        ∧ ∀ w, w ≠ v → w ≠ q → rangeOf c' w = rangeOf c w) ∧
    (∀ u, (request c q).1 = some u → (∀ v w, ¬ c.holds v w) → c.total ≤ c.next → c.returned = u :: c'.returned)) ∧
  (∀ (st : Strip) (open_ : Context → Bool) (q : Nat),
    (st.serve open_ q).started.filter (fun x => x.plot != q) = st.started.filter fun x => x.plot != q)

/-- A plot that runs no unit starts an unstarted unit of a context that it serves, where one has any, and parks
otherwise; every other strip is as it was. The edge engine claims the next swath of its context. A plot whose unit
waits for data sends no request. Once every unit of a phase has completed, each context of the instruction begins its
next phase. An instruction that holds nothing back any more leaves the flights, its program counts it as completed, and
its completion signal adds 1 unless its status stops the program; a send over several hops does so where a free value
says that the last hop is acknowledged (log entry 133). A WAIT that times out returns 0x70 and is remembered. A counter
that overflows sets its overflow bit and restarts at its reload value, or from 0. -/
def Obligations.WorkAndTime : Prop :=
  (∀ (s : State) (k q : Nat), k < 24 → q < 16 → s.plotTesting k q = false →
    let st := s.strip k
    st.live q = true → q ∉ st.parked → st.target s.opens q = none → (∀ c ∈ st.contexts, c.tidy) →
    ∃ t, exec (.workRequest k q) s = .next t ∧ (∀ j, j ≠ k → t.strip j = s.strip j) ∧
      ((∃ c ∈ st.contexts, st.serves q c = true ∧ s.opens c = true ∧ ∃ u, c.unstartedUnit u) →
        (∃ c ∈ st.contexts, ∃ u, st.serves q c = true ∧ s.opens c = true ∧ c.unstartedUnit u
          ∧ (t.strip k).started = st.started ++
              [{ plot := q, paddock := c.paddock, flight := c.flight, list := c.list, unit := u }])
        ∧ (t.strip k).parked = st.parked) ∧
      ((∀ c ∈ st.contexts, st.serves q c = true → s.opens c = true → ∀ u, ¬ c.unstartedUnit u) →
        (t.strip k).started = st.started ∧ (t.strip k).parked = st.parked ++ [q])) ∧
  (∀ (s : State) (k q : Nat), k < 24 → q ≤ 16 →
    (s.plotTesting k q = true ∨ (s.strip k).live q = false ∨ q ∈ (s.strip k).parked →
      exec (.workRequest k q) s = .next s) ∧
    (∀ r, q < 16 → (s.strip k).target s.opens q = some r → s.gate.data r.unit = false →
      exec (.workRequest k q) s = .next s)) ∧
  (∀ (s : State) (k i : Nat) (c : Context), k < 24 → s.plotTesting k 16 = false →
    let st := s.strip k
    st.edge = .available → 16 ∉ st.parked → (∀ x ∈ st.started, x.plot ≠ 16) →
    (st.contexts.zipIdx.find? fun x => x.1.edge && x.1.unclaimed && s.opens x.1) = some (c, i) →
    ∃ t, exec (.workRequest k 16) s = .next t
      ∧ (t.strip k).started = st.started ++
          [{ plot := 16, paddock := c.paddock, flight := c.flight, list := c.list, unit := c.next }]
      ∧ (t.strip k).contexts = st.contexts.set i { c with next := c.next + 1 }
      ∧ (∀ j, j ≠ k → t.strip j = s.strip j) ∧ t.paddocks = s.paddocks) ∧
  (∀ (s : State) (p n : Nat),
    let u := s.finishUnits p n
    ((∃ c ∈ s.contextsOf p n, c.unstarted = true) → u = s) ∧
    ((∃ c ∈ u.contextsOf p n, c.later ≠ []) → (∀ c ∈ u.contextsOf p n, c.total ≤ c.done) →
      ∃ t, exec (.phaseBarrier p n) s = .next t
        ∧ (∀ k c f l, k < 24 → c ∈ (u.strip k).contexts → c.paddock = p → c.flight = n → c.later = f :: l →
            0 < f.total →
            { c with next := 0, total := f.total, done := 0, ranges := freshRanges, phase := f, later := l }
              ∈ (t.strip k).contexts ∧ (t.strip k).parked = [])
        ∧ t.paddocks = u.paddocks) ∧
    ((∃ c ∈ u.contextsOf p n, c.done < c.total) ∨ (∀ c ∈ u.contextsOf p n, c.later = []) →
      exec (.phaseBarrier p n) s = .next u)) ∧
  (∀ (s : State) (p n : Nat) (f : Flight) (pr : Program), p < 8 →
    let u := s.finishUnits p n
    ((u.pad p).flights.find? fun f => f.serial == n) = some f →
    (canRetire u p f = false → exec (.instructionComplete p n) s = .next u) ∧
    (canRetire u p f = true → farFlight u p n = true → exec (.instructionComplete p n) s =
      .next (if u.draw.1 % 2 = 1 then (retire u.draw.2 p f).grant p else u.draw.2)) ∧
    (canRetire u p f = true → farFlight u p n = false →
      exec (.instructionComplete p n) s = .next ((retire u p f).grant p)) ∧
    ((u.pad p).program f.prog = some pr →
      let t := retire u p f
      (t.pad p).flights = (u.pad p).flights.filter (fun x => x.serial != n)
      ∧ (t.pad p).program f.prog = some (pr.returned f.statuses f.index f.opcode f.slot)
      ∧ ((t.pad p).program f.prog).map (·.completed) = some (pr.completed + 1)
      ∧ (∀ i, i < 64 → (t.pad p).obj 0xA002 i =
          if f.signal = some i ∧ stopOf pr.flags f.statuses = none ∧ pr.recompute = none
          then objWrap 0xA002 i ((u.pad p).obj 0xA002 i + 1) else (u.pad p).obj 0xA002 i)
      ∧ (∀ q, q ≠ p → t.pad q = u.pad q))) ∧
  (∀ (s : State) (p g : Nat) (pr : Program) (r : Rec), Issuing 0x0052 (fun _ => true) s p g pr r →
    pr.waitSince ≠ none → r.p 2 ≠ 0 →
    (reached ((s.pad p).obj 0xA002 (r.p 0)) (r.p 1) = true → exec (.waitTimeout p g) s = .next s) ∧
    (reached ((s.pad p).obj 0xA002 (r.p 0)) (r.p 1) = false → ∃ t, exec (.waitTimeout p g) s = .next t
      ∧ (∃ x, (t.pad p).program g = some x ∧ x.like (pr.onward.returned [0x70] pr.next 0x0052 0xFFFF))
      ∧ (t.pad p).lateWaits = (s.pad p).lateWaits ++ [(r.p 0, r.p 1)] ∧ quiet s t p)) ∧
  (∀ (s : State) (k q c : Nat), k < 24 → q < 16 → c < 8 →
    let i := 8 * q + c
    let w := s.obj (0x8040 + k) i
    (s.counting k = false → exec (.overflowSample k q c) s = .next s) ∧
    (s.power.running = true → s.counting k = true → w.testBit 22 = true →
      ¬ (0x40 ≤ w % 256 ∧ w % 256 ≤ 0x46) → s.obj (0x8020 + k) i ≤ 2 ^ 48 →
      ∃ t, exec (.overflowSample k q c) s = .next t
        ∧ (t.obj (0x8060 + k) q).testBit c = true
        ∧ t.obj (0x8020 + k) i = (if w.testBit 23 then reloadValue w else 0)
        ∧ ∀ j, j < 256 → j ≠ i → t.obj (0x8020 + k) j = s.obj (0x8020 + k) j))

/-- Each command issues the next record of its program where it is one of its row. A check of R95 that fails returns
its status with the slot concerned, and nothing else happens; an extent of 0 makes a no-op; an operation that needs
the CXL tier at no rate or more blocks than there are gets 0x13, and a read of a lost block 0x11. Every other record
has the effect of its operation, and its flight carries the statuses that the effect gives. -/
def Obligations.TensorRows : Prop :=
  IssueRow .move 0x0001 (fun _ => true) moveOp ∧
  IssueRow .fill 0x0002 (fun _ => true) fillOp ∧
  IssueRow .elemwise 0x0020 (fun _ => true) elemOp ∧
  IssueRow .reduce 0x0021 (fun _ => true) reduceOp ∧
  IssueRow .rotary 0x0022 (fun _ => true) rotaryOp ∧
  IssueRow .stats 0x0039 (fun _ => true) statsOp ∧
  IssueRow .matmul 0x0008 (fun _ => true) matmulOp ∧
  IssueRow .matmulGrad 0x0009 (fun _ => true) matmulGradOp ∧
  IssueRow .conv 0x000A (fun _ => true) convOp ∧
  IssueRow .convGrad 0x000B (fun _ => true) convGradOp ∧
  IssueRow .edgeConv 0x000C (fun _ => true) edgeConvOp ∧
  IssueRow .pool 0x000D (fun _ => true) poolOp ∧
  IssueRow .attnFwd 0x0010 (fun _ => true) attnFwdOp ∧
  IssueRow .attnBwd 0x0011 (fun _ => true) attnBwdOp ∧
  IssueRow .kvAppend 0x0012 (fun _ => true) kvAppendOp ∧
  IssueRow .kvFork 0x0013 (fun _ => true) kvForkOp ∧
  IssueRow .kvFree 0x0014 (fun _ => true) kvFreeOp ∧
  IssueRow .normFwd 0x0018 (fun _ => true) normFwdOp ∧
  IssueRow .normBwd 0x0019 (fun _ => true) normBwdOp ∧
  IssueRow .softmaxFwd 0x001A (fun _ => true) softmaxFwdOp ∧
  IssueRow .softmaxBwd 0x001B (fun _ => true) softmaxBwdOp ∧
  IssueRow .compact 0x0028 (fun r => r.modifier != 1) compactOp ∧
  IssueRow .codebookLoad 0x0028 (fun r => r.modifier == 1) codebookOp ∧
  IssueRow .expand 0x0029 (fun _ => true) expandOp ∧
  IssueRow .collectAllReduce 0x0030 (fun r => r.modifier == 0 || 6 ≤ r.modifier) (collectOp 0) ∧
  IssueRow .collectReduceScatter 0x0030 (fun r => r.modifier == 1) (collectOp 1) ∧
  IssueRow .collectAllGather 0x0030 (fun r => r.modifier == 2) (collectOp 2) ∧
  IssueRow .collectBroadcast 0x0030 (fun r => r.modifier == 3) (collectOp 3) ∧
  IssueRow .collectSend 0x0030 (fun r => r.modifier == 4) (collectOp 4) ∧
  IssueRow .collectReceive 0x0030 (fun r => r.modifier == 5) (collectOp 5) ∧
  IssueRow .dispatch 0x0031 (fun _ => true) dispatchOp ∧
  IssueRow .combine 0x0032 (fun _ => true) combineOp ∧
  IssueRow .update 0x0038 (fun _ => true) updateOp ∧
  IssueRow .decodeBatch 0x0040 (fun _ => true) decodeBatchOp ∧
  IssueRow .tokenize 0x0041 (fun r => r.modifier != 1) tokenizeOp ∧
  IssueRow .dictionaryImageLoad 0x0041 (fun r => r.modifier == 1) loadDictOp ∧
  IssueRow .boxdecode 0x0048 (fun _ => true) boxdecodeOp ∧
  IssueRow .suppress 0x0049 (fun _ => true) suppressOp

/-- FILL, ELEMWISE, REDUCE, ROTARY, STATS, MATMUL, MATMUL_GRAD, CONV, CONV_GRAD, EDGE_CONV, POOL, BOXDECODE, SUPPRESS,
NORM_FWD, NORM_BWD, SOFTMAX_FWD, SOFTMAX_BWD, ATTN_BWD and UPDATE change a byte that their paddock reads only where a
record of theirs issued that passes every check of R95, and then only within the footprint of one of its outputs. No
other paddock changes. -/
def Obligations.OutputsOnly : Prop :=
  WritesOutputs .fill 0x0002 fillOp ∧ WritesOutputs .elemwise 0x0020 elemOp ∧ WritesOutputs .reduce 0x0021 reduceOp ∧
  WritesOutputs .rotary 0x0022 rotaryOp ∧ WritesOutputs .stats 0x0039 statsOp ∧
  WritesOutputs .matmul 0x0008 matmulOp ∧ WritesOutputs .matmulGrad 0x0009 matmulGradOp ∧
  WritesOutputs .conv 0x000A convOp ∧ WritesOutputs .convGrad 0x000B convGradOp ∧
  WritesOutputs .edgeConv 0x000C edgeConvOp ∧ WritesOutputs .pool 0x000D poolOp ∧
  WritesOutputs .boxdecode 0x0048 boxdecodeOp ∧ WritesOutputs .suppress 0x0049 suppressOp ∧
  WritesOutputs .normFwd 0x0018 normFwdOp ∧ WritesOutputs .normBwd 0x0019 normBwdOp ∧
  WritesOutputs .softmaxFwd 0x001A softmaxFwdOp ∧ WritesOutputs .softmaxBwd 0x001B softmaxBwdOp ∧
  WritesOutputs .attnBwd 0x0011 attnBwdOp ∧ WritesOutputs .update 0x0038 updateOp

/-- After FILL every element of D0 reads P0; after ELEMWISE the function of the row on the elements of D1 to D3 at the
same index, extents of 1 broadcast; after REDUCE the reduction, in ascending logical index, of the elements of D1 that
fall on it; after MATMUL the products of the row of D1 and the column of D2 summed as chapter 06 says, with the bias
and the accumulated element where the record has them. A result that is not finite gives 0x22. The operands are read
before any element is written. -/
def Obligations.ElementResults : Prop :=
  ElementsRead .fill 0x0002 fillOp (fun c _ => c.r.pf 0) ∧
  ElementsRead .elemwise 0x0020 elemOp (fun c i =>
    let arg := fun k => if k < elemArity c.r.modifier then pick (c.wide (k + 1)) 0 (c.must (k + 1)).ext i else 0
    elemFn c.r.modifier (c.r.pf 0) (c.r.pf 1) (arg 0) (arg 1) (arg 2)) ∧
  ElementsRead .reduce 0x0021 reduceOp (fun c i =>
    reduceFn c.r.modifier ((reducedIdx (c.r.p 0) (c.must 1).ext i).map fun j =>
      ((c.wide 1)[logical (c.must 1).ext j]?).getD 0)) ∧
  ElementsRead .matmul 0x0008 matmulOp (fun c i =>
    matrixResult ((pairOf (c.must 1).fmt (c.must 2).fmt).getD (32, none))
      (matmulTerms c (c.exact 1) (c.exact 2))
      (fun j => if c.has 3 then (c.wide 3)[j.getD 0 0]? else none)
      (fun j => if c.r.modifier.testBit 0 then (c.wide 0)[logical (c.must 0).ext j]? else none) i)

/-- A BARRIER and a STEP_COMMIT hold issue until every instruction already issued has completed, and then issue; the
BARRIER completes at once, applying the shadows if flagged. A WAIT holds issue from its first look until its counter
has reached its target, and then issues and completes. A SIGNAL of mode 0 adds its increment at issue; one of mode 1
stands aside, and adds it once every earlier record of its program has completed and the program has not stopped. The
completion signal of such a record adds 1 to its counter. A record that is malformed returns its status at once. -/
def Obligations.ProgramControl : Prop :=
  (∀ (s : State) (p g : Nat) (pr : Program) (r : Rec), Issuing 0x0050 (fun _ => true) s p g pr r →
    let n := pr.barrier.getD (s.pad p).nextFlight
    let pr' : Program := { pr with barrier := none }
    (recordOk barrierOp pr r = false →
      IssuesHere (exec (.barrier p g) s) 0x0050 (fun _ => true) barrierOp s p g pr r) ∧
    (recordOk barrierOp pr r = true → (s.pad p).clearBelow n = false → ∃ t, exec (.barrier p g) s = .next t
      ∧ (t.pad p).program g = some { pr with barrier := some n }
      ∧ (t.pad p).flights = (s.pad p).flights ∧ quiet s t p) ∧
    (recordOk barrierOp pr r = true → (s.pad p).clearBelow n = true →
      IssuesHere (exec (.barrier p g) s) 0x0050 (fun _ => true) barrierOp (clearBarrier s p g) p g pr' r) ∧
    (recordOk barrierOp pr r = true → (s.pad p).clearBelow n = true → (∀ i, i < 8 → r.slot i = none) →
      s.writers p = [] → ∃ t x, exec (.barrier p g) s = .next t ∧ (t.pad p).program g = some x
        ∧ x.like (pr'.onward.returned [] pr.next 0x0050 0xFFFF)
        ∧ (r.flags.testBit 1 = false → (t.pad p).shadows = (s.pad p).shadows ∧ (noReader s p → quiet s t p)
            ∧ ∀ i, i < 64 → (t.pad p).obj 0xA002 i =
                advanced i (r.flags.testBit 0 && r.counter == i) 1 ((s.pad p).obj 0xA002 i))
        ∧ (r.flags.testBit 1 = true → (s.pad p).shadowsOk = true →
            (t.pad p).obj 0x108B 0 = objWrap 0x108B 0 ((s.pad p).obj 0x108B 0 + 1)))) ∧
  (∀ (s : State) (p g : Nat) (pr : Program) (r : Rec), Issuing 0x0051 (fun _ => true) s p g pr r →
    let n := pr.barrier.getD (s.pad p).nextFlight
    (recordOk commitOp pr r = false →
      IssuesHere (exec (.stepCommit p g) s) 0x0051 (fun _ => true) commitOp s p g pr r) ∧
    (recordOk commitOp pr r = true → (s.pad p).clearBelow n = false → ∃ t, exec (.stepCommit p g) s = .next t
      ∧ (t.pad p).program g = some { pr with barrier := some n }
      ∧ (t.pad p).flights = (s.pad p).flights ∧ quiet s t p) ∧
    (recordOk commitOp pr r = true → (s.pad p).clearBelow n = true →
      IssuesHere (exec (.stepCommit p g) s) 0x0051 (fun _ => true) commitOp (clearBarrier s p g) p g
        { pr with barrier := none } r)) ∧
  (∀ (s : State) (p g : Nat) (pr : Program) (r : Rec), Issuing 0x0052 (fun _ => true) s p g pr r →
    let ok := recordOk waitOp pr r = true ∧ ∀ i, i < 8 → r.slot i = none
    let go := reached ((s.pad p).obj 0xA002 (r.p 0)) (r.p 1)
    (ok → go = false → ∃ t, exec (.wait p g) s = .next t
      ∧ (t.pad p).program g = some { pr with waitSince := some (pr.waitSince.getD s.now) }
      ∧ (t.pad p).flights = (s.pad p).flights ∧ quiet s t p) ∧
    (¬ ok ∨ go = true → IssuesHere (exec (.wait p g) s) 0x0052 (fun _ => true) waitOp s p g pr r) ∧
    (ok → go = true → s.writers p = [] → ∃ t x, exec (.wait p g) s = .next t ∧ (t.pad p).program g = some x
      ∧ x.like (pr.onward.returned [] pr.next 0x0052 0xFFFF) ∧ (noReader s p → quiet s t p)
      ∧ ∀ i, i < 64 → (t.pad p).obj 0xA002 i =
          advanced i (r.flags.testBit 0 && r.counter == i) 1 ((s.pad p).obj 0xA002 i))) ∧
  (∀ (s : State) (p g : Nat) (pr : Program) (r : Rec), Issuing 0x0053 (fun _ => true) s p g pr r →
    let ok := recordOk signalOp pr r = true ∧ ∀ i, i < 8 → r.slot i = none
    (¬ ok ∨ r.modifier ≠ 1 → IssuesHere (exec (.signal p g) s) 0x0053 (fun _ => true) signalOp s p g pr r) ∧
    (ok → r.modifier = 0 → s.writers p = [] → ∃ t x, exec (.signal p g) s = .next t ∧ (t.pad p).program g = some x
      ∧ x.like (pr.onward.returned [] pr.next 0x0053 0xFFFF) ∧ (noReader s p → quiet s t p)
      ∧ ∀ i, i < 64 → (t.pad p).obj 0xA002 i =
          advanced i (r.flags.testBit 0 && r.counter == i) 1
            (advanced i (r.p 0 == i) (r.p 1) ((s.pad p).obj 0xA002 i))) ∧
    (ok → r.modifier = 1 → ∃ t x, exec (.signal p g) s = .next t ∧ (t.pad p).program g = some x
      ∧ x.like { pr with
          next := pr.next + 1
          deferred := pr.deferred ++
            [{ index := pr.next, counter := r.p 0, increment := r.p 1
               signal := if r.flags.testBit 0 then some r.counter else none }] }
      ∧ (∀ i, (t.pad p).obj 0xA002 i = (s.pad p).obj 0xA002 i) ∧ quiet s t p)) ∧
  (∀ (s : State) (p g : Nat) (pr : Program) (x : Deferred) (l : List Deferred), p < 8 →
    (s.pad p).program g = some pr → pr.deferred = x :: l →
    let may := pr.active = true ∧ pr.stop = none ∧ (s.pad p).active = true ∧ (s.pad p).stopped = false
      ∧ earlierDone (s.pad p) pr x = true
    (¬ may → exec (.signalDeferredAdd p g) s = .next s) ∧
    (may → ∃ t, exec (.signalDeferredAdd p g) s = .next t
        ∧ (t.pad p).program g = some (({ pr with issued := pr.issued + 1, deferred := l } : Program).returned [] x.index
            0x0053 0xFFFF)
        ∧ (x.counter < 64 → (∀ n, x.signal = some n → n < 64) → ∀ i, i < 64 → (t.pad p).obj 0xA002 i =
            advanced i (x.signal == some i) 1 (advanced i (x.counter == i) x.increment ((s.pad p).obj 0xA002 i)))
        ∧ quiet s t p))

/-- A command changes only the parts of the state that `touched` lists for its row, and no command changes the queue of
those that wait behind it. So a command without `memory` in its list leaves every byte of HBM and CXL, one without
`flash` every byte of flash, one without `slots` every byte of the firmware slots, and so on for each register group,
buffer and queue. -/
def Obligations.Frames : Prop :=
  ∀ (c : Instr) (s t : State), exec c s = .next t → ∀ x : StatePart, x ∉ touched c → x.same s t
end

