-- ==== Sys2Proof/Laws/State.lean ====
section
/-! SUPPORT. What each named update of the state leaves as it was, field by field, and what it changes,
so that no proof unfolds a record update. -/

namespace Sys2Proof.Machine

/-! ### Paddocks, strips and links -/
@[simp] theorem State.setPad_pending (s : State) (p : Nat) (d : Paddock) :
    (s.setPad p d).pending = s.pending := rfl
@[simp] theorem State.setPad_out (s : State) (p : Nat) (d : Paddock) :
    (s.setPad p d).out = s.out := rfl
@[simp] theorem State.setPad_free (s : State) (p : Nat) (d : Paddock) :
    (s.setPad p d).free = s.free := rfl
@[simp] theorem State.setPad_objs (s : State) (p : Nat) (d : Paddock) :
    (s.setPad p d).objs = s.objs := rfl
@[simp] theorem State.setPad_strips (s : State) (p : Nat) (d : Paddock) :
    (s.setPad p d).strips = s.strips := rfl
@[simp] theorem State.setPad_qps (s : State) (p : Nat) (d : Paddock) :
    (s.setPad p d).qps = s.qps := rfl
@[simp] theorem State.setPad_pauses (s : State) (p : Nat) (d : Paddock) :
    (s.setPad p d).pauses = s.pauses := rfl
@[simp] theorem State.setPad_outbox (s : State) (p : Nat) (d : Paddock) :
    (s.setPad p d).outbox = s.outbox := rfl
@[simp] theorem State.setPad_rcTurns (s : State) (p : Nat) (d : Paddock) :
    (s.setPad p d).rcTurns = s.rcTurns := rfl
@[simp] theorem State.setPad_links (s : State) (p : Nat) (d : Paddock) :
    (s.setPad p d).links = s.links := rfl
@[simp] theorem State.setPad_videoTurn (s : State) (p : Nat) (d : Paddock) :
    (s.setPad p d).videoTurn = s.videoTurn := rfl
@[simp] theorem State.setPad_imageTurn (s : State) (p : Nat) (d : Paddock) :
    (s.setPad p d).imageTurn = s.imageTurn := rfl
@[simp] theorem State.setPad_controlNumber (s : State) (p : Nat) (d : Paddock) :
    (s.setPad p d).controlNumber = s.controlNumber := rfl
@[simp] theorem State.setPad_inbox (s : State) (p : Nat) (d : Paddock) :
    (s.setPad p d).inbox = s.inbox := rfl
@[simp] theorem State.setPad_seen (s : State) (p : Nat) (d : Paddock) :
    (s.setPad p d).seen = s.seen := rfl
@[simp] theorem State.setPad_time (s : State) (p : Nat) (d : Paddock) :
    (s.setPad p d).time = s.time := rfl
@[simp] theorem State.setPad_directory (s : State) (p : Nat) (d : Paddock) :
    (s.setPad p d).directory = s.directory := rfl
@[simp] theorem State.setPad_requests (s : State) (p : Nat) (d : Paddock) :
    (s.setPad p d).requests = s.requests := rfl
@[simp] theorem State.setPad_life (s : State) (p : Nat) (d : Paddock) :
    (s.setPad p d).life = s.life := rfl
@[simp] theorem State.setPad_firmware (s : State) (p : Nat) (d : Paddock) :
    (s.setPad p d).firmware = s.firmware := rfl
@[simp] theorem State.setPad_power (s : State) (p : Nat) (d : Paddock) :
    (s.setPad p d).power = s.power := rfl
@[simp] theorem State.setPad_bist (s : State) (p : Nat) (d : Paddock) :
    (s.setPad p d).bist = s.bist := rfl
@[simp] theorem State.setPad_faults (s : State) (p : Nat) (d : Paddock) :
    (s.setPad p d).faults = s.faults := rfl
@[simp] theorem State.setPad_tiers (s : State) (p : Nat) (d : Paddock) :
    (s.setPad p d).tiers = s.tiers := rfl
@[simp] theorem State.modPad_pending (s : State) (p : Nat) (f : Paddock → Paddock) :
    (s.modPad p f).pending = s.pending := rfl
@[simp] theorem State.modPad_out (s : State) (p : Nat) (f : Paddock → Paddock) :
    (s.modPad p f).out = s.out := rfl
@[simp] theorem State.modPad_free (s : State) (p : Nat) (f : Paddock → Paddock) :
    (s.modPad p f).free = s.free := rfl
@[simp] theorem State.modPad_objs (s : State) (p : Nat) (f : Paddock → Paddock) :
    (s.modPad p f).objs = s.objs := rfl
@[simp] theorem State.modPad_strips (s : State) (p : Nat) (f : Paddock → Paddock) :
    (s.modPad p f).strips = s.strips := rfl
@[simp] theorem State.modPad_qps (s : State) (p : Nat) (f : Paddock → Paddock) :
    (s.modPad p f).qps = s.qps := rfl
@[simp] theorem State.modPad_pauses (s : State) (p : Nat) (f : Paddock → Paddock) :
    (s.modPad p f).pauses = s.pauses := rfl
@[simp] theorem State.modPad_outbox (s : State) (p : Nat) (f : Paddock → Paddock) :
    (s.modPad p f).outbox = s.outbox := rfl
@[simp] theorem State.modPad_rcTurns (s : State) (p : Nat) (f : Paddock → Paddock) :
    (s.modPad p f).rcTurns = s.rcTurns := rfl
@[simp] theorem State.modPad_links (s : State) (p : Nat) (f : Paddock → Paddock) :
    (s.modPad p f).links = s.links := rfl
@[simp] theorem State.modPad_videoTurn (s : State) (p : Nat) (f : Paddock → Paddock) :
    (s.modPad p f).videoTurn = s.videoTurn := rfl
@[simp] theorem State.modPad_imageTurn (s : State) (p : Nat) (f : Paddock → Paddock) :
    (s.modPad p f).imageTurn = s.imageTurn := rfl
@[simp] theorem State.modPad_controlNumber (s : State) (p : Nat) (f : Paddock → Paddock) :
    (s.modPad p f).controlNumber = s.controlNumber := rfl
@[simp] theorem State.modPad_inbox (s : State) (p : Nat) (f : Paddock → Paddock) :
    (s.modPad p f).inbox = s.inbox := rfl
@[simp] theorem State.modPad_seen (s : State) (p : Nat) (f : Paddock → Paddock) :
    (s.modPad p f).seen = s.seen := rfl
@[simp] theorem State.modPad_time (s : State) (p : Nat) (f : Paddock → Paddock) :
    (s.modPad p f).time = s.time := rfl
@[simp] theorem State.modPad_directory (s : State) (p : Nat) (f : Paddock → Paddock) :
    (s.modPad p f).directory = s.directory := rfl
@[simp] theorem State.modPad_requests (s : State) (p : Nat) (f : Paddock → Paddock) :
    (s.modPad p f).requests = s.requests := rfl
@[simp] theorem State.modPad_life (s : State) (p : Nat) (f : Paddock → Paddock) :
    (s.modPad p f).life = s.life := rfl
@[simp] theorem State.modPad_firmware (s : State) (p : Nat) (f : Paddock → Paddock) :
    (s.modPad p f).firmware = s.firmware := rfl
@[simp] theorem State.modPad_power (s : State) (p : Nat) (f : Paddock → Paddock) :
    (s.modPad p f).power = s.power := rfl
@[simp] theorem State.modPad_bist (s : State) (p : Nat) (f : Paddock → Paddock) :
    (s.modPad p f).bist = s.bist := rfl
@[simp] theorem State.modPad_faults (s : State) (p : Nat) (f : Paddock → Paddock) :
    (s.modPad p f).faults = s.faults := rfl
@[simp] theorem State.modPad_tiers (s : State) (p : Nat) (f : Paddock → Paddock) :
    (s.modPad p f).tiers = s.tiers := rfl
@[simp] theorem State.setStrip_pending (s : State) (k : Nat) (d : Strip) :
    (s.setStrip k d).pending = s.pending := rfl
@[simp] theorem State.setStrip_out (s : State) (k : Nat) (d : Strip) :
    (s.setStrip k d).out = s.out := rfl
@[simp] theorem State.setStrip_free (s : State) (k : Nat) (d : Strip) :
    (s.setStrip k d).free = s.free := rfl
@[simp] theorem State.setStrip_objs (s : State) (k : Nat) (d : Strip) :
    (s.setStrip k d).objs = s.objs := rfl
@[simp] theorem State.setStrip_paddocks (s : State) (k : Nat) (d : Strip) :
    (s.setStrip k d).paddocks = s.paddocks := rfl
@[simp] theorem State.setStrip_qps (s : State) (k : Nat) (d : Strip) :
    (s.setStrip k d).qps = s.qps := rfl
@[simp] theorem State.setStrip_pauses (s : State) (k : Nat) (d : Strip) :
    (s.setStrip k d).pauses = s.pauses := rfl
@[simp] theorem State.setStrip_outbox (s : State) (k : Nat) (d : Strip) :
    (s.setStrip k d).outbox = s.outbox := rfl
@[simp] theorem State.setStrip_rcTurns (s : State) (k : Nat) (d : Strip) :
    (s.setStrip k d).rcTurns = s.rcTurns := rfl
@[simp] theorem State.setStrip_links (s : State) (k : Nat) (d : Strip) :
    (s.setStrip k d).links = s.links := rfl
@[simp] theorem State.setStrip_videoTurn (s : State) (k : Nat) (d : Strip) :
    (s.setStrip k d).videoTurn = s.videoTurn := rfl
@[simp] theorem State.setStrip_imageTurn (s : State) (k : Nat) (d : Strip) :
    (s.setStrip k d).imageTurn = s.imageTurn := rfl
@[simp] theorem State.setStrip_controlNumber (s : State) (k : Nat) (d : Strip) :
    (s.setStrip k d).controlNumber = s.controlNumber := rfl
@[simp] theorem State.setStrip_inbox (s : State) (k : Nat) (d : Strip) :
    (s.setStrip k d).inbox = s.inbox := rfl
@[simp] theorem State.setStrip_seen (s : State) (k : Nat) (d : Strip) :
    (s.setStrip k d).seen = s.seen := rfl
@[simp] theorem State.setStrip_time (s : State) (k : Nat) (d : Strip) :
    (s.setStrip k d).time = s.time := rfl
@[simp] theorem State.setStrip_directory (s : State) (k : Nat) (d : Strip) :
    (s.setStrip k d).directory = s.directory := rfl
@[simp] theorem State.setStrip_requests (s : State) (k : Nat) (d : Strip) :
    (s.setStrip k d).requests = s.requests := rfl
@[simp] theorem State.setStrip_life (s : State) (k : Nat) (d : Strip) :
    (s.setStrip k d).life = s.life := rfl
@[simp] theorem State.setStrip_firmware (s : State) (k : Nat) (d : Strip) :
    (s.setStrip k d).firmware = s.firmware := rfl
@[simp] theorem State.setStrip_power (s : State) (k : Nat) (d : Strip) :
    (s.setStrip k d).power = s.power := rfl
@[simp] theorem State.setStrip_bist (s : State) (k : Nat) (d : Strip) :
    (s.setStrip k d).bist = s.bist := rfl
@[simp] theorem State.setStrip_faults (s : State) (k : Nat) (d : Strip) :
    (s.setStrip k d).faults = s.faults := rfl
@[simp] theorem State.setStrip_tiers (s : State) (k : Nat) (d : Strip) :
    (s.setStrip k d).tiers = s.tiers := rfl
@[simp] theorem State.setLink_pending (s : State) (n : Nat) (d : Link) :
    (s.setLink n d).pending = s.pending := rfl
@[simp] theorem State.setLink_out (s : State) (n : Nat) (d : Link) :
    (s.setLink n d).out = s.out := rfl
@[simp] theorem State.setLink_free (s : State) (n : Nat) (d : Link) :
    (s.setLink n d).free = s.free := rfl
@[simp] theorem State.setLink_objs (s : State) (n : Nat) (d : Link) :
    (s.setLink n d).objs = s.objs := rfl
@[simp] theorem State.setLink_strips (s : State) (n : Nat) (d : Link) :
    (s.setLink n d).strips = s.strips := rfl
@[simp] theorem State.setLink_paddocks (s : State) (n : Nat) (d : Link) :
    (s.setLink n d).paddocks = s.paddocks := rfl
@[simp] theorem State.setLink_qps (s : State) (n : Nat) (d : Link) :
    (s.setLink n d).qps = s.qps := rfl
@[simp] theorem State.setLink_pauses (s : State) (n : Nat) (d : Link) :
    (s.setLink n d).pauses = s.pauses := rfl
@[simp] theorem State.setLink_outbox (s : State) (n : Nat) (d : Link) :
    (s.setLink n d).outbox = s.outbox := rfl
@[simp] theorem State.setLink_rcTurns (s : State) (n : Nat) (d : Link) :
    (s.setLink n d).rcTurns = s.rcTurns := rfl
@[simp] theorem State.setLink_videoTurn (s : State) (n : Nat) (d : Link) :
    (s.setLink n d).videoTurn = s.videoTurn := rfl
@[simp] theorem State.setLink_imageTurn (s : State) (n : Nat) (d : Link) :
    (s.setLink n d).imageTurn = s.imageTurn := rfl
@[simp] theorem State.setLink_controlNumber (s : State) (n : Nat) (d : Link) :
    (s.setLink n d).controlNumber = s.controlNumber := rfl
@[simp] theorem State.setLink_inbox (s : State) (n : Nat) (d : Link) :
    (s.setLink n d).inbox = s.inbox := rfl
@[simp] theorem State.setLink_seen (s : State) (n : Nat) (d : Link) :
    (s.setLink n d).seen = s.seen := rfl
@[simp] theorem State.setLink_time (s : State) (n : Nat) (d : Link) :
    (s.setLink n d).time = s.time := rfl
@[simp] theorem State.setLink_directory (s : State) (n : Nat) (d : Link) :
    (s.setLink n d).directory = s.directory := rfl
@[simp] theorem State.setLink_requests (s : State) (n : Nat) (d : Link) :
    (s.setLink n d).requests = s.requests := rfl
@[simp] theorem State.setLink_life (s : State) (n : Nat) (d : Link) :
    (s.setLink n d).life = s.life := rfl
@[simp] theorem State.setLink_firmware (s : State) (n : Nat) (d : Link) :
    (s.setLink n d).firmware = s.firmware := rfl
@[simp] theorem State.setLink_power (s : State) (n : Nat) (d : Link) :
    (s.setLink n d).power = s.power := rfl
@[simp] theorem State.setLink_bist (s : State) (n : Nat) (d : Link) :
    (s.setLink n d).bist = s.bist := rfl
@[simp] theorem State.setLink_faults (s : State) (n : Nat) (d : Link) :
    (s.setLink n d).faults = s.faults := rfl
@[simp] theorem State.setLink_tiers (s : State) (n : Nat) (d : Link) :
    (s.setLink n d).tiers = s.tiers := rfl
@[simp] theorem State.modLink_pending (s : State) (n : Nat) (f : Link → Link) :
    (s.modLink n f).pending = s.pending := rfl
@[simp] theorem State.modLink_out (s : State) (n : Nat) (f : Link → Link) :
    (s.modLink n f).out = s.out := rfl
@[simp] theorem State.modLink_free (s : State) (n : Nat) (f : Link → Link) :
    (s.modLink n f).free = s.free := rfl
@[simp] theorem State.modLink_objs (s : State) (n : Nat) (f : Link → Link) :
    (s.modLink n f).objs = s.objs := rfl
@[simp] theorem State.modLink_strips (s : State) (n : Nat) (f : Link → Link) :
    (s.modLink n f).strips = s.strips := rfl
@[simp] theorem State.modLink_paddocks (s : State) (n : Nat) (f : Link → Link) :
    (s.modLink n f).paddocks = s.paddocks := rfl
@[simp] theorem State.modLink_qps (s : State) (n : Nat) (f : Link → Link) :
    (s.modLink n f).qps = s.qps := rfl
@[simp] theorem State.modLink_pauses (s : State) (n : Nat) (f : Link → Link) :
    (s.modLink n f).pauses = s.pauses := rfl
@[simp] theorem State.modLink_outbox (s : State) (n : Nat) (f : Link → Link) :
    (s.modLink n f).outbox = s.outbox := rfl
@[simp] theorem State.modLink_rcTurns (s : State) (n : Nat) (f : Link → Link) :
    (s.modLink n f).rcTurns = s.rcTurns := rfl
@[simp] theorem State.modLink_videoTurn (s : State) (n : Nat) (f : Link → Link) :
    (s.modLink n f).videoTurn = s.videoTurn := rfl
@[simp] theorem State.modLink_imageTurn (s : State) (n : Nat) (f : Link → Link) :
    (s.modLink n f).imageTurn = s.imageTurn := rfl
@[simp] theorem State.modLink_controlNumber (s : State) (n : Nat) (f : Link → Link) :
    (s.modLink n f).controlNumber = s.controlNumber := rfl
@[simp] theorem State.modLink_inbox (s : State) (n : Nat) (f : Link → Link) :
    (s.modLink n f).inbox = s.inbox := rfl
@[simp] theorem State.modLink_seen (s : State) (n : Nat) (f : Link → Link) :
    (s.modLink n f).seen = s.seen := rfl
@[simp] theorem State.modLink_time (s : State) (n : Nat) (f : Link → Link) :
    (s.modLink n f).time = s.time := rfl
@[simp] theorem State.modLink_directory (s : State) (n : Nat) (f : Link → Link) :
    (s.modLink n f).directory = s.directory := rfl
@[simp] theorem State.modLink_requests (s : State) (n : Nat) (f : Link → Link) :
    (s.modLink n f).requests = s.requests := rfl
@[simp] theorem State.modLink_life (s : State) (n : Nat) (f : Link → Link) :
    (s.modLink n f).life = s.life := rfl
@[simp] theorem State.modLink_firmware (s : State) (n : Nat) (f : Link → Link) :
    (s.modLink n f).firmware = s.firmware := rfl
@[simp] theorem State.modLink_power (s : State) (n : Nat) (f : Link → Link) :
    (s.modLink n f).power = s.power := rfl
@[simp] theorem State.modLink_bist (s : State) (n : Nat) (f : Link → Link) :
    (s.modLink n f).bist = s.bist := rfl
@[simp] theorem State.modLink_faults (s : State) (n : Nat) (f : Link → Link) :
    (s.modLink n f).faults = s.faults := rfl
@[simp] theorem State.modLink_tiers (s : State) (n : Nat) (f : Link → Link) :
    (s.modLink n f).tiers = s.tiers := rfl
/-! ### Objects, emissions, free values, the error log -/
@[simp] theorem State.setObj_pending (s : State) (i j v : Nat) :
    (s.setObj i j v).pending = s.pending := rfl
@[simp] theorem State.setObj_out (s : State) (i j v : Nat) :
    (s.setObj i j v).out = s.out := rfl
@[simp] theorem State.setObj_free (s : State) (i j v : Nat) :
    (s.setObj i j v).free = s.free := rfl
@[simp] theorem State.setObj_strips (s : State) (i j v : Nat) :
    (s.setObj i j v).strips = s.strips := rfl
@[simp] theorem State.setObj_paddocks (s : State) (i j v : Nat) :
    (s.setObj i j v).paddocks = s.paddocks := rfl
@[simp] theorem State.setObj_qps (s : State) (i j v : Nat) :
    (s.setObj i j v).qps = s.qps := rfl
@[simp] theorem State.setObj_pauses (s : State) (i j v : Nat) :
    (s.setObj i j v).pauses = s.pauses := rfl
@[simp] theorem State.setObj_outbox (s : State) (i j v : Nat) :
    (s.setObj i j v).outbox = s.outbox := rfl
@[simp] theorem State.setObj_rcTurns (s : State) (i j v : Nat) :
    (s.setObj i j v).rcTurns = s.rcTurns := rfl
@[simp] theorem State.setObj_links (s : State) (i j v : Nat) :
    (s.setObj i j v).links = s.links := rfl
@[simp] theorem State.setObj_videoTurn (s : State) (i j v : Nat) :
    (s.setObj i j v).videoTurn = s.videoTurn := rfl
@[simp] theorem State.setObj_imageTurn (s : State) (i j v : Nat) :
    (s.setObj i j v).imageTurn = s.imageTurn := rfl
@[simp] theorem State.setObj_controlNumber (s : State) (i j v : Nat) :
    (s.setObj i j v).controlNumber = s.controlNumber := rfl
@[simp] theorem State.setObj_inbox (s : State) (i j v : Nat) :
    (s.setObj i j v).inbox = s.inbox := rfl
@[simp] theorem State.setObj_seen (s : State) (i j v : Nat) :
    (s.setObj i j v).seen = s.seen := rfl
@[simp] theorem State.setObj_time (s : State) (i j v : Nat) :
    (s.setObj i j v).time = s.time := rfl
@[simp] theorem State.setObj_directory (s : State) (i j v : Nat) :
    (s.setObj i j v).directory = s.directory := rfl
@[simp] theorem State.setObj_requests (s : State) (i j v : Nat) :
    (s.setObj i j v).requests = s.requests := rfl
@[simp] theorem State.setObj_life (s : State) (i j v : Nat) :
    (s.setObj i j v).life = s.life := rfl
@[simp] theorem State.setObj_firmware (s : State) (i j v : Nat) :
    (s.setObj i j v).firmware = s.firmware := rfl
@[simp] theorem State.setObj_power (s : State) (i j v : Nat) :
    (s.setObj i j v).power = s.power := rfl
@[simp] theorem State.setObj_bist (s : State) (i j v : Nat) :
    (s.setObj i j v).bist = s.bist := rfl
@[simp] theorem State.setObj_faults (s : State) (i j v : Nat) :
    (s.setObj i j v).faults = s.faults := rfl
@[simp] theorem State.setObj_tiers (s : State) (i j v : Nat) :
    (s.setObj i j v).tiers = s.tiers := rfl
@[simp] theorem State.addObj_pending (s : State) (i j v : Nat) :
    (s.addObj i j v).pending = s.pending := rfl
@[simp] theorem State.addObj_out (s : State) (i j v : Nat) :
    (s.addObj i j v).out = s.out := rfl
@[simp] theorem State.addObj_free (s : State) (i j v : Nat) :
    (s.addObj i j v).free = s.free := rfl
@[simp] theorem State.addObj_strips (s : State) (i j v : Nat) :
    (s.addObj i j v).strips = s.strips := rfl
@[simp] theorem State.addObj_paddocks (s : State) (i j v : Nat) :
    (s.addObj i j v).paddocks = s.paddocks := rfl
@[simp] theorem State.addObj_qps (s : State) (i j v : Nat) :
    (s.addObj i j v).qps = s.qps := rfl
@[simp] theorem State.addObj_pauses (s : State) (i j v : Nat) :
    (s.addObj i j v).pauses = s.pauses := rfl
@[simp] theorem State.addObj_outbox (s : State) (i j v : Nat) :
    (s.addObj i j v).outbox = s.outbox := rfl
@[simp] theorem State.addObj_rcTurns (s : State) (i j v : Nat) :
    (s.addObj i j v).rcTurns = s.rcTurns := rfl
@[simp] theorem State.addObj_links (s : State) (i j v : Nat) :
    (s.addObj i j v).links = s.links := rfl
@[simp] theorem State.addObj_videoTurn (s : State) (i j v : Nat) :
    (s.addObj i j v).videoTurn = s.videoTurn := rfl
@[simp] theorem State.addObj_imageTurn (s : State) (i j v : Nat) :
    (s.addObj i j v).imageTurn = s.imageTurn := rfl
@[simp] theorem State.addObj_controlNumber (s : State) (i j v : Nat) :
    (s.addObj i j v).controlNumber = s.controlNumber := rfl
@[simp] theorem State.addObj_inbox (s : State) (i j v : Nat) :
    (s.addObj i j v).inbox = s.inbox := rfl
@[simp] theorem State.addObj_seen (s : State) (i j v : Nat) :
    (s.addObj i j v).seen = s.seen := rfl
@[simp] theorem State.addObj_time (s : State) (i j v : Nat) :
    (s.addObj i j v).time = s.time := rfl
@[simp] theorem State.addObj_directory (s : State) (i j v : Nat) :
    (s.addObj i j v).directory = s.directory := rfl
@[simp] theorem State.addObj_requests (s : State) (i j v : Nat) :
    (s.addObj i j v).requests = s.requests := rfl
@[simp] theorem State.addObj_life (s : State) (i j v : Nat) :
    (s.addObj i j v).life = s.life := rfl
@[simp] theorem State.addObj_firmware (s : State) (i j v : Nat) :
    (s.addObj i j v).firmware = s.firmware := rfl
@[simp] theorem State.addObj_power (s : State) (i j v : Nat) :
    (s.addObj i j v).power = s.power := rfl
@[simp] theorem State.addObj_bist (s : State) (i j v : Nat) :
    (s.addObj i j v).bist = s.bist := rfl
@[simp] theorem State.addObj_faults (s : State) (i j v : Nat) :
    (s.addObj i j v).faults = s.faults := rfl
@[simp] theorem State.addObj_tiers (s : State) (i j v : Nat) :
    (s.addObj i j v).tiers = s.tiers := rfl
@[simp] theorem State.emit_pending (s : State) (e : Emission) :
    (s.emit e).pending = s.pending := rfl
@[simp] theorem State.emit_free (s : State) (e : Emission) :
    (s.emit e).free = s.free := rfl
@[simp] theorem State.emit_objs (s : State) (e : Emission) :
    (s.emit e).objs = s.objs := rfl
@[simp] theorem State.emit_strips (s : State) (e : Emission) :
    (s.emit e).strips = s.strips := rfl
@[simp] theorem State.emit_paddocks (s : State) (e : Emission) :
    (s.emit e).paddocks = s.paddocks := rfl
@[simp] theorem State.emit_qps (s : State) (e : Emission) :
    (s.emit e).qps = s.qps := rfl
@[simp] theorem State.emit_pauses (s : State) (e : Emission) :
    (s.emit e).pauses = s.pauses := rfl
@[simp] theorem State.emit_outbox (s : State) (e : Emission) :
    (s.emit e).outbox = s.outbox := rfl
@[simp] theorem State.emit_rcTurns (s : State) (e : Emission) :
    (s.emit e).rcTurns = s.rcTurns := rfl
@[simp] theorem State.emit_links (s : State) (e : Emission) :
    (s.emit e).links = s.links := rfl
@[simp] theorem State.emit_videoTurn (s : State) (e : Emission) :
    (s.emit e).videoTurn = s.videoTurn := rfl
@[simp] theorem State.emit_imageTurn (s : State) (e : Emission) :
    (s.emit e).imageTurn = s.imageTurn := rfl
@[simp] theorem State.emit_controlNumber (s : State) (e : Emission) :
    (s.emit e).controlNumber = s.controlNumber := rfl
@[simp] theorem State.emit_inbox (s : State) (e : Emission) :
    (s.emit e).inbox = s.inbox := rfl
@[simp] theorem State.emit_seen (s : State) (e : Emission) :
    (s.emit e).seen = s.seen := rfl
@[simp] theorem State.emit_time (s : State) (e : Emission) :
    (s.emit e).time = s.time := rfl
@[simp] theorem State.emit_directory (s : State) (e : Emission) :
    (s.emit e).directory = s.directory := rfl
@[simp] theorem State.emit_requests (s : State) (e : Emission) :
    (s.emit e).requests = s.requests := rfl
@[simp] theorem State.emit_life (s : State) (e : Emission) :
    (s.emit e).life = s.life := rfl
@[simp] theorem State.emit_firmware (s : State) (e : Emission) :
    (s.emit e).firmware = s.firmware := rfl
@[simp] theorem State.emit_power (s : State) (e : Emission) :
    (s.emit e).power = s.power := rfl
@[simp] theorem State.emit_bist (s : State) (e : Emission) :
    (s.emit e).bist = s.bist := rfl
@[simp] theorem State.emit_faults (s : State) (e : Emission) :
    (s.emit e).faults = s.faults := rfl
@[simp] theorem State.emit_tiers (s : State) (e : Emission) :
    (s.emit e).tiers = s.tiers := rfl
@[simp] theorem State.draw_pending (s : State) :
    (s.draw.2).pending = s.pending := rfl
@[simp] theorem State.draw_out (s : State) :
    (s.draw.2).out = s.out := rfl
@[simp] theorem State.draw_objs (s : State) :
    (s.draw.2).objs = s.objs := rfl
@[simp] theorem State.draw_strips (s : State) :
    (s.draw.2).strips = s.strips := rfl
@[simp] theorem State.draw_paddocks (s : State) :
    (s.draw.2).paddocks = s.paddocks := rfl
@[simp] theorem State.draw_qps (s : State) :
    (s.draw.2).qps = s.qps := rfl
@[simp] theorem State.draw_pauses (s : State) :
    (s.draw.2).pauses = s.pauses := rfl
@[simp] theorem State.draw_outbox (s : State) :
    (s.draw.2).outbox = s.outbox := rfl
@[simp] theorem State.draw_rcTurns (s : State) :
    (s.draw.2).rcTurns = s.rcTurns := rfl
@[simp] theorem State.draw_links (s : State) :
    (s.draw.2).links = s.links := rfl
@[simp] theorem State.draw_videoTurn (s : State) :
    (s.draw.2).videoTurn = s.videoTurn := rfl
@[simp] theorem State.draw_imageTurn (s : State) :
    (s.draw.2).imageTurn = s.imageTurn := rfl
@[simp] theorem State.draw_controlNumber (s : State) :
    (s.draw.2).controlNumber = s.controlNumber := rfl
@[simp] theorem State.draw_inbox (s : State) :
    (s.draw.2).inbox = s.inbox := rfl
@[simp] theorem State.draw_seen (s : State) :
    (s.draw.2).seen = s.seen := rfl
@[simp] theorem State.draw_time (s : State) :
    (s.draw.2).time = s.time := rfl
@[simp] theorem State.draw_directory (s : State) :
    (s.draw.2).directory = s.directory := rfl
@[simp] theorem State.draw_requests (s : State) :
    (s.draw.2).requests = s.requests := rfl
@[simp] theorem State.draw_life (s : State) :
    (s.draw.2).life = s.life := rfl
@[simp] theorem State.draw_firmware (s : State) :
    (s.draw.2).firmware = s.firmware := rfl
@[simp] theorem State.draw_power (s : State) :
    (s.draw.2).power = s.power := rfl
@[simp] theorem State.draw_bist (s : State) :
    (s.draw.2).bist = s.bist := rfl
@[simp] theorem State.draw_faults (s : State) :
    (s.draw.2).faults = s.faults := rfl
@[simp] theorem State.draw_tiers (s : State) :
    (s.draw.2).tiers = s.tiers := rfl
@[simp] theorem State.log_pending (s : State) (e : LogEntry) :
    (s.log e).pending = s.pending := rfl
@[simp] theorem State.log_out (s : State) (e : LogEntry) :
    (s.log e).out = s.out := rfl
@[simp] theorem State.log_free (s : State) (e : LogEntry) :
    (s.log e).free = s.free := rfl
@[simp] theorem State.log_objs (s : State) (e : LogEntry) :
    (s.log e).objs = s.objs := rfl
@[simp] theorem State.log_strips (s : State) (e : LogEntry) :
    (s.log e).strips = s.strips := rfl
@[simp] theorem State.log_paddocks (s : State) (e : LogEntry) :
    (s.log e).paddocks = s.paddocks := rfl
@[simp] theorem State.log_qps (s : State) (e : LogEntry) :
    (s.log e).qps = s.qps := rfl
@[simp] theorem State.log_pauses (s : State) (e : LogEntry) :
    (s.log e).pauses = s.pauses := rfl
@[simp] theorem State.log_outbox (s : State) (e : LogEntry) :
    (s.log e).outbox = s.outbox := rfl
@[simp] theorem State.log_rcTurns (s : State) (e : LogEntry) :
    (s.log e).rcTurns = s.rcTurns := rfl
@[simp] theorem State.log_links (s : State) (e : LogEntry) :
    (s.log e).links = s.links := rfl
@[simp] theorem State.log_videoTurn (s : State) (e : LogEntry) :
    (s.log e).videoTurn = s.videoTurn := rfl
@[simp] theorem State.log_imageTurn (s : State) (e : LogEntry) :
    (s.log e).imageTurn = s.imageTurn := rfl
@[simp] theorem State.log_controlNumber (s : State) (e : LogEntry) :
    (s.log e).controlNumber = s.controlNumber := rfl
@[simp] theorem State.log_inbox (s : State) (e : LogEntry) :
    (s.log e).inbox = s.inbox := rfl
@[simp] theorem State.log_seen (s : State) (e : LogEntry) :
    (s.log e).seen = s.seen := rfl
@[simp] theorem State.log_time (s : State) (e : LogEntry) :
    (s.log e).time = s.time := rfl
@[simp] theorem State.log_directory (s : State) (e : LogEntry) :
    (s.log e).directory = s.directory := rfl
@[simp] theorem State.log_requests (s : State) (e : LogEntry) :
    (s.log e).requests = s.requests := rfl
@[simp] theorem State.log_life (s : State) (e : LogEntry) :
    (s.log e).life = s.life := rfl
@[simp] theorem State.log_firmware (s : State) (e : LogEntry) :
    (s.log e).firmware = s.firmware := rfl
@[simp] theorem State.log_power (s : State) (e : LogEntry) :
    (s.log e).power = s.power := rfl
@[simp] theorem State.log_bist (s : State) (e : LogEntry) :
    (s.log e).bist = s.bist := rfl
@[simp] theorem State.log_tiers (s : State) (e : LogEntry) :
    (s.log e).tiers = s.tiers := rfl
@[simp] theorem State.countOutside_pending (s : State) (p : Nat) (w : Bool) :
    (s.countOutside p w).pending = s.pending := rfl
@[simp] theorem State.countOutside_out (s : State) (p : Nat) (w : Bool) :
    (s.countOutside p w).out = s.out := rfl
@[simp] theorem State.countOutside_free (s : State) (p : Nat) (w : Bool) :
    (s.countOutside p w).free = s.free := rfl
@[simp] theorem State.countOutside_strips (s : State) (p : Nat) (w : Bool) :
    (s.countOutside p w).strips = s.strips := rfl
@[simp] theorem State.countOutside_paddocks (s : State) (p : Nat) (w : Bool) :
    (s.countOutside p w).paddocks = s.paddocks := rfl
@[simp] theorem State.countOutside_qps (s : State) (p : Nat) (w : Bool) :
    (s.countOutside p w).qps = s.qps := rfl
@[simp] theorem State.countOutside_pauses (s : State) (p : Nat) (w : Bool) :
    (s.countOutside p w).pauses = s.pauses := rfl
@[simp] theorem State.countOutside_outbox (s : State) (p : Nat) (w : Bool) :
    (s.countOutside p w).outbox = s.outbox := rfl
@[simp] theorem State.countOutside_rcTurns (s : State) (p : Nat) (w : Bool) :
    (s.countOutside p w).rcTurns = s.rcTurns := rfl
@[simp] theorem State.countOutside_links (s : State) (p : Nat) (w : Bool) :
    (s.countOutside p w).links = s.links := rfl
@[simp] theorem State.countOutside_videoTurn (s : State) (p : Nat) (w : Bool) :
    (s.countOutside p w).videoTurn = s.videoTurn := rfl
@[simp] theorem State.countOutside_imageTurn (s : State) (p : Nat) (w : Bool) :
    (s.countOutside p w).imageTurn = s.imageTurn := rfl
@[simp] theorem State.countOutside_controlNumber (s : State) (p : Nat) (w : Bool) :
    (s.countOutside p w).controlNumber = s.controlNumber := rfl
@[simp] theorem State.countOutside_inbox (s : State) (p : Nat) (w : Bool) :
    (s.countOutside p w).inbox = s.inbox := rfl
@[simp] theorem State.countOutside_seen (s : State) (p : Nat) (w : Bool) :
    (s.countOutside p w).seen = s.seen := rfl
@[simp] theorem State.countOutside_time (s : State) (p : Nat) (w : Bool) :
    (s.countOutside p w).time = s.time := rfl
@[simp] theorem State.countOutside_directory (s : State) (p : Nat) (w : Bool) :
    (s.countOutside p w).directory = s.directory := rfl
@[simp] theorem State.countOutside_requests (s : State) (p : Nat) (w : Bool) :
    (s.countOutside p w).requests = s.requests := rfl
@[simp] theorem State.countOutside_life (s : State) (p : Nat) (w : Bool) :
    (s.countOutside p w).life = s.life := rfl
@[simp] theorem State.countOutside_firmware (s : State) (p : Nat) (w : Bool) :
    (s.countOutside p w).firmware = s.firmware := rfl
@[simp] theorem State.countOutside_power (s : State) (p : Nat) (w : Bool) :
    (s.countOutside p w).power = s.power := rfl
@[simp] theorem State.countOutside_bist (s : State) (p : Nat) (w : Bool) :
    (s.countOutside p w).bist = s.bist := rfl
@[simp] theorem State.countOutside_faults (s : State) (p : Nat) (w : Bool) :
    (s.countOutside p w).faults = s.faults := rfl
@[simp] theorem State.countOutside_tiers (s : State) (p : Nat) (w : Bool) :
    (s.countOutside p w).tiers = s.tiers := rfl
@[simp] theorem State.writeBytes_pending (s : State) (p : Nat) (ws : List (Nat × Byte)) :
    (s.writeBytes p ws).pending = s.pending := rfl
@[simp] theorem State.writeBytes_out (s : State) (p : Nat) (ws : List (Nat × Byte)) :
    (s.writeBytes p ws).out = s.out := rfl
@[simp] theorem State.writeBytes_free (s : State) (p : Nat) (ws : List (Nat × Byte)) :
    (s.writeBytes p ws).free = s.free := rfl
@[simp] theorem State.writeBytes_objs (s : State) (p : Nat) (ws : List (Nat × Byte)) :
    (s.writeBytes p ws).objs = s.objs := rfl
@[simp] theorem State.writeBytes_strips (s : State) (p : Nat) (ws : List (Nat × Byte)) :
    (s.writeBytes p ws).strips = s.strips := rfl
@[simp] theorem State.writeBytes_qps (s : State) (p : Nat) (ws : List (Nat × Byte)) :
    (s.writeBytes p ws).qps = s.qps := rfl
@[simp] theorem State.writeBytes_pauses (s : State) (p : Nat) (ws : List (Nat × Byte)) :
    (s.writeBytes p ws).pauses = s.pauses := rfl
@[simp] theorem State.writeBytes_outbox (s : State) (p : Nat) (ws : List (Nat × Byte)) :
    (s.writeBytes p ws).outbox = s.outbox := rfl
@[simp] theorem State.writeBytes_rcTurns (s : State) (p : Nat) (ws : List (Nat × Byte)) :
    (s.writeBytes p ws).rcTurns = s.rcTurns := rfl
@[simp] theorem State.writeBytes_links (s : State) (p : Nat) (ws : List (Nat × Byte)) :
    (s.writeBytes p ws).links = s.links := rfl
@[simp] theorem State.writeBytes_videoTurn (s : State) (p : Nat) (ws : List (Nat × Byte)) :
    (s.writeBytes p ws).videoTurn = s.videoTurn := rfl
@[simp] theorem State.writeBytes_imageTurn (s : State) (p : Nat) (ws : List (Nat × Byte)) :
    (s.writeBytes p ws).imageTurn = s.imageTurn := rfl
@[simp] theorem State.writeBytes_controlNumber (s : State) (p : Nat) (ws : List (Nat × Byte)) :
    (s.writeBytes p ws).controlNumber = s.controlNumber := rfl
@[simp] theorem State.writeBytes_inbox (s : State) (p : Nat) (ws : List (Nat × Byte)) :
    (s.writeBytes p ws).inbox = s.inbox := rfl
@[simp] theorem State.writeBytes_seen (s : State) (p : Nat) (ws : List (Nat × Byte)) :
    (s.writeBytes p ws).seen = s.seen := rfl
@[simp] theorem State.writeBytes_time (s : State) (p : Nat) (ws : List (Nat × Byte)) :
    (s.writeBytes p ws).time = s.time := rfl
@[simp] theorem State.writeBytes_directory (s : State) (p : Nat) (ws : List (Nat × Byte)) :
    (s.writeBytes p ws).directory = s.directory := rfl
@[simp] theorem State.writeBytes_requests (s : State) (p : Nat) (ws : List (Nat × Byte)) :
    (s.writeBytes p ws).requests = s.requests := rfl
@[simp] theorem State.writeBytes_life (s : State) (p : Nat) (ws : List (Nat × Byte)) :
    (s.writeBytes p ws).life = s.life := rfl
@[simp] theorem State.writeBytes_firmware (s : State) (p : Nat) (ws : List (Nat × Byte)) :
    (s.writeBytes p ws).firmware = s.firmware := rfl
@[simp] theorem State.writeBytes_power (s : State) (p : Nat) (ws : List (Nat × Byte)) :
    (s.writeBytes p ws).power = s.power := rfl
@[simp] theorem State.writeBytes_bist (s : State) (p : Nat) (ws : List (Nat × Byte)) :
    (s.writeBytes p ws).bist = s.bist := rfl
@[simp] theorem State.writeBytes_faults (s : State) (p : Nat) (ws : List (Nat × Byte)) :
    (s.writeBytes p ws).faults = s.faults := rfl
/-! ### The parts of a paddock -/
@[simp] theorem Paddock.setObj_phase (d : Paddock) (i j v : Nat) :
    (d.setObj i j v).phase = d.phase := rfl
@[simp] theorem Paddock.setObj_shadows (d : Paddock) (i j v : Nat) :
    (d.setObj i j v).shadows = d.shadows := rfl
@[simp] theorem Paddock.setObj_hbm (d : Paddock) (i j v : Nat) :
    (d.setObj i j v).hbm = d.hbm := rfl
@[simp] theorem Paddock.setObj_cxl (d : Paddock) (i j v : Nat) :
    (d.setObj i j v).cxl = d.cxl := rfl
@[simp] theorem Paddock.setObj_allocs (d : Paddock) (i j v : Nat) :
    (d.setObj i j v).allocs = d.allocs := rfl
@[simp] theorem Paddock.setObj_programs (d : Paddock) (i j v : Nat) :
    (d.setObj i j v).programs = d.programs := rfl
@[simp] theorem Paddock.setObj_nextSerial (d : Paddock) (i j v : Nat) :
    (d.setObj i j v).nextSerial = d.nextSerial := rfl
@[simp] theorem Paddock.setObj_flights (d : Paddock) (i j v : Nat) :
    (d.setObj i j v).flights = d.flights := rfl
@[simp] theorem Paddock.setObj_nextFlight (d : Paddock) (i j v : Nat) :
    (d.setObj i j v).nextFlight = d.nextFlight := rfl
@[simp] theorem Paddock.setObj_ahead (d : Paddock) (i j v : Nat) :
    (d.setObj i j v).ahead = d.ahead := rfl
@[simp] theorem Paddock.setObj_staged (d : Paddock) (i j v : Nat) :
    (d.setObj i j v).staged = d.staged := rfl
@[simp] theorem Paddock.setObj_bad (d : Paddock) (i j v : Nat) :
    (d.setObj i j v).bad = d.bad := rfl
@[simp] theorem Paddock.setObj_lateWaits (d : Paddock) (i j v : Nat) :
    (d.setObj i j v).lateWaits = d.lateWaits := rfl
@[simp] theorem Paddock.setObj_fallback (d : Paddock) (i j v : Nat) :
    (d.setObj i j v).fallback = d.fallback := rfl
@[simp] theorem Paddock.setObj_codebooks (d : Paddock) (i j v : Nat) :
    (d.setObj i j v).codebooks = d.codebooks := rfl
@[simp] theorem Paddock.setObj_dicts (d : Paddock) (i j v : Nat) :
    (d.setObj i j v).dicts = d.dicts := rfl
@[simp] theorem Paddock.setObj_readers (d : Paddock) (i j v : Nat) :
    (d.setObj i j v).readers = d.readers := rfl
@[simp] theorem Paddock.setObj_groups (d : Paddock) (i j v : Nat) :
    (d.setObj i j v).groups = d.groups := rfl
@[simp] theorem Paddock.setObj_ops (d : Paddock) (i j v : Nat) :
    (d.setObj i j v).ops = d.ops := rfl
@[simp] theorem Paddock.setObj_pairs (d : Paddock) (i j v : Nat) :
    (d.setObj i j v).pairs = d.pairs := rfl
@[simp] theorem Paddock.setObj_sends (d : Paddock) (i j v : Nat) :
    (d.setObj i j v).sends = d.sends := rfl
@[simp] theorem Paddock.setObj_commit (d : Paddock) (i j v : Nat) :
    (d.setObj i j v).commit = d.commit := rfl
@[simp] theorem Paddock.setObj_recovery (d : Paddock) (i j v : Nat) :
    (d.setObj i j v).recovery = d.recovery := rfl
@[simp] theorem Paddock.setObj_stopped (d : Paddock) (i j v : Nat) :
    (d.setObj i j v).stopped = d.stopped := rfl
@[simp] theorem Paddock.setObj_streams (d : Paddock) (i j v : Nat) :
    (d.setObj i j v).streams = d.streams := rfl
@[simp] theorem Paddock.setObj_samples (d : Paddock) (i j v : Nat) :
    (d.setObj i j v).samples = d.samples := rfl
@[simp] theorem Paddock.setObj_batches (d : Paddock) (i j v : Nat) :
    (d.setObj i j v).batches = d.batches := rfl
@[simp] theorem Paddock.setObj_moves (d : Paddock) (i j v : Nat) :
    (d.setObj i j v).moves = d.moves := rfl
@[simp] theorem Paddock.setObj_retainedOn (d : Paddock) (i j v : Nat) :
    (d.setObj i j v).retainedOn = d.retainedOn := rfl
@[simp] theorem Paddock.addObj_phase (d : Paddock) (i j v : Nat) :
    (d.addObj i j v).phase = d.phase := rfl
@[simp] theorem Paddock.addObj_shadows (d : Paddock) (i j v : Nat) :
    (d.addObj i j v).shadows = d.shadows := rfl
@[simp] theorem Paddock.addObj_hbm (d : Paddock) (i j v : Nat) :
    (d.addObj i j v).hbm = d.hbm := rfl
@[simp] theorem Paddock.addObj_cxl (d : Paddock) (i j v : Nat) :
    (d.addObj i j v).cxl = d.cxl := rfl
@[simp] theorem Paddock.addObj_allocs (d : Paddock) (i j v : Nat) :
    (d.addObj i j v).allocs = d.allocs := rfl
@[simp] theorem Paddock.addObj_programs (d : Paddock) (i j v : Nat) :
    (d.addObj i j v).programs = d.programs := rfl
@[simp] theorem Paddock.addObj_nextSerial (d : Paddock) (i j v : Nat) :
    (d.addObj i j v).nextSerial = d.nextSerial := rfl
@[simp] theorem Paddock.addObj_flights (d : Paddock) (i j v : Nat) :
    (d.addObj i j v).flights = d.flights := rfl
@[simp] theorem Paddock.addObj_nextFlight (d : Paddock) (i j v : Nat) :
    (d.addObj i j v).nextFlight = d.nextFlight := rfl
@[simp] theorem Paddock.addObj_ahead (d : Paddock) (i j v : Nat) :
    (d.addObj i j v).ahead = d.ahead := rfl
@[simp] theorem Paddock.addObj_staged (d : Paddock) (i j v : Nat) :
    (d.addObj i j v).staged = d.staged := rfl
@[simp] theorem Paddock.addObj_bad (d : Paddock) (i j v : Nat) :
    (d.addObj i j v).bad = d.bad := rfl
@[simp] theorem Paddock.addObj_lateWaits (d : Paddock) (i j v : Nat) :
    (d.addObj i j v).lateWaits = d.lateWaits := rfl
@[simp] theorem Paddock.addObj_fallback (d : Paddock) (i j v : Nat) :
    (d.addObj i j v).fallback = d.fallback := rfl
@[simp] theorem Paddock.addObj_codebooks (d : Paddock) (i j v : Nat) :
    (d.addObj i j v).codebooks = d.codebooks := rfl
@[simp] theorem Paddock.addObj_dicts (d : Paddock) (i j v : Nat) :
    (d.addObj i j v).dicts = d.dicts := rfl
@[simp] theorem Paddock.addObj_readers (d : Paddock) (i j v : Nat) :
    (d.addObj i j v).readers = d.readers := rfl
@[simp] theorem Paddock.addObj_groups (d : Paddock) (i j v : Nat) :
    (d.addObj i j v).groups = d.groups := rfl
@[simp] theorem Paddock.addObj_ops (d : Paddock) (i j v : Nat) :
    (d.addObj i j v).ops = d.ops := rfl
@[simp] theorem Paddock.addObj_pairs (d : Paddock) (i j v : Nat) :
    (d.addObj i j v).pairs = d.pairs := rfl
@[simp] theorem Paddock.addObj_sends (d : Paddock) (i j v : Nat) :
    (d.addObj i j v).sends = d.sends := rfl
@[simp] theorem Paddock.addObj_commit (d : Paddock) (i j v : Nat) :
    (d.addObj i j v).commit = d.commit := rfl
@[simp] theorem Paddock.addObj_recovery (d : Paddock) (i j v : Nat) :
    (d.addObj i j v).recovery = d.recovery := rfl
@[simp] theorem Paddock.addObj_stopped (d : Paddock) (i j v : Nat) :
    (d.addObj i j v).stopped = d.stopped := rfl
@[simp] theorem Paddock.addObj_streams (d : Paddock) (i j v : Nat) :
    (d.addObj i j v).streams = d.streams := rfl
@[simp] theorem Paddock.addObj_samples (d : Paddock) (i j v : Nat) :
    (d.addObj i j v).samples = d.samples := rfl
@[simp] theorem Paddock.addObj_batches (d : Paddock) (i j v : Nat) :
    (d.addObj i j v).batches = d.batches := rfl
@[simp] theorem Paddock.addObj_moves (d : Paddock) (i j v : Nat) :
    (d.addObj i j v).moves = d.moves := rfl
@[simp] theorem Paddock.addObj_retainedOn (d : Paddock) (i j v : Nat) :
    (d.addObj i j v).retainedOn = d.retainedOn := rfl
@[simp] theorem Paddock.setGroup_phase (d : Paddock) (g : Nat) (v : Group) :
    (d.setGroup g v).phase = d.phase := rfl
@[simp] theorem Paddock.setGroup_objs (d : Paddock) (g : Nat) (v : Group) :
    (d.setGroup g v).objs = d.objs := rfl
@[simp] theorem Paddock.setGroup_shadows (d : Paddock) (g : Nat) (v : Group) :
    (d.setGroup g v).shadows = d.shadows := rfl
@[simp] theorem Paddock.setGroup_hbm (d : Paddock) (g : Nat) (v : Group) :
    (d.setGroup g v).hbm = d.hbm := rfl
@[simp] theorem Paddock.setGroup_cxl (d : Paddock) (g : Nat) (v : Group) :
    (d.setGroup g v).cxl = d.cxl := rfl
@[simp] theorem Paddock.setGroup_allocs (d : Paddock) (g : Nat) (v : Group) :
    (d.setGroup g v).allocs = d.allocs := rfl
@[simp] theorem Paddock.setGroup_programs (d : Paddock) (g : Nat) (v : Group) :
    (d.setGroup g v).programs = d.programs := rfl
@[simp] theorem Paddock.setGroup_nextSerial (d : Paddock) (g : Nat) (v : Group) :
    (d.setGroup g v).nextSerial = d.nextSerial := rfl
@[simp] theorem Paddock.setGroup_flights (d : Paddock) (g : Nat) (v : Group) :
    (d.setGroup g v).flights = d.flights := rfl
@[simp] theorem Paddock.setGroup_nextFlight (d : Paddock) (g : Nat) (v : Group) :
    (d.setGroup g v).nextFlight = d.nextFlight := rfl
@[simp] theorem Paddock.setGroup_ahead (d : Paddock) (g : Nat) (v : Group) :
    (d.setGroup g v).ahead = d.ahead := rfl
@[simp] theorem Paddock.setGroup_staged (d : Paddock) (g : Nat) (v : Group) :
    (d.setGroup g v).staged = d.staged := rfl
@[simp] theorem Paddock.setGroup_bad (d : Paddock) (g : Nat) (v : Group) :
    (d.setGroup g v).bad = d.bad := rfl
@[simp] theorem Paddock.setGroup_lateWaits (d : Paddock) (g : Nat) (v : Group) :
    (d.setGroup g v).lateWaits = d.lateWaits := rfl
@[simp] theorem Paddock.setGroup_fallback (d : Paddock) (g : Nat) (v : Group) :
    (d.setGroup g v).fallback = d.fallback := rfl
@[simp] theorem Paddock.setGroup_codebooks (d : Paddock) (g : Nat) (v : Group) :
    (d.setGroup g v).codebooks = d.codebooks := rfl
@[simp] theorem Paddock.setGroup_dicts (d : Paddock) (g : Nat) (v : Group) :
    (d.setGroup g v).dicts = d.dicts := rfl
@[simp] theorem Paddock.setGroup_readers (d : Paddock) (g : Nat) (v : Group) :
    (d.setGroup g v).readers = d.readers := rfl
@[simp] theorem Paddock.setGroup_ops (d : Paddock) (g : Nat) (v : Group) :
    (d.setGroup g v).ops = d.ops := rfl
@[simp] theorem Paddock.setGroup_pairs (d : Paddock) (g : Nat) (v : Group) :
    (d.setGroup g v).pairs = d.pairs := rfl
@[simp] theorem Paddock.setGroup_sends (d : Paddock) (g : Nat) (v : Group) :
    (d.setGroup g v).sends = d.sends := rfl
@[simp] theorem Paddock.setGroup_commit (d : Paddock) (g : Nat) (v : Group) :
    (d.setGroup g v).commit = d.commit := rfl
@[simp] theorem Paddock.setGroup_recovery (d : Paddock) (g : Nat) (v : Group) :
    (d.setGroup g v).recovery = d.recovery := rfl
@[simp] theorem Paddock.setGroup_stopped (d : Paddock) (g : Nat) (v : Group) :
    (d.setGroup g v).stopped = d.stopped := rfl
@[simp] theorem Paddock.setGroup_streams (d : Paddock) (g : Nat) (v : Group) :
    (d.setGroup g v).streams = d.streams := rfl
@[simp] theorem Paddock.setGroup_samples (d : Paddock) (g : Nat) (v : Group) :
    (d.setGroup g v).samples = d.samples := rfl
@[simp] theorem Paddock.setGroup_batches (d : Paddock) (g : Nat) (v : Group) :
    (d.setGroup g v).batches = d.batches := rfl
@[simp] theorem Paddock.setGroup_moves (d : Paddock) (g : Nat) (v : Group) :
    (d.setGroup g v).moves = d.moves := rfl
@[simp] theorem Paddock.setGroup_retainedOn (d : Paddock) (g : Nat) (v : Group) :
    (d.setGroup g v).retainedOn = d.retainedOn := rfl
@[simp] theorem Paddock.modAlloc_phase (d : Paddock) (j : Nat) (f : Alloc → Alloc) :
    (d.modAlloc j f).phase = d.phase := rfl
@[simp] theorem Paddock.modAlloc_objs (d : Paddock) (j : Nat) (f : Alloc → Alloc) :
    (d.modAlloc j f).objs = d.objs := rfl
@[simp] theorem Paddock.modAlloc_shadows (d : Paddock) (j : Nat) (f : Alloc → Alloc) :
    (d.modAlloc j f).shadows = d.shadows := rfl
@[simp] theorem Paddock.modAlloc_hbm (d : Paddock) (j : Nat) (f : Alloc → Alloc) :
    (d.modAlloc j f).hbm = d.hbm := rfl
@[simp] theorem Paddock.modAlloc_cxl (d : Paddock) (j : Nat) (f : Alloc → Alloc) :
    (d.modAlloc j f).cxl = d.cxl := rfl
@[simp] theorem Paddock.modAlloc_programs (d : Paddock) (j : Nat) (f : Alloc → Alloc) :
    (d.modAlloc j f).programs = d.programs := rfl
@[simp] theorem Paddock.modAlloc_nextSerial (d : Paddock) (j : Nat) (f : Alloc → Alloc) :
    (d.modAlloc j f).nextSerial = d.nextSerial := rfl
@[simp] theorem Paddock.modAlloc_flights (d : Paddock) (j : Nat) (f : Alloc → Alloc) :
    (d.modAlloc j f).flights = d.flights := rfl
@[simp] theorem Paddock.modAlloc_nextFlight (d : Paddock) (j : Nat) (f : Alloc → Alloc) :
    (d.modAlloc j f).nextFlight = d.nextFlight := rfl
@[simp] theorem Paddock.modAlloc_ahead (d : Paddock) (j : Nat) (f : Alloc → Alloc) :
    (d.modAlloc j f).ahead = d.ahead := rfl
@[simp] theorem Paddock.modAlloc_staged (d : Paddock) (j : Nat) (f : Alloc → Alloc) :
    (d.modAlloc j f).staged = d.staged := rfl
@[simp] theorem Paddock.modAlloc_bad (d : Paddock) (j : Nat) (f : Alloc → Alloc) :
    (d.modAlloc j f).bad = d.bad := rfl
@[simp] theorem Paddock.modAlloc_lateWaits (d : Paddock) (j : Nat) (f : Alloc → Alloc) :
    (d.modAlloc j f).lateWaits = d.lateWaits := rfl
@[simp] theorem Paddock.modAlloc_fallback (d : Paddock) (j : Nat) (f : Alloc → Alloc) :
    (d.modAlloc j f).fallback = d.fallback := rfl
@[simp] theorem Paddock.modAlloc_codebooks (d : Paddock) (j : Nat) (f : Alloc → Alloc) :
    (d.modAlloc j f).codebooks = d.codebooks := rfl
@[simp] theorem Paddock.modAlloc_dicts (d : Paddock) (j : Nat) (f : Alloc → Alloc) :
    (d.modAlloc j f).dicts = d.dicts := rfl
@[simp] theorem Paddock.modAlloc_readers (d : Paddock) (j : Nat) (f : Alloc → Alloc) :
    (d.modAlloc j f).readers = d.readers := rfl
@[simp] theorem Paddock.modAlloc_groups (d : Paddock) (j : Nat) (f : Alloc → Alloc) :
    (d.modAlloc j f).groups = d.groups := rfl
@[simp] theorem Paddock.modAlloc_ops (d : Paddock) (j : Nat) (f : Alloc → Alloc) :
    (d.modAlloc j f).ops = d.ops := rfl
@[simp] theorem Paddock.modAlloc_pairs (d : Paddock) (j : Nat) (f : Alloc → Alloc) :
    (d.modAlloc j f).pairs = d.pairs := rfl
@[simp] theorem Paddock.modAlloc_sends (d : Paddock) (j : Nat) (f : Alloc → Alloc) :
    (d.modAlloc j f).sends = d.sends := rfl
@[simp] theorem Paddock.modAlloc_commit (d : Paddock) (j : Nat) (f : Alloc → Alloc) :
    (d.modAlloc j f).commit = d.commit := rfl
@[simp] theorem Paddock.modAlloc_recovery (d : Paddock) (j : Nat) (f : Alloc → Alloc) :
    (d.modAlloc j f).recovery = d.recovery := rfl
@[simp] theorem Paddock.modAlloc_stopped (d : Paddock) (j : Nat) (f : Alloc → Alloc) :
    (d.modAlloc j f).stopped = d.stopped := rfl
@[simp] theorem Paddock.modAlloc_streams (d : Paddock) (j : Nat) (f : Alloc → Alloc) :
    (d.modAlloc j f).streams = d.streams := rfl
@[simp] theorem Paddock.modAlloc_samples (d : Paddock) (j : Nat) (f : Alloc → Alloc) :
    (d.modAlloc j f).samples = d.samples := rfl
@[simp] theorem Paddock.modAlloc_batches (d : Paddock) (j : Nat) (f : Alloc → Alloc) :
    (d.modAlloc j f).batches = d.batches := rfl
@[simp] theorem Paddock.modAlloc_moves (d : Paddock) (j : Nat) (f : Alloc → Alloc) :
    (d.modAlloc j f).moves = d.moves := rfl
@[simp] theorem Paddock.modAlloc_retainedOn (d : Paddock) (j : Nat) (f : Alloc → Alloc) :
    (d.modAlloc j f).retainedOn = d.retainedOn := rfl

/-! ### Updates of a part -/
@[simp] theorem Strip.setPlot_contexts (st : Strip) (q : Nat) (e : Engines) : (st.setPlot q e).contexts = st.contexts := rfl
@[simp] theorem Strip.setPlot_waiting (st : Strip) (q : Nat) (e : Engines) : (st.setPlot q e).waiting = st.waiting := rfl
@[simp] theorem Strip.setPlot_started (st : Strip) (q : Nat) (e : Engines) : (st.setPlot q e).started = st.started := rfl
@[simp] theorem Strip.setPlot_parked (st : Strip) (q : Nat) (e : Engines) : (st.setPlot q e).parked = st.parked := rfl
@[simp] theorem Strip.setPlot_map (st : Strip) (q : Nat) (e : Engines) : (st.setPlot q e).map = st.map := rfl
@[simp] theorem Strip.setPlot_spareFree (st : Strip) (q : Nat) (e : Engines) : (st.setPlot q e).spareFree = st.spareFree := rfl
@[simp] theorem Strip.setPlot_edge (st : Strip) (q : Nat) (e : Engines) : (st.setPlot q e).edge = st.edge := rfl
@[simp] theorem Strip.setPlot_store (st : Strip) (q : Nat) (e : Engines) : (st.setPlot q e).store = st.store := rfl

/-! ### What the updates change -/

theorem Strip.plot_setPlot_same (st : Strip) (q : Nat) (e : Engines) (h : q < 16) : (st.setPlot q e).plot q = e := by
  simp [Strip.plot, Strip.setPlot, h]

theorem Strip.plot_setPlot_other (st : Strip) (q r : Nat) (e : Engines) (h : q ≠ r) :
    (st.setPlot q e).plot r = st.plot r := by
  simp [Strip.plot, Strip.setPlot, Vector.getElem?_setIfInBounds_ne h]


theorem State.pad_setPad_same (s : State) (p : Nat) (d : Paddock) (h : p < 8) : (s.setPad p d).pad p = d := by
  simp [State.pad, State.setPad, h]

theorem State.pad_setPad_other (s : State) (p q : Nat) (d : Paddock) (h : p ≠ q) :
    (s.setPad p d).pad q = s.pad q := by
  simp [State.pad, State.setPad, Vector.getElem?_setIfInBounds_ne h]

theorem State.pad_beyond (s : State) (p : Nat) (h : 8 ≤ p) : s.pad p = Paddock.fresh := by
  simp [State.pad, Nat.not_lt.mpr h]

theorem State.setPad_beyond (s : State) (p : Nat) (d : Paddock) (h : 8 ≤ p) : s.setPad p d = s := by
  simp [State.setPad, Vector.setIfInBounds_eq_of_size_le h]

theorem State.pad_modPad_same (s : State) (p : Nat) (f : Paddock → Paddock) (h : p < 8) :
    (s.modPad p f).pad p = f (s.pad p) := s.pad_setPad_same p _ h

theorem State.pad_modPad_other (s : State) (p q : Nat) (f : Paddock → Paddock) (h : p ≠ q) :
    (s.modPad p f).pad q = s.pad q := s.pad_setPad_other p q _ h

theorem State.link_setLink_same (s : State) (n : Nat) (d : Link) (h : n < 48) : (s.setLink n d).link n = d := by
  simp [State.link, State.setLink, h]

theorem State.link_setLink_other (s : State) (n m : Nat) (d : Link) (h : n ≠ m) :
    (s.setLink n d).link m = s.link m := by
  simp [State.link, State.setLink, Vector.getElem?_setIfInBounds_ne h]

theorem State.strip_setStrip_same (s : State) (k : Nat) (d : Strip) (h : k < 24) :
    (s.setStrip k d).strip k = d := by
  simp [State.strip, State.setStrip, h]

theorem State.strip_setStrip_other (s : State) (k j : Nat) (d : Strip) (h : k ≠ j) :
    (s.setStrip k d).strip j = s.strip j := by
  simp [State.strip, State.setStrip, Vector.getElem?_setIfInBounds_ne h]

theorem State.emit_out (s : State) (e : Emission) : (s.emit e).out = s.out ++ [e] := rfl

theorem State.draw_free (s : State) : s.draw.2.free = s.free + 1 := rfl

/-! ### Object values: read after write -/

theorem objFind_objPut_same (o : Objs) (k v : Nat) : objFind (objPut o k v) k = some v := by
  induction o with
  | nil => simp [objPut, objFind]
  | cons e r ih =>
    unfold objPut
    split
    · simp [objFind]
    · split
      · simp [objFind]
      · rename_i h1 h2
        have h3 : ¬ e.1 = k := fun h => h2 h.symm
        simpa [objFind, List.find?_cons, h3] using ih

theorem objFind_objPut_other (o : Objs) (k j v : Nat) (h : k ≠ j) :
    objFind (objPut o k v) j = objFind o j := by
  induction o with
  | nil => simp [objPut, objFind, h]
  | cons e r ih =>
    unfold objPut
    split
    · simp [objFind, List.find?_cons, h]
    · split
      · rename_i h1 h2
        have h3 : ¬ e.1 = j := fun h4 => h (h2.trans h4)
        simp [objFind, h, h3]
      · by_cases h3 : e.1 = j
        · simp [objFind, h3]
        · simpa [objFind, List.find?_cons, h3] using ih

theorem okey_inj (i j a b : Nat) (hj : j < 256) (hb : b < 256) (h : okey i j = okey a b) : i = a ∧ j = b := by
  unfold okey at h; omega

theorem State.obj_setObj_same (s : State) (i j v : Nat) : (s.setObj i j v).obj i j = v := by
  simp [State.obj, State.setObj, objValue, objFind_objPut_same]

theorem State.obj_setObj_other (s : State) (i j a b v : Nat) (h : okey i j ≠ okey a b) :
    (s.setObj i j v).obj a b = s.obj a b := by
  simp [State.obj, State.setObj, objValue, objFind_objPut_other _ _ _ _ h]

theorem Paddock.obj_setObj_same (d : Paddock) (i j v : Nat) : (d.setObj i j v).obj i j = v := by
  simp [Paddock.obj, Paddock.setObj, objValue, objFind_objPut_same]

theorem Paddock.obj_setObj_other (d : Paddock) (i j a b v : Nat) (h : okey i j ≠ okey a b) :
    (d.setObj i j v).obj a b = d.obj a b := by
  simp [Paddock.obj, Paddock.setObj, objValue, objFind_objPut_other _ _ _ _ h]

end Sys2Proof.Machine
end

