-- ==== Sys2Proof/Laws/Island.lean ====
section
/-! SUPPORT. What no shared function of the model touches unless it says so: the queue, the life-cycle
state, the transition under way, the identity private key, the rollback floor with its fuse steps, and
whether the main die runs. One lemma for each function from states to states, so that a claim about these
parts never unfolds a function that leaves them alone. -/

namespace Sys2Proof.Machine
open Sys2Proof

/-- The queue, and the parts of the always-on island that outlast every reset, with whether the main die
runs. -/
def State.island (s : State) : List Instr × LifeState × Option Bool × Option Nat × Nat × Nat × Bool :=
  (s.pending, s.life.state, s.life.transition, s.life.privateKey, s.firmware.floor, s.firmware.stepsLeft, s.power.running)
@[simp] theorem State.island_fold (s : State) : (s.pending, s.life.state, s.life.transition, s.life.privateKey, s.firmware.floor, s.firmware.stepsLeft, s.power.running) = s.island := rfl
@[simp] theorem State.island_mk (a b c d e f g h i j k l m n o p q r t life firm pow x y z) :
  State.island (⟨a, b, c, d, e, f, g, h, i, j, k, l, m, n, o, p, q, r, t, life, firm, pow, x, y, z⟩ : State) = (a, life.state, life.transition, life.privateKey, firm.floor, firm.stepsLeft, pow.running) := rfl
@[simp] theorem island_ite (c : Prop) [Decidable c] (a b : State) : State.island (if c then a else b) = if c then a.island else b.island := apply_ite _ _ _ _
@[simp] theorem eff_ite (c : Prop) [Decidable c] (a b : Effect) : Effect.s (if c then a else b) = if c then a.s else b.s := apply_ite _ _ _ _
@[simp] theorem ans_ite (c : Prop) [Decidable c] (a b : Answer) : Answer.state (if c then a else b) = if c then a.state else b.state := apply_ite _ _ _ _
@[simp] theorem island_foldl {α : Type} (f : State → α → State) (h : ∀ s x, (f s x).island = s.island) (l : List α) (s : State) :
   (l.foldl f s).island = s.island := by
  induction l generalizing s with
  | nil => rfl
  | cons x r ih => simp [ih, h]
@[simp] theorem State.setPad_island (s : State) (p : Nat) (d : Paddock) :
    (State.setPad s p d).island = s.island := by
  simp [State.setPad]
@[simp] theorem State.modPad_island (s : State) (p : Nat) (f : Paddock → Paddock) :
    (State.modPad s p f).island = s.island := by
  simp [State.modPad]
@[simp] theorem State.setStrip_island (s : State) (k : Nat) (d : Strip) :
    (State.setStrip s k d).island = s.island := by
  simp [State.setStrip]
@[simp] theorem State.setLink_island (s : State) (n : Nat) (d : Link) :
    (State.setLink s n d).island = s.island := by
  simp [State.setLink]
@[simp] theorem State.modLink_island (s : State) (n : Nat) (f : Link → Link) :
    (State.modLink s n f).island = s.island := by
  simp [State.modLink]
@[simp] theorem State.emit_island (s : State) (e : Emission) :
    (State.emit s e).island = s.island := by
  simp [State.emit]
@[simp] theorem State.draw_island (s : State) :
    (State.draw s).2.island = s.island := by
  simp [State.draw]
@[simp] theorem State.setObj_island (s : State) (index : Nat) (sub : Nat) (v : Nat) :
    (State.setObj s index sub v).island = s.island := by
  simp [State.setObj]
@[simp] theorem State.addObj_island (s : State) (index : Nat) (sub : Nat) (n : Nat) :
    (State.addObj s index sub n).island = s.island := by
  simp [State.addObj]
@[simp] theorem State.writeBytes_island (s : State) (p : Nat) (ws : List (Nat × Byte)) :
    (State.writeBytes s p ws).island = s.island := by
  simp [State.writeBytes]
@[simp] theorem plainWrite_island (s : State) (p : Nat) (bs : List (Nat × Byte)) :
    (plainWrite s p bs).island = s.island := by
  simp [plainWrite]
@[simp] theorem State.countOutside_island (s : State) (p : Nat) (write : Bool) :
    (State.countOutside s p write).island = s.island := by
  simp [State.countOutside]
@[simp] theorem State.log_island (s : State) (e : LogEntry) :
    (State.log s e).island = s.island := by
  simp [State.log]
@[simp] theorem State.startLack_island (s : State) (p : Nat) (need : Nat) (own : optParam (List Span) []) :
    (State.startLack s p need own).island = s.island := by
  simp [State.startLack]
@[simp] theorem noteAccess_island (s : State) (p : Nat) (l : List Access) :
    (noteAccess s p l).island = s.island := by
  unfold noteAccess; (try dsimp only)
  repeat' (first | with_reducible rfl | (simp; done) | split | (refine island_foldl _ ?_ _ _; intro s x))
@[simp] theorem grantOne_island (p : Nat) (n : Nat) (s : State) (x : Need) :
    (grantOne p n s x).island = s.island := by
  simp [grantOne]
@[simp] theorem State.serveNeeds_island (s : State) (p : Nat) :
    (State.serveNeeds s p).island = s.island := by
  simp [State.serveNeeds]
@[simp] theorem State.grant_island (s : State) (p : Nat) :
    (State.grant s p).island = s.island := by
  simp [State.grant]
@[simp] theorem storePool_island (s : State) (p : Nat) (o : Pool) :
    (storePool s p o).island = s.island := by
  simp [storePool]
@[simp] theorem leavePool_island (s : State) (p : Nat) (r : Reader) :
    (leavePool s p r).island = s.island := by
  simp [leavePool]
@[simp] theorem ringPut_island (s : State) (p : Nat) (b : List Byte) :
    (ringPut s p b).island = s.island := by
  simp [ringPut]
@[simp] theorem State.logJob_island (s : State) (p : Nat) (status : Nat) (outcome : Nat) :
    (State.logJob s p status outcome).island = s.island := by
  simp [State.logJob]
@[simp] theorem State.detect_island (s : State) (p : Nat) (trigger : Nat) (suspect : Option Nat) :
    (State.detect s p trigger suspect).island = s.island := by
  unfold State.detect; (try dsimp only)
  repeat' (first | with_reducible rfl | (simp; done) | split | (refine island_foldl _ ?_ _ _; intro s x))
@[simp] theorem State.noteStop_island (s : State) (p : Nat) (old new : Option Stop) :
    (State.noteStop s p old new).island = s.island := by
  unfold State.noteStop; (try dsimp only)
  repeat' (first | with_reducible rfl | (simp; done) | split)
@[simp] theorem retire_island (s : State) (p : Nat) (f : Flight) :
    (retire s p f).island = s.island := by
  unfold retire; (try dsimp only)
  repeat' (first | with_reducible rfl | (simp; done) | split | (refine island_foldl _ ?_ _ _; intro s x))
@[simp] theorem postLists_island (s : State) (p : Nat) (flight : Nat) (lists : List (List Work)) :
    (postLists s p flight lists).island = s.island := by
  simp [postLists]
@[simp] theorem countSpans_island (s : State) (p : Nat) (l : List Span) :
    (countSpans s p l).island = s.island := by
  simp [countSpans]
@[simp] theorem countBounds_island (s : State) (p : Nat) (bs : List Nat) :
    (countBounds s p bs).island = s.island := by
  unfold countBounds; (try dsimp only)
  repeat' (first | with_reducible rfl | (simp; done) | split | (refine island_foldl _ ?_ _ _; intro s x))
@[simp] theorem countReads_island (op : Op) (s : State) (p : Nat) (pr : Program) (r : Rec) :
    (countReads op s p pr r).island = s.island := by
  unfold countReads; split <;> simp
@[simp] theorem countTouches_island (s : State) (p : Nat) (pr : Program) (l : List Span) :
    (countTouches s p pr l).island = s.island := by
  unfold countTouches; split <;> simp
theorem hush_island (s t : State) (p : Nat) (pr : Program) : (hush s p pr t).island = t.island := by
  unfold hush
  split
  · rw [State.modPad_island]; rfl
  · rfl
@[simp] theorem noteIssue_island (s : State) (p : Nat) (g : Nat) :
    (noteIssue s p g).island = s.island := by
  simp [noteIssue]
@[simp] theorem failIssue_island (s : State) (p : Nat) (g : Nat) (pr : Program) (opcode : Nat) (status : Nat) (slot : Nat) :
    (failIssue s p g pr opcode status slot).island = s.island := by
  unfold failIssue; (try dsimp only)
  split <;> simp
@[simp] theorem fly_island (s : State) (p g : Nat) (pr : Program) (r : Rec) (op : Op) (c : Ctx) (e : Effect) :
    (fly s p g pr r op c e).island = e.s.island := by simp [fly]
@[simp] theorem flyBare_island (s : State) (p g : Nat) (pr : Program) (r : Rec) (op : Op) (c : Ctx) (st : Nat) :
    (flyBare s p g pr r op c st).island = s.island := by simp [flyBare]
@[simp] theorem State.setUnit_island (s : State) (p : Nat) (u : Nat × List Byte) :
    (State.setUnit s p u).island = s.island := by
  simp [State.setUnit]
@[simp] theorem State.unordered_island (s : State) (p : Nat) (us : List (Nat × List Byte)) :
    (s.unordered p us).island = s.island := by
  unfold State.unordered
  induction us with
  | nil => rfl
  | cons u r ih => simp only [List.foldr_cons]; split <;> simpa [State.setUnit, State.draw] using ih
@[simp] theorem State.reordered_island (t s v : State) (p : Nat) (us : List Nat) :
    (t.reordered s v p us).island = t.island := by
  unfold State.reordered
  refine island_foldl _ ?_ _ _
  intro t u
  split
  · simp [State.setUnit]
  · dsimp only; split <;> simp [State.setUnit, State.draw]
theorem makeRoom_island (s t : State) (p n : Nat) (l : List Span) (h : s.makeRoom p n l = some t) : t.island = s.island := by
  unfold State.makeRoom at h
  dsimp only at h
  repeat' split at h
  all_goals (simp only [Option.some.injEq, reduceCtorEq] at h <;> subst h <;> simp)
theorem issueNext_island (code : Nat) (mine : Rec → Bool) (op : Op) (p g : Nat) (s : State)
    (h : ∀ c, (op.run c).s.island = c.s.island) (k : ∀ c, (op.skip c).island = c.s.island) :
    (issueNext code mine op p g s).island = s.island := by
  unfold issueNext
  dsimp only
  split
  · rfl
  · simp
  · split
    · simp
    · split
      · rfl
      · split
        · simp
        · simp [k]
        · split
          · simp
          · split
            · simp
            · split
              · simp
              · rename_i t ht
                have e := makeRoom_island _ _ _ _ _ ht
                split
                · split <;> simp [h, e, hush_island]
                · simp [h, e, hush_island]
theorem issue_island (code : Nat) (mine : Rec → Bool) (op : Op) (p g : Nat) (s : State)
    (h : ∀ c, (op.run c).s.island = c.s.island) (k : ∀ c, (op.skip c).island = c.s.island) :
    (issue code mine op p g s).island = s.island := by
  unfold issue
  dsimp only
  split
  · exact issueNext_island _ _ _ _ _ _ h k
  · rw [State.reordered_island, issueNext_island _ _ _ _ _ _ h k, State.unordered_island]
@[simp] theorem commitWritten_island (c : Ctx) (outs : List Outlet) (skimmed : Option Nat) :
    (commitWritten c outs skimmed).island = c.s.island := by
  simp [commitWritten]
@[simp] theorem outEffect_island (c : Ctx) (outs : List Outlet) (skimmed : Option Nat) (nonFinite : Bool) (lists : List (List Work)) :
    (outEffect c outs skimmed nonFinite lists).s.island = c.s.island := by
  simp [outEffect]
@[simp] theorem measured_island (c : Ctx) (slot : Nat) (ins : List Nat) (rs : Array F32) (nonFinite : Bool) (phase : Work) :
    (measured c slot ins rs nonFinite phase).s.island = c.s.island := by
  simp [measured]
@[simp] theorem matmulRun_island (c : Ctx) : (matmulRun c).s.island = c.s.island := by simp [matmulRun]
@[simp] theorem gradRun_island (c : Ctx) (i j k : Nat) (dx dw : Array Val → Array Val → GradSide) (w : Bool) :
    (gradRun c i j k dx dw w).s.island = c.s.island := by
  unfold gradRun
  dsimp only
  rw [outEffect_island]
@[simp] theorem matmulGradRun_island (c : Ctx) :
    (matmulGradRun c).s.island = c.s.island := by
  simp [matmulGradRun]
@[simp] theorem rotaryRun_island (c : Ctx) :
    (rotaryRun c).s.island = c.s.island := by
  simp [rotaryRun]
@[simp] theorem attnFwdRun_island (c : Ctx) : (attnFwdRun c).s.island = c.s.island := by simp [attnFwdRun]
@[simp] theorem attnBwdRun_island (c : Ctx) : (attnBwdRun c).s.island = c.s.island := by simp [attnBwdRun]
@[simp] theorem samplePut_island (s : State) (p : Nat) (b : List Byte) :
    (samplePut s p b).island = s.island := by
  simp [samplePut]
@[simp] theorem State.bumpCounter_island (s : State) (k : Nat) (q : Nat) (c : Nat) (word : Nat) (n : Nat) :
    (State.bumpCounter s k q c word n).island = s.island := by
  unfold State.bumpCounter; (try dsimp only)
  repeat' (first | with_reducible rfl | (simp; done) | split | (refine island_foldl _ ?_ _ _; intro s x))
@[simp] theorem State.count_island (s : State) (k : Nat) (q : Nat) (code : Nat) (n : Nat) (x : Attrs) :
    (State.count s k q code n x).island = s.island := by
  simp [State.count]
@[simp] theorem State.countTally_island (s : State) (k : Nat) (q : Nat) (t : Tally) :
    (State.countTally s k q t).island = s.island := by
  simp [State.countTally]
@[simp] theorem State.countTallies_island (s : State) (k : Nat) (q : Nat) (l : List Tally) :
    (State.countTallies s k q l).island = s.island := by
  simp [State.countTallies]
@[simp] theorem State.oweOrCount_island (s : State) (k : Nat) (q : Nat) (u : Started) (n : Nat) :
    (State.oweOrCount s k q u n).island = s.island := by
  unfold State.oweOrCount; (try dsimp only)
  repeat' (first | with_reducible rfl | (simp; done) | split | (refine island_foldl _ ?_ _ _; intro s x))
@[simp] theorem State.countEnd_island (s : State) (k : Nat) (q : Nat) (r : Run) (f : ListPhase) (completes : Bool) :
    (State.countEnd s k q r f completes).island = s.island := by
  unfold State.countEnd; (try dsimp only)
  repeat' (first | with_reducible rfl | (simp; done) | split | (refine island_foldl _ ?_ _ _; intro s x))
@[simp] theorem countRequest_island (k : Nat) (q : Nat) (old : Strip) (s : State) :
    (countRequest k q old s).island = s.island := by
  unfold countRequest; (try dsimp only)
  repeat' (first | with_reducible rfl | (simp; done) | split | (refine island_foldl _ ?_ _ _; intro s x))
@[simp] theorem State.fixCounter_island (s : State) (k : Nat) (i : Nat) :
    (State.fixCounter s k i).island = s.island := by
  simp [State.fixCounter]
@[simp] theorem State.setQp_island (s : State) (x : QueuePair) :
    (State.setQp s x).island = s.island := by
  simp [State.setQp]
@[simp] theorem State.modQp_island (s : State) (q : Nat) (f : QueuePair → QueuePair) :
    (State.modQp s q f).island = s.island := by
  simp [State.modQp]
@[simp] theorem State.framesIn_island (s : State) (port : Nat) (n : Nat) :
    (State.framesIn s port n).island = s.island := by
  simp [State.framesIn]
@[simp] theorem State.framesOut_island (s : State) (port : Nat) (n : Nat) :
    (State.framesOut s port n).island = s.island := by
  simp [State.framesOut]
@[simp] theorem State.launch_island (s : State) (x : Packet) :
    (State.launch s x).island = s.island := by
  simp [State.launch]
@[simp] theorem State.drainPort_island (port n : Nat) (s : State) : (State.drainPort port n s).island = s.island := by
  induction n generalizing s with
  | zero => rfl
  | succ n ih => unfold State.drainPort; split <;> simp [ih]
@[simp] theorem State.sendPacket_island (s : State) (x : Packet) :
    (State.sendPacket s x).island = s.island := by
  simp [State.sendPacket]
@[simp] theorem State.post_island (s : State) (q : Nat) (cls : Nat) (frames : Nat) (e : Emission) :
    (State.post s q cls frames e).island = s.island := by
  simp [State.post]
@[simp] theorem State.answerMark_island (x : Arrival) (s : State) :
    (State.answerMark x s).island = s.island := by
  simp [State.answerMark]
@[simp] theorem State.transmit_island (s : State) (q : Nat) (o : Outgoing) :
    (State.transmit s q o).island = s.island := by
  simp [State.transmit]
@[simp] theorem State.sendOn_island (s : State) (q : Nat) (o : Outgoing) :
    (State.sendOn s q o).island = s.island := by
  simp [State.sendOn]
@[simp] theorem State.resend_island (s : State) (q : Nat) :
    (State.resend s q).island = s.island := by
  simp [State.resend]
@[simp] theorem dropOutgoing_island (p : Nat) (s : State) (o : Outgoing) :
    (dropOutgoing p s o).island = s.island := by
  unfold dropOutgoing; (try dsimp only)
  repeat' (first | with_reducible rfl | (simp; done) | split | (refine island_foldl _ ?_ _ _; intro s x))
@[simp] theorem State.failQp_island (s : State) (q : Nat) :
    (State.failQp s q).island = s.island := by
  simp [State.failQp]
@[simp] theorem State.nakAndFail_island (s : State) (q : Nat) (e : Emission) :
    (State.nakAndFail s q e).island = s.island := by
  simp [State.nakAndFail]
@[simp] theorem State.ackOn_island (s : State) (q : Nat) :
    (State.ackOn s q).island = s.island := by
  simp [State.ackOn]
@[simp] theorem State.enterLink_island (s : State) (n : Nat) (m : FabMsg) (sent : Nat) :
    (State.enterLink s n m sent).1.island = s.island := by
  unfold State.enterLink; (try dsimp only)
  repeat' (first | with_reducible rfl | (simp; done) | split | (refine island_foldl _ ?_ _ _; intro s x))
@[simp] theorem State.putOnLink_island (s : State) (n : Nat) (m : FabMsg) :
    (State.putOnLink s n m).island = s.island := by
  simp [State.putOnLink]
@[simp] theorem State.drain_island (n k debt : Nat) (rest : List Byte) (s : State) :
    (State.drain n k debt rest s).island = s.island := by
  induction k generalizing debt rest s with
  | zero => unfold State.drain; split <;> simp
  | succ k ih =>
    unfold State.drain
    dsimp only
    repeat' (first | rfl | (simp [ih]; done) | split)
@[simp] theorem State.drainLink_island (s : State) (n : Nat) :
    (State.drainLink s n).island = s.island := by
  simp [State.drainLink]
@[simp] theorem State.sendLink_island (s : State) (n : Nat) (m : FabMsg) :
    (State.sendLink s n m).island = s.island := by
  simp [State.sendLink]
@[simp] theorem State.sendControl_island (s : State) (n : Nat) (flags : Nat) (expected : Nat) :
    (State.sendControl s n flags expected).island = s.island := by
  simp [State.sendControl]
@[simp] theorem State.rebuild_island (s : State) :
    (State.rebuild s).island = s.island := by
  simp [State.rebuild]
@[simp] theorem State.hop_island (s : State) (x : Nat ⊕ Nat) (m : FabMsg) :
    (State.hop s x m).island = s.island := by
  unfold State.hop; (try dsimp only)
  repeat' (first | with_reducible rfl | (simp; done) | split | (refine island_foldl _ ?_ _ _; intro s x))
@[simp] theorem State.routeMsg_island (s : State) (m : FabMsg) :
    (State.routeMsg s m).island = s.island := by
  unfold State.routeMsg; (try dsimp only)
  repeat' (first | with_reducible rfl | (simp; done) | split | (refine island_foldl _ ?_ _ _; intro s x))
@[simp] theorem State.send_island (s : State) (p : Nat) (x : Send) :
    (State.send s p x).island = s.island := by
  simp [State.send]
@[simp] theorem State.deliver_island (s : State) (m : FabMsg) :
    (State.deliver s m).island = s.island := by
  simp [State.deliver]
@[simp] theorem State.accept_island (s : State) (m : FabMsg) :
    (State.accept s m).island = s.island := by
  simp [State.accept]
@[simp] theorem State.forgetFlows_island (s : State) (slot : Nat) (members : List Nat) :
    (State.forgetFlows s slot members).island = s.island := by
  simp [State.forgetFlows]
@[simp] theorem State.modPlot_island (s : State) (k : Nat) (q : Nat) (f : Engines → Engines) :
    (State.modPlot s k q f).island = s.island := by
  simp [State.modPlot]
@[simp] theorem State.closeUnit_island (s : State) (k : Nat) (q : Nat) (u : Started) (c : Context) (completes : Bool) :
    (State.closeUnit s k q u c completes).island = s.island := by
  unfold State.closeUnit; (try dsimp only)
  repeat' (first | with_reducible rfl | (simp; done) | split | (refine island_foldl _ ?_ _ _; intro s x))
@[simp] theorem State.endUnit_island (k : Nat) (q : Nat) (combined : Bool) (s : State) (u : Started) :
    (State.endUnit k q combined s u).island = s.island := by
  unfold State.endUnit; (try dsimp only)
  repeat' (first | with_reducible rfl | (simp; done) | split | (refine island_foldl _ ?_ _ _; intro s x))
@[simp] theorem State.tickPlot_island (s : State) (k : Nat) (q : Nat) (t : Engines.Tick) :
    (State.tickPlot s k q t).island = s.island := by
  simp [State.tickPlot]
@[simp] theorem State.flushPlot_island (s : State) (k : Nat) (q : Nat) :
    (State.flushPlot s k q).island = s.island := by
  simp [State.flushPlot]
@[simp] theorem State.runUnit_island (k : Nat) (q : Nat) (n : Nat) (s : State) (u : Started) :
    (State.runUnit k q n s u).island = s.island := by
  simp [State.runUnit]
@[simp] theorem State.starve_island (s : State) (k : Nat) (q : Nat) (u : Started) :
    (State.starve s k q u).island = s.island := by
  simp [State.starve]
@[simp] theorem State.runPlot_island (s : State) (k : Nat) (q : Nat) (u : Started) (n : Nat) :
    (State.runPlot s k q u n).island = s.island := by
  unfold State.runPlot; (try dsimp only)
  repeat' (first | with_reducible rfl | (simp; done) | split | (refine island_foldl _ ?_ _ _; intro s x))
@[simp] theorem State.refill_island (s : State) (k : Nat) :
    (State.refill s k).island = s.island := by
  simp [State.refill]
@[simp] theorem State.beginRun_island (s : State) (k : Nat) (q : Nat) (old : Strip) :
    (State.beginRun s k q old).island = s.island := by
  unfold State.beginRun; (try dsimp only)
  repeat' (first | with_reducible rfl | (simp; done) | split | (refine island_foldl _ ?_ _ _; intro s x))
@[simp] theorem State.answer_island (s : State) (k : Nat) (q : Nat) :
    (State.answer s k q).island = s.island := by
  simp [State.answer]
@[simp] theorem State.finishUnits_island (s : State) (p n : Nat) : (s.finishUnits p n).island = s.island := by
  unfold State.finishUnits
  dsimp only
  split
  · rfl
  · refine island_foldl _ (fun s k => ?_) _ _
    rw [island_foldl, island_foldl]
    · intro s x; simp
    · intro s q
      split
      · rfl
      · split
        · rfl
        · simp
@[simp] theorem State.acked_island (s : State) (n : Nat) (a : Nat) :
    (State.acked s n a).island = s.island := by
  simp [State.acked]
@[simp] theorem State.credited_island (s : State) (n : Nat) (b : List Byte) :
    (State.credited s n b).island = s.island := by
  simp [State.credited]
@[simp] theorem State.logRetired_island (s : State) (n : Nat) (spare : Bool) (detection : Nat) :
    (State.logRetired s n spare detection).island = s.island := by
  simp [State.logRetired]
@[simp] theorem State.useSpares_island (s : State) :
    (State.useSpares s).island = s.island := by
  unfold State.useSpares; (try dsimp only)
  repeat' (first | with_reducible rfl | (simp; done) | split | (refine island_foldl _ ?_ _ _; intro s x))
@[simp] theorem State.retireLink_island (s : State) (n : Nat) (detection : Nat) :
    (State.retireLink s n detection).island = s.island := by
  simp [State.retireLink]
@[simp] theorem State.moveAway_island (s : State) (l : List FabMsg) :
    (State.moveAway s l).island = s.island := by
  simp [State.moveAway]
@[simp] theorem State.fallLink_island (s : State) (n : Nat) (counted : Bool) :
    (State.fallLink s n counted).island = s.island := by
  simp [State.fallLink]
@[simp] theorem State.nak_island (s : State) (n : Nat) :
    (State.nak s n).island = s.island := by
  simp [State.nak]
@[simp] theorem State.cutShort_island (s : State) (n : Nat) (header : List Byte) (payload : List Byte) :
    (State.cutShort s n header payload).island = s.island := by
  unfold State.cutShort; (try dsimp only)
  repeat' (first | with_reducible rfl | (simp; done) | split | (refine island_foldl _ ?_ _ _; intro s x))
@[simp] theorem State.freeSlots_island (s : State) (n : Nat) (lane : Nat) (slots : Nat) :
    (State.freeSlots s n lane slots).island = s.island := by
  simp [State.freeSlots]
@[simp] theorem State.wholeMessage_island (s : State) (n : Nat) (bad : Bool) (header : List Byte) (payload : List Byte) :
    (State.wholeMessage s n bad header payload).island = s.island := by
  simp [State.wholeMessage]
@[simp] theorem State.moreSlots_island (s : State) (n : Nat) (bad : Bool) (payload : List Byte) :
    (State.moreSlots s n bad payload).island = s.island := by
  unfold State.moreSlots; (try dsimp only)
  repeat' (first | with_reducible rfl | (simp; done) | split | (refine island_foldl _ ?_ _ _; intro s x))
@[simp] theorem State.newMessage_island (s : State) (n : Nat) (bad : Bool) (header : List Byte) (payload : List Byte) :
    (State.newMessage s n bad header payload).island = s.island := by
  simp [State.newMessage]
@[simp] theorem State.control_island (s : State) (n : Nat) (b : List Byte) :
    (State.control s n b).island = s.island := by
  simp [State.control]
@[simp] theorem State.replayFrom_island (s : State) (n : Nat) (e : Nat) :
    (State.replayFrom s n e).island = s.island := by
  unfold State.replayFrom; (try dsimp only)
  repeat' (first | with_reducible rfl | (simp; done) | split | (refine island_foldl _ ?_ _ _; intro s x))
@[simp] theorem State.sendIdentity_island (s : State) (n : Nat) :
    (State.sendIdentity s n).island = s.island := by
  simp [State.sendIdentity]
@[simp] theorem State.adopt_island (s : State) (n : Nat) :
    (State.adopt s n).island = s.island := by
  unfold State.adopt; (try dsimp only)
  repeat' (first | with_reducible rfl | (simp; done) | split | (refine island_foldl _ ?_ _ _; intro s x))
@[simp] theorem State.haltPair_island (s : State) (n : Nat) :
    (State.haltPair s n).island = s.island := by
  simp [State.haltPair]
@[simp] theorem State.grantReleases_island (s : State) :
    (State.grantReleases s).island = s.island := by
  simp [State.grantReleases]
@[simp] theorem State.failAndMove_island (s : State) (q : Nat) :
    (State.failAndMove s q).island = s.island := by
  simp [State.failAndMove]
@[simp] theorem State.refuseAccess_island (s : State) (q : Nat) (counted : Bool) :
    (State.refuseAccess s q counted).island = s.island := by
  simp [State.refuseAccess]
@[simp] theorem rdmaWrite_island (s : State) (q : Nat) (rkey : Nat) (addr : Nat) (data : List Byte) :
    (rdmaWrite s q rkey addr data).island = s.island := by
  unfold rdmaWrite; (try dsimp only)
  repeat' (first | with_reducible rfl | (simp; done) | split | (refine island_foldl _ ?_ _ _; intro s x))
@[simp] theorem rdmaRead_island (s : State) (q : Nat) (rkey : Nat) (addr : Nat) (len : Nat) :
    (rdmaRead s q rkey addr len).island = s.island := by
  unfold rdmaRead; (try dsimp only)
  repeat' (first | with_reducible rfl | (simp; done) | split | (refine island_foldl _ ?_ _ _; intro s x))
@[simp] theorem serveRdma_island (s : State) (q : Nat) (x : RdmaRequest) :
    (serveRdma s q x).island = s.island := by
  unfold serveRdma; (try dsimp only)
  repeat' (first | with_reducible rfl | (simp; done) | split | (refine island_foldl _ ?_ _ _; intro s x))
@[simp] theorem takeRdma_island (s : State) (q : Nat) (x : RdmaRequest) :
    (takeRdma s q x).island = s.island := by
  simp [takeRdma]
@[simp] theorem drainRdma_island (n q : Nat) (s : State) : (drainRdma n q s).island = s.island := by
  induction n generalizing s with
  | zero => rfl
  | succ n ih => unfold drainRdma; split <;> (try split) <;> simp [ih]
@[simp] theorem State.retry_island (s : State) (q : Nat) :
    (State.retry s q).island = s.island := by
  simp [State.retry]
@[simp] theorem State.sweep_island (s : State) (p : Nat) :
    (State.sweep s p).island = s.island := by
  simp [State.sweep]
@[simp] theorem stopPrograms_island (p : Nat) (s : State) :
    (stopPrograms p s).island = s.island := by
  simp [stopPrograms]
@[simp] theorem State.degrade_island (s : State) :
    (State.degrade s).island = s.island := by
  simp [State.degrade]
@[simp] theorem addStatus_island (s : State) (p : Nat) (n : Nat) (st : Nat) :
    (addStatus s p n st).island = s.island := by
  simp [addStatus]
@[simp] theorem dropBatch_island (s : State) (p : Nat) (n : Nat) :
    (dropBatch s p n).island = s.island := by
  simp [dropBatch]
@[simp] theorem chooseOne_island (s : State) (l : List (Nat × Nat)) :
    (chooseOne s l).2.island = s.island := by
  unfold chooseOne; (try dsimp only)
  repeat' (first | with_reducible rfl | (simp; done) | split | (refine island_foldl _ ?_ _ _; intro s x))
@[simp] theorem addStatusTo_island (s : State) (x : Option (Nat × Nat)) (st : Nat) :
    (addStatusTo s x st).island = s.island := by
  unfold addStatusTo; (try dsimp only)
  repeat' (first | with_reducible rfl | (simp; done) | split | (refine island_foldl _ ?_ _ _; intro s x))
@[simp] theorem enterTest_island (s : State) (u : UnitId) (detection : Nat) (paddock : Nat) (detail : Nat)
    (victim : Option (Nat × Nat)) :
    (enterTest s u detection paddock detail victim).island = s.island := by
  unfold enterTest; (try dsimp only)
  repeat' (first | with_reducible rfl | (simp; done) | split | (refine island_foldl _ ?_ _ _; intro s x))
@[simp] theorem noteError_island (s : State) (u : UnitId) :
    (noteError s u).island = s.island := by
  simp [noteError]
@[simp] theorem State.abandon_island (k : Nat) (q : Nat) (s : State) (u : Started) :
    (State.abandon k q s u).island = s.island := by
  unfold State.abandon; (try dsimp only)
  repeat' (first | with_reducible rfl | (simp; done) | split | (refine island_foldl _ ?_ _ _; intro s x))
@[simp] theorem State.rerun_island (s : State) (u : UnitId) (x : Option (Nat × Nat)) :
    (State.rerun s u x).island = s.island := by
  unfold State.rerun; (try dsimp only)
  repeat' (first | with_reducible rfl | (simp; done) | split | (refine island_foldl _ ?_ _ _; intro s x))
@[simp] theorem retirePlot_island (s : State) (unit : Nat) :
    (retirePlot s unit).1.island = s.island := by
  unfold retirePlot; (try dsimp only)
  repeat' (first | with_reducible rfl | (simp; done) | split | (refine island_foldl _ ?_ _ _; intro s x))
@[simp] theorem State.restartSample_island (s : State) (u : Nat) :
    (State.restartSample s u).island = s.island := by
  simp [State.restartSample]
@[simp] theorem retireUnit_island (s : State) (u : UnitId) :
    (retireUnit s u).1.island = s.island := by
  unfold retireUnit; (try dsimp only)
  repeat' (first | with_reducible rfl | (simp; done) | split | (refine island_foldl _ ?_ _ _; intro s x))
@[simp] theorem sendCompletion_island (s : State) (p : Nat) (pr : Program) :
    (sendCompletion s p pr).island = s.island := by
  simp [sendCompletion]
@[simp] theorem countStop_island (s : State) (p : Nat) (pr : Program) :
    (countStop s p pr).island = s.island := by
  unfold countStop; (try dsimp only)
  repeat' (first | with_reducible rfl | (simp; done) | split | (refine island_foldl _ ?_ _ _; intro s x))
@[simp] theorem endProgram_island (s : State) (p : Nat) (pr : Program) :
    (endProgram s p pr).island = s.island := by
  unfold endProgram; (try dsimp only)
  repeat' (first | with_reducible rfl | (simp; done) | split | (refine island_foldl _ ?_ _ _; intro s x))
@[simp] theorem loadBounds_island (s : State) (p : Nat) (pr : Program) :
    (loadBounds s p pr).island = s.island := by
  simp [loadBounds]
@[simp] theorem startProgram_island (s : State) (p : Nat) (pr : Program) :
    (startProgram s p pr).island = s.island := by
  simp [startProgram]
@[simp] theorem startPrograms_island (n p : Nat) (s : State) : (startPrograms n p s).island = s.island := by
  induction n generalizing s with
  | zero => rfl
  | succ k ih =>
    unfold startPrograms
    repeat' (first | rfl | (simp [ih]; done) | split)
@[simp] theorem startAll_island (s : State) (p : Nat) :
    (startAll s p).island = s.island := by
  simp [startAll]
@[simp] theorem State.serveHeld_island (s : State) (p : Nat) :
    (State.serveHeld s p).island = s.island := by
  unfold State.serveHeld
  split
  · rw [startAll_island]
    refine island_foldl _ ?_ _ _
    intro s x
    split <;> simp
  · rfl

theorem island_either (b : Bool) (x y : Effect) (c : List Instr × LifeState × Option Bool × Option Nat × Nat × Nat × Bool)
    (hx : x.s.island = c) (hy : y.s.island = c) : (if b = true then x else y).s.island = c := by
  split
  · exact hx
  · exact hy
@[simp] theorem compactRun_island (c : Ctx) : (compactRun c).s.island = c.s.island := by
  unfold compactRun
  dsimp only
  refine island_either _ _ _ _ rfl ?_
  split
  · rfl
  · rename_i t ht
    have e := makeRoom_island _ _ _ _ _ ht
    simp [e]
@[simp] theorem codebookRun_island (c : Ctx) :
    (codebookRun c).s.island = c.s.island := by
  simp [codebookRun]
@[simp] theorem expandRun_island (c : Ctx) : (expandRun c).s.island = c.s.island := by
  unfold expandRun
  dsimp only
  split <;> simp
@[simp] theorem settleRace_island (s : State) (p j : Nat) (won : Bool) : (settleRace s p j won).island = s.island := by
  unfold settleRace
  dsimp only
  rw [island_foldl, island_foldl]
  · intro s o; simp
  · intro s k
    refine island_foldl _ (fun s q => island_foldl _ (fun s r => ?_) _ _) _ _
    split <;> simp
@[simp] theorem dropRecompute_island (s : State) (p : Nat) (j : Nat) (won : Bool) :
    (dropRecompute s p j won).island = s.island := by
  simp [dropRecompute]
@[simp] theorem State.cxlRate_island (s : State) :
    (State.cxlRate s).2.island = s.island := by
  simp [State.cxlRate]
@[simp] theorem decideDeadline_island (s : State) (p : Nat) (j : Nat) (a : Alloc) :
    (decideDeadline s p j a).island = s.island := by
  simp [decideDeadline]
@[simp] theorem stageNext_island (s : State) (p n : Nat) : (stageNext s p n).island = s.island := by
  unfold stageNext
  dsimp only
  repeat' split
  all_goals first | rfl | (generalize Paddock.stagePart _ _ _ _ = o; cases o <;> simp)
@[simp] theorem heldPart_island (p a b : Nat) (codes : Option (List Code)) (acc : Nat × State) (i : Nat) :
    (heldPart p a b codes acc i).2.island = acc.2.island := by
  simp [heldPart]
theorem heldParts_island (p a b : Nat) (codes : Option (List Code)) (l : List Nat) (acc : Nat × State) :
    (l.foldl (heldPart p a b codes) acc).2.island = acc.2.island := by
  induction l generalizing acc with
  | nil => rfl
  | cons i r ih => simp [ih]
@[simp] theorem holdBlock_island (p j base : Nat) (codes : Option (List Code)) (s : State) (b : Block) :
    (holdBlock p j base codes s b).island = s.island := by
  unfold holdBlock
  dsimp only
  repeat' split
  all_goals (try simp [heldParts_island])
@[simp] theorem State.logTier_island (s : State) (cls : UnitClass) (unit : Nat) (status : Nat) (detection : Nat) (outcome : Nat) (detail : Nat) :
    (State.logTier s cls unit status detection outcome detail).island = s.island := by
  simp [State.logTier]
@[simp] theorem State.dropPortLink_island (s : State) (port : Option Nat) :
    (State.dropPortLink s port).island = s.island := by
  unfold State.dropPortLink; (try dsimp only)
  repeat' (first | with_reducible rfl | (simp; done) | split | (refine island_foldl _ ?_ _ _; intro s x))
@[simp] theorem State.loseTier_island (s : State) (port : Option Nat) :
    (State.loseTier s port).island = s.island := by
  simp [State.loseTier]
@[simp] theorem testBlock_island (s : State) (p : Nat) (addr : Nat) (stack : Nat) (counted : Bool) :
    (testBlock s p addr stack counted).island = s.island := by
  simp [testBlock]
@[simp] theorem noteCorrection_island (s : State) (p : Nat) (addr : Nat) (stack : Nat) :
    (noteCorrection s p addr stack).island = s.island := by
  simp [noteCorrection]
@[simp] theorem loseHbm_island (s : State) (p : Nat) (addr : Nat) :
    (loseHbm s p addr).island = s.island := by
  unfold loseHbm; (try dsimp only)
  repeat' (first | with_reducible rfl | (simp; done) | split | (refine island_foldl _ ?_ _ _; intro s x))
@[simp] theorem State.relocate_island (s : State) :
    (State.relocate s).island = s.island := by
  simp [State.relocate]
@[simp] theorem unreadableCodeword_island (s : State) (p : Nat) (n : Nat) :
    (unreadableCodeword s p n).island = s.island := by
  simp [unreadableCodeword]
@[simp] theorem State.loseBatches_island (s : State) (target : Nat) :
    (State.loseBatches s target).island = s.island := by
  simp [State.loseBatches]
@[simp] theorem State.showTime_island (s : State) :
    (State.showTime s).island = s.island := by
  simp [State.showTime]
@[simp] theorem State.hear_island (s : State) (link : Nat) (b : List Byte) :
    (State.hear s link b).island = s.island := by
  simp [State.hear]
@[simp] theorem State.sendExchange_island (s : State) (n : Nat) (b : List Byte) :
    (State.sendExchange s n b).island = s.island := by
  simp [State.sendExchange]
@[simp] theorem State.takeLaneZero_island (s : State) (n : Nat) :
    (State.takeLaneZero s n).island = s.island := by
  simp [State.takeLaneZero]
@[simp] theorem State.measureSync_island (s : State) (origin : Nat) (received : Nat) (gm : Nat) :
    (State.measureSync s origin received gm).island = s.island := by
  unfold State.measureSync; (try dsimp only)
  repeat' (first | with_reducible rfl | (simp; done) | split | (refine island_foldl _ ?_ _ _; intro s x))
@[simp] theorem State.restoreUnits_island (s : State) :
    (State.restoreUnits s).island = s.island := by
  simp [State.restoreUnits]
@[simp] theorem State.stopBist_island (s : State) :
    (State.stopBist s).island = s.island := by
  simp [State.stopBist]
@[simp] theorem State.trainLinks_island (s : State) :
    (State.trainLinks s).island = s.island := by
  simp [State.trainLinks]
@[simp] theorem State.trainPorts_island (s : State) :
    (State.trainPorts s).island = s.island := by
  simp [State.trainPorts]
@[simp] theorem State.showPtp_island (s : State) :
    (State.showPtp s).island = s.island := by
  simp [State.showPtp]
@[simp] theorem State.logReset_island (s : State) (detail : Nat) :
    (State.logReset s detail).island = s.island := by
  simp [State.logReset]
@[simp] theorem Power.setCause_running (w : Power) (b : Nat) (on : Bool) : (w.setCause b on).running = w.running := rfl
@[simp] theorem State.followDerate_island (s : State) :
    (State.followDerate s).island = s.island := by
  simp [State.followDerate]
@[simp] theorem State.noteStatus_island (s : State) (rail : Nat) (w : Nat) :
    (State.noteStatus s rail w).island = s.island := by
  simp [State.noteStatus]
@[simp] theorem State.slowFor_island (s : State) (bit : Nat) :
    (State.slowFor s bit).island = s.island := by
  simp [State.slowFor]
@[simp] theorem State.keepStatus_island (s : State) (rail : Nat) (w : Nat) :
    (State.keepStatus s rail w).island = s.island := by
  simp [State.keepStatus]
@[simp] theorem State.pollRail_island (s : State) (x : PmbusReading) :
    (State.pollRail s x).island = s.island := by
  unfold State.pollRail; (try dsimp only)
  repeat' (first | with_reducible rfl | (simp; done) | split | (refine island_foldl _ ?_ _ _; intro s x))
@[simp] theorem State.noteHottest_island (s : State) (x : ThermalSensor) (milliC : Int) :
    (State.noteHottest s x milliC).island = s.island := by
  simp [State.noteHottest]
@[simp] theorem applyShadow_island (s : State) (p : Nat) (x : Shadow) :
    (applyShadow s p x).island = s.island := by
  simp [applyShadow]
@[simp] theorem settleShadow_island (p : Nat) (s : State) (x : Shadow) :
    (settleShadow p s x).island = s.island := by
  unfold settleShadow; (try dsimp only)
  repeat' (first | with_reducible rfl | (simp; done) | split | (refine island_foldl _ ?_ _ _; intro s x))
@[simp] theorem applyShadows_island (s : State) (p : Nat) :
    (applyShadows s p).island = s.island := by
  simp [applyShadows]
@[simp] theorem reachBarrier_island (s : State) (p : Nat) (g : Nat) (pr : Program) :
    (reachBarrier s p g pr).1.island = s.island := by
  simp [reachBarrier]
@[simp] theorem clearBarrier_island (s : State) (p : Nat) (g : Nat) :
    (clearBarrier s p g).island = s.island := by
  simp [clearBarrier]
theorem issueBarrier_island (code : Nat) (op : Op) (p g : Nat) (s : State)
    (h : ∀ c, (op.run c).s.island = c.s.island) (k : ∀ c, (op.skip c).island = c.s.island) :
    (issueBarrier code op p g s).island = s.island := by
  have e : ∀ t, (issue code (fun _ => true) op p g t).island = t.island := fun t => issue_island _ _ _ _ _ _ h k
  unfold issueBarrier
  split
  · split
    · dsimp only; split <;> simp [e]
    · exact e s
  · exact e s
@[simp] theorem startWait_island (s : State) (p : Nat) (g : Nat) :
    (startWait s p g).island = s.island := by
  simp [startWait]
@[simp] theorem deferSignal_island (s : State) (p : Nat) (g : Nat) (r : Rec) :
    (deferSignal s p g r).island = s.island := by
  simp [deferSignal]
@[simp] theorem sendFormation_island (s : State) (p : Nat) (g : Group) (x : Formation) (r : Nat) :
    (sendFormation s p g x r).island = s.island := by
  simp [sendFormation]
@[simp] theorem sendDown_island (s : State) (p : Nat) (g : Group) (x : Formation) :
    (sendDown s p g x).island = s.island := by
  simp [sendDown]
@[simp] theorem settleVerdict_island (s : State) (p : Nat) (slot : Nat) (verdict : Nat) (lowest : Nat) :
    (settleVerdict s p slot verdict lowest).island = s.island := by
  simp [settleVerdict]
@[simp] theorem decideVerdict_island (s : State) (p : Nat) (slot : Nat) :
    (decideVerdict s p slot).island = s.island := by
  simp [decideVerdict]
@[simp] theorem reportUp_island (s : State) (p : Nat) (slot : Nat) :
    (reportUp s p slot).island = s.island := by
  simp [reportUp]
@[simp] theorem addReport_island (s : State) (p : Nat) (slot : Nat) (r : Report) :
    (addReport s p slot r).island = s.island := by
  simp [addReport]
@[simp] theorem useInvite_island (s : State) (p : Nat) (slot : Nat) :
    (useInvite s p slot).island = s.island := by
  unfold useInvite; (try dsimp only)
  repeat' (first | with_reducible rfl | (simp; done) | split | (refine island_foldl _ ?_ _ _; intro s x))
@[simp] theorem formGroup_island (s : State) (p : Nat) (slot : Nat) :
    (formGroup s p slot).island = s.island := by
  simp [formGroup]
@[simp] theorem State.countStray_island (s : State) :
    (State.countStray s).island = s.island := by
  simp [State.countStray]
theorem take_island (s t : State) (f : Delivered → Bool) (m : Delivered) (h : s.take f = some (m, t)) :
    t.island = s.island := by
  unfold State.take at h
  repeat' split at h
  all_goals (cases h <;> simp)
theorem withFormation_island (kind : Nat) (use : State → Nat → Nat → Formation → Delivered → State)
    (h : ∀ s p q x m, (use s p q x m).island = s.island) (s : State) : (withFormation kind use s).island = s.island := by
  unfold withFormation
  dsimp only
  split
  · rfl
  · rename_i m t ht
    have e := take_island _ _ _ _ ht
    (repeat' split) <;> simp [h, e]
@[simp] theorem markDissolving_island (s : State) (p : Nat) (slot : Nat) :
    (markDissolving s p slot).island = s.island := by
  simp [markDissolving]
@[simp] theorem sendPieces_island (s : State) (p : Nat) (o : FabOp) (rank : Nat) (kind : Nat) (n0 : Nat) (l : List (Nat × List Byte)) :
    (sendPieces s p o rank kind n0 l).island = s.island := by
  simp [sendPieces]
@[simp] theorem collected_island (c : Ctx) (d : Tensor) (w : Written) :
    (collected c d w).s.island = c.s.island := by
  simp [collected]
@[simp] theorem placeWire_island (c : Ctx) (d : Tensor) (w : Wire) :
    (placeWire c d w).s.island = c.s.island := by
  simp [placeWire]
@[simp] theorem countOp_island (s : State) (p : Nat) (slot : Nat) :
    (countOp s p slot).island = s.island := by
  simp [countOp]
@[simp] theorem returnShard_island (c : Ctx) (o : FabOp) (st : Nat) (l : List Enc) :
    (returnShard c o st l).island = c.s.island := by
  simp [returnShard]
@[simp] theorem sendRows_island (c : Ctx) (o : FabOp) (xs : Array Expert) (row : Nat → List Byte) :
    (sendRows c o xs row).1.island = c.s.island := by
  unfold sendRows
  dsimp only
  generalize List.range c.count = l
  suffices h : ∀ a : State × FabOp, (l.foldl _ a).1.island = a.1.island from h (c.s, o)
  induction l with
  | nil => intro a; rfl
  | cons h r ih =>
    intro a
    simp only [List.foldl_cons]
    rw [ih]
    split <;> simp
@[simp] theorem endDispatch_island (c : Ctx) (o : FabOp) (xs : Array Expert) (x : Scan) (l : List (Nat × Nat × Int)) :
    (endDispatch c o xs x l).s.island = c.s.island := by
  simp [endDispatch]
@[simp] theorem endCombine_island (c : Ctx) (o : FabOp) (xs : Array Expert) (x : Scan) (l : List (Nat × Nat × Int)) :
    (endCombine c o xs x l).s.island = c.s.island := by
  simp [endCombine]
@[simp] theorem openReceive_island (c : Ctx) (k : Nat) (s : State) : (openReceive c k s).island = s.island := by
  unfold openReceive
  split <;> simp
/-- What a look at an operation leaves of the state. -/
def Progress.island : Progress → List Instr × LifeState × Option Bool × Option Nat × Nat × Nat × Bool
  | .waits s _ => s.island
  | .ends e => e.s.island
theorem finishReduce_island (c : Ctx) (o : FabOp) : (finishReduce c o).island = c.s.island := by
  unfold finishReduce; dsimp only; split <;> simp [Progress.island]
theorem look_island (c : Ctx) (o : FabOp) : (look c o).island = c.s.island := by
  unfold look
  split
  · unfold lookGather; dsimp only; (repeat' split) <;> simp [Progress.island]
  · unfold lookOne; dsimp only; (repeat' split) <;> simp [Progress.island]
  · rfl
  · unfold lookOne; dsimp only; (repeat' split) <;> simp [Progress.island]
  · unfold lookDispatch lookDispatchRows; dsimp only; (repeat' split) <;> simp [Progress.island]
  · unfold lookCombine lookCombineRows; dsimp only; (repeat' split) <;> simp [Progress.island]
  · unfold lookReduce
    dsimp only
    split
    · split
      · rfl
      · split
        · rfl
        · rw [finishReduce_island]; simp
    · exact finishReduce_island c o
theorem look_waits_island (c : Ctx) (o o' : FabOp) (s : State) (h : look c o = .waits s o') : s.island = c.s.island := by
  have := look_island c o; rw [h] at this; exact this
theorem look_ends_island (c : Ctx) (o : FabOp) (e : Effect) (h : look c o = .ends e) : e.s.island = c.s.island := by
  have := look_island c o; rw [h] at this; exact this
@[simp] theorem startOp_island (k : Nat) (c : Ctx) : (startOp k c).s.island = c.s.island := by
  unfold startOp
  dsimp only
  split
  · rename_i h; simp [look_waits_island _ _ _ _ h]
  · rename_i h; simp [look_ends_island _ _ _ h]
@[simp] theorem State.pairSend_island (s : State) (m : Delivered) :
    (State.pairSend s m).island = s.island := by
  unfold State.pairSend; (try dsimp only)
  repeat' (first | with_reducible rfl | (simp; done) | split | (refine island_foldl _ ?_ _ _; intro s x))
@[simp] theorem release_island (s : State) (p : Nat) (n : Nat) (statuses : List Nat) (records : List (List Byte)) :
    (release s p n statuses records).island = s.island := by
  simp [release]
@[simp] theorem feed_island (s : State) (p : Nat) (o : FabOp) (x : Piece) : (feed s p o x).island = s.island := by
  unfold feed
  dsimp only
  split
  · rename_i h; simp [look_waits_island _ _ _ _ h, opCtx]
  · rename_i h; simp [look_ends_island _ _ _ h, opCtx]
@[simp] theorem refeed_island (s : State) (p slot : Nat) (x : Pairing) : (refeed s p slot x).island = s.island := by
  unfold refeed
  dsimp only
  split
  · split
    · rename_i h; simp [look_waits_island _ _ _ _ h, opCtx]
    · rename_i h; simp [look_ends_island _ _ _ h, opCtx]
  · rfl
@[simp] theorem feedSend_island (s : State) (p : Nat) (slot : Nat) (seq : Nat) (x : Piece) :
    (feedSend s p slot seq x).island = s.island := by
  simp [feedSend]
@[simp] theorem useFabric_island (k : Nat) (s : State) : (useFabric k s).island = s.island := by
  unfold useFabric
  split
  · rfl
  · rename_i m t ht
    have e := take_island _ _ _ _ ht
    dsimp only
    (repeat' split) <;> simp [e]
@[simp] theorem sendCopy_island (s : State) (p : Nat) (dest : Nat) (word : Nat) (b : List Byte) :
    (sendCopy s p dest word b).island = s.island := by
  simp [sendCopy]
@[simp] theorem sendCopyNote_island (s : State) (p : Nat) (dest : Nat) (word : Nat) :
    (sendCopyNote s p dest word).island = s.island := by
  simp [sendCopyNote]
@[simp] theorem noteCommit_island (c : Ctx) (f : Commit → Commit) : (noteCommit c f).island = c.s.island := by simp [noteCommit]
@[simp] theorem commitRun_island (c : Ctx) :
    (commitRun c).s.island = c.s.island := by
  unfold commitRun; (try dsimp only)
  repeat' (first | with_reducible rfl | (simp; done) | split | (refine island_foldl _ ?_ _ _; intro s x))
theorem withCopy_island (kind : Nat) (use : State → Nat → Delivered → State) (h : ∀ s p m, (use s p m).island = s.island)
    (s : State) : (withCopy kind use s).island = s.island := by
  unfold withCopy
  split
  · rfl
  · rename_i m t ht
    have e := take_island _ _ _ _ ht
    (repeat' split) <;> simp [h, e]
@[simp] theorem useImageData_island (s : State) (p : Nat) (m : Delivered) :
    (useImageData s p m).island = s.island := by
  simp [useImageData]
@[simp] theorem useImageAck_island (s : State) (p : Nat) (m : Delivered) :
    (useImageAck s p m).island = s.island := by
  simp [useImageAck]
@[simp] theorem sendNotice_island (s : State) (p : Nat) (b : List Byte) :
    (sendNotice s p b).island = s.island := by
  simp [sendNotice]
@[simp] theorem endRecovery_island (s : State) (p : Nat) :
    (endRecovery s p).island = s.island := by
  unfold endRecovery; (try dsimp only)
  repeat' (first | with_reducible rfl | (simp; done) | split | (refine island_foldl _ ?_ _ _; intro s x))
@[simp] theorem endCommit_island (s : State) (p : Nat) (statuses : List Nat) :
    (endCommit s p statuses).island = s.island := by
  unfold endCommit; (try dsimp only)
  repeat' (first | with_reducible rfl | (simp; done) | split | (refine island_foldl _ ?_ _ _; intro s x))
@[simp] theorem sealCommit_island (s : State) (p : Nat) (step : Nat) :
    (sealCommit s p step).island = s.island := by
  simp [sealCommit]
@[simp] theorem failReplay_island (s : State) (p : Nat) (lowest : Nat) :
    (failReplay s p lowest).island = s.island := by
  unfold failReplay; (try dsimp only)
  repeat' (first | with_reducible rfl | (simp; done) | split | (refine island_foldl _ ?_ _ _; intro s x))
@[simp] theorem finishBatch_island (j : Job) (l : List (Nat × Look)) :
    (finishBatch j l).s.island = j.c.s.island := by
  simp [finishBatch]
@[simp] theorem renameVictim_island (s : State) (p : Nat) (n : Nat) (m : Nat) :
    (renameVictim s p n m).island = s.island := by
  simp [renameVictim]
@[simp] theorem adoptBatch_island (s : State) (p : Nat) (n : Nat) (m : Nat) (b : Batch) :
    (adoptBatch s p n m b).island = s.island := by
  simp [adoptBatch]
@[simp] theorem drillRun_island (c : Ctx) :
    (drillRun c).s.island = c.s.island := by
  unfold drillRun
  dsimp only
  repeat' split
  all_goals simp
@[simp] theorem fillArea_island (s : State) (p : Nat) (o : Nat) (n : Nat) :
    (fillArea s p o n).island = s.island := by
  simp [fillArea]
@[simp] theorem settleBatch_island (s : State) (p : Nat) (n : Nat) :
    (settleBatch s p n).island = s.island := by
  unfold settleBatch; (try dsimp only)
  repeat' (first | with_reducible rfl | (simp; done) | split | (refine island_foldl _ ?_ _ _; intro s x))
@[simp] theorem sampleStep_island (s : State) (p : Nat) (n : Nat) (ok : Sample → Bool) (f : Sample → Sample) :
    (sampleStep s p n ok f).island = s.island := by
  simp [sampleStep]
@[simp] theorem State.turnTo_island (s : State) (video : Bool) (p : Nat) :
    (State.turnTo s video p).island = s.island := by
  simp [State.turnTo]
@[simp] theorem prepare_island (s : State) (p : Nat) (x : Stream) :
    (prepare s p x).island = s.island := by
  unfold prepare; (try dsimp only)
  repeat' (first | with_reducible rfl | (simp; done) | split | (refine island_foldl _ ?_ _ _; intro s x))
@[simp] theorem loadDictRun_island (c : Ctx) :
    (loadDictRun c).s.island = c.s.island := by
  simp [loadDictRun]
@[simp] theorem tokenizeRun_island (c : Ctx) :
    (tokenizeRun c).s.island = c.s.island := by
  simp [tokenizeRun]
@[simp] theorem State.modPrincipal_island (s : State) (p : Nat) (f : Principal → Principal) :
    (State.modPrincipal s p f).island = s.island := by
  simp [State.modPrincipal]
@[simp] theorem State.setKey_island (s : State) (p : Nat) (key : Option (List Byte)) :
    (State.setKey s p key).island = s.island := by
  simp [State.setKey]
@[simp] theorem arriveOn_island (s : State) (x : DictPath) :
    (arriveOn s x).island = s.island := by
  unfold arriveOn; (try dsimp only)
  repeat' (first | with_reducible rfl | (simp; done) | split | (refine island_foldl _ ?_ _ _; intro s x))
@[simp] theorem sendResponse_island (s : State) (x : DictPath) (b : List Byte) :
    (sendResponse s x b).island = s.island := by
  unfold sendResponse; (try dsimp only)
  repeat' (first | with_reducible rfl | (simp; done) | split | (refine island_foldl _ ?_ _ _; intro s x))
@[simp] theorem State.respond_island (s : State) (x : DictPath) (b : List Byte) :
    (State.respond s x b).island = s.island := by
  simp [State.respond]
@[simp] theorem refuse_island (s : State) (result : Nat) :
    (refuse s result).state.island = s.island := by
  simp [refuse]
@[simp] theorem done_island (s : State) :
    (done s).state.island = s.island := by
  simp [done]
@[simp] theorem refuse_state (s : State) (n : Nat) : (refuse s n).state = s := rfl
@[simp] theorem done_state (s : State) : (done s).state = s := rfl
@[simp] theorem doneIf_state (ok : Bool) (s t : State) : (doneIf ok s t).state = if ok then t else s := by
  unfold doneIf; split <;> rfl
@[simp] theorem countRefusal_island (s : State) (r : Req) :
    (countRefusal s r).island = s.island := by
  simp [countRefusal]
@[simp] theorem finish_island (r : Req) (k : Option (List Byte)) (a : Answer) : (finish r k a).island = a.state.island := by
  unfold finish; dsimp only; (repeat' split) <;> simp
@[simp] theorem State.readEntry_island (s : State) (k : Nat) :
    (State.readEntry s k).island = s.island := by
  simp [State.readEntry]
@[simp] theorem readEntry_island (s : State) (k : Nat) : (s.readEntry k).island = s.island := rfl
theorem readOne_island (s t : State) (r : Req) (n : Nat) (b : List Byte) (h : readOne s r n = some (b, t)) :
    t.island = s.island := by
  unfold readOne at h
  dsimp only at h
  repeat' split at h
  all_goals (cases h <;> simp)
@[simp] theorem readMore_island (r : Req) (n sub : Nat) (a : Answer) : (readMore r n sub a).state.island = a.state.island := by
  induction n generalizing sub a with
  | zero => rfl
  | succ n ih =>
    unfold readMore
    split
    · rfl
    · rename_i b t ht
      split
      · rfl
      · rw [ih]; exact readOne_island _ _ _ _ _ ht
@[simp] theorem readEffect_island (s : State) (r : Req) : (readEffect s r).state.island = s.island := by simp [readEffect]
@[simp] theorem describeMore_island (r : Req) (n sub : Nat) (a : Answer) :
    (describeMore r n sub a).state.island = a.state.island := by
  induction n generalizing sub a with
  | zero => rfl
  | succ n ih =>
    unfold describeMore
    split
    · rfl
    · split
      · rfl
      · rw [ih]
@[simp] theorem readShadowEffect_island (s : State) (r : Req) : (readShadowEffect s r).state.island = s.island := by
  unfold readShadowEffect
  dsimp only
  (repeat' split) <;> simp
@[simp] theorem discardEffect_island (s : State) (r : Req) :
    (discardEffect s r).state.island = s.island := by
  simp [discardEffect]
@[simp] theorem State.store_island (s : State) (r : Req) (v : Nat) :
    (State.store s r v).island = s.island := by
  unfold State.store; (try dsimp only)
  repeat' (first | with_reducible rfl | (simp; done) | split | (refine island_foldl _ ?_ _ _; intro s x))
@[simp] theorem State.fitQuota_island (s : State) (p : Nat) :
    (State.fitQuota s p).island = s.island := by
  simp [State.fitQuota]
@[simp] theorem State.askReleases_island (s : State) :
    (State.askReleases s).island = s.island := by
  simp [State.askReleases]
@[simp] theorem afterStore_island (s : State) (p : Nat) (index : Nat) (sub : Nat) (v : Nat) :
    (afterStore s p index sub v).island = s.island := by
  unfold afterStore; (try dsimp only)
  repeat' (first | with_reducible rfl | (simp; done) | split | (refine island_foldl _ ?_ _ _; intro s x))
@[simp] theorem State.define_island (s : State) (p : Nat) (slot : Nat) (b : List Byte) :
    (State.define s p slot b).island = s.island := by
  simp [State.define]
@[simp] theorem State.writeCertificate_island (s : State) (part : Nat) (b : List Byte) :
    (State.writeCertificate s part b).island = s.island := by
  simp [State.writeCertificate]
@[simp] theorem holdShadow_island (s : State) (r : Req) (v : Nat) (entries : List (List Byte)) :
    (holdShadow s r v entries).state.island = s.island := by
  simp [holdShadow]
@[simp] theorem State.retrainPort_island (s : State) (n : Nat) :
    (State.retrainPort s n).island = s.island := by
  simp [State.retrainPort]
@[simp] theorem portModeEffect_island (s : State) (r : Req) :
    (portModeEffect s r).state.island = s.island := by
  simp [portModeEffect]
@[simp] theorem State.disableLink_island (s : State) (n : Nat) :
    (State.disableLink s n).island = s.island := by
  simp [State.disableLink]
@[simp] theorem State.enableLink_island (s : State) (n : Nat) :
    (State.enableLink s n).island = s.island := by
  simp [State.enableLink]
@[simp] theorem linkEnableEffect_island (s : State) (r : Req) :
    (linkEnableEffect s r).state.island = s.island := by
  simp [linkEnableEffect]
@[simp] theorem State.fixCounters_island (s : State) (p : Nat) :
    (State.fixCounters s p).island = s.island := by
  simp [State.fixCounters]
@[simp] theorem counterFreezeEffect_island (s : State) (r : Req) :
    (counterFreezeEffect s r).state.island = s.island := by
  simp [counterFreezeEffect]
@[simp] theorem command_state (s : State) (r : Req) (ok : Bool) (t : State) :
    (command s r ok t).state = if r.num = 0 then s else if r.num == 1 && ok then t else s := by
  unfold command; split <;> simp
@[simp] theorem State.clearLog_island (s : State) : s.clearLog.island = s.island := by rfl
@[simp] theorem clearLogEffect_island (s : State) (r : Req) :
    (clearLogEffect s r).state.island = s.island := by
  simp [clearLogEffect]
@[simp] theorem clearDegradedEffect_island (s : State) (r : Req) :
    (clearDegradedEffect s r).state.island = s.island := by
  simp [clearDegradedEffect]
@[simp] theorem State.format_island (s : State) :
    (State.format s).island = s.island := by
  simp [State.format]
@[simp] theorem flashFormatEffect_island (s : State) (r : Req) :
    (flashFormatEffect s r).state.island = s.island := by
  simp [flashFormatEffect]
@[simp] theorem prepareShutdownEffect_island (s : State) (r : Req) :
    (prepareShutdownEffect s r).state.island = s.island := by
  simp [prepareShutdownEffect]
@[simp] theorem trimEffect_island (s : State) (r : Req) :
    (trimEffect s r).state.island = s.island := by
  simp [trimEffect]
@[simp] theorem sendControl_island (s : State) (p : Nat) (dest : Nat) (x : Control) :
    (sendControl s p dest x).island = s.island := by
  simp [sendControl]
@[simp] theorem haltProgram_island (p : Nat) (s : State) (pr : Program) :
    (haltProgram p s pr).island = s.island := by
  simp [haltProgram]
@[simp] theorem haltPaddock_island (s : State) (p : Nat) :
    (haltPaddock s p).island = s.island := by
  simp [haltPaddock]
@[simp] theorem giveUp_island (s : State) (p : Nat) (status : Nat) :
    (giveUp s p status).island = s.island := by
  simp [giveUp]
@[simp] theorem reform_island (s : State) (p : Nat) (slot : Nat) (definition : List Byte) (members : List Nat) :
    (reform s p slot definition members).island = s.island := by
  simp [reform]
@[simp] theorem askImage_island (s : State) (p : Nat) (step : Nat) (r : Recovery) (members : List Nat) :
    (askImage s p step r members).island = s.island := by
  simp [askImage]
@[simp] theorem pushImages_island (s : State) (p : Nat) (dest : Nat) (cls : Nat) (l : List (Option Image)) (statics : List Byte) :
    (pushImages s p dest cls l statics).island = s.island := by
  unfold pushImages; (try dsimp only)
  repeat' (first | with_reducible rfl | (simp; done) | split | (refine island_foldl _ ?_ _ _; intro s x))
@[simp] theorem refillStandbys_island (s : State) (p : Nat) (r : Recovery) (members : List Nat) :
    (refillStandbys s p r members).island = s.island := by
  simp [refillStandbys]
@[simp] theorem takePlan_island (s : State) (p : Nat) (x : Control) :
    (takePlan s p x).island = s.island := by
  unfold takePlan; (try dsimp only)
  repeat' (first | with_reducible rfl | (simp; done) | split | (refine island_foldl _ ?_ _ _; intro s x))
@[simp] theorem sendPlan_island (s : State) (p : Nat) :
    (sendPlan s p).island = s.island := by
  unfold sendPlan; (try dsimp only)
  repeat' (first | with_reducible rfl | (simp; done) | split | (refine island_foldl _ ?_ _ _; intro s x))
@[simp] theorem goPlan_island (s : State) (p : Nat) :
    (goPlan s p).island = s.island := by
  unfold goPlan; (try dsimp only)
  repeat' (first | with_reducible rfl | (simp; done) | split | (refine island_foldl _ ?_ _ _; intro s x))
@[simp] theorem fixFailed_island (s : State) (p : Nat) :
    (fixFailed s p).island = s.island := by
  unfold fixFailed; (try dsimp only)
  repeat' (first | with_reducible rfl | (simp; done) | split | (refine island_foldl _ ?_ _ _; intro s x))
@[simp] theorem addMember_island (s : State) (p : Nat) (m : MemberReport) :
    (addMember s p m).island = s.island := by
  unfold addMember; (try dsimp only)
  repeat' (first | with_reducible rfl | (simp; done) | split | (refine island_foldl _ ?_ _ _; intro s x))
@[simp] theorem lead_island (s : State) (p : Nat) :
    (lead s p).island = s.island := by
  simp [lead]
@[simp] theorem joinAttempt_island (s : State) (p : Nat) (x : Control) (suspect : Nat) :
    (joinAttempt s p x suspect).island = s.island := by
  unfold joinAttempt; (try dsimp only)
  repeat' (first | with_reducible rfl | (simp; done) | split | (refine island_foldl _ ?_ _ _; intro s x))
@[simp] theorem useCall_island (s : State) (p : Nat) (x : Control) :
    (useCall s p x).island = s.island := by
  unfold useCall; (try dsimp only)
  repeat' (first | with_reducible rfl | (simp; done) | split | (refine island_foldl _ ?_ _ _; intro s x))
@[simp] theorem placeCall_island (s : State) (p : Nat) :
    (placeCall s p).island = s.island := by
  unfold placeCall; (try dsimp only)
  repeat' (first | with_reducible rfl | (simp; done) | split | (refine island_foldl _ ?_ _ _; intro s x))
@[simp] theorem useStop_island (s : State) (p : Nat) (m : Delivered) (x : Control) :
    (useStop s p m x).island = s.island := by
  unfold useStop; (try dsimp only)
  repeat' (first | with_reducible rfl | (simp; done) | split | (refine island_foldl _ ?_ _ _; intro s x))
@[simp] theorem joinAsStandby_island (s : State) (p : Nat) (x : Control) (rank : Nat) :
    (joinAsStandby s p x rank).island = s.island := by
  simp [joinAsStandby]
@[simp] theorem usePullRequest_island (s : State) (p : Nat) (m : Delivered) :
    (usePullRequest s p m).island = s.island := by
  unfold usePullRequest; (try dsimp only)
  repeat' (first | with_reducible rfl | (simp; done) | split | (refine island_foldl _ ?_ _ _; intro s x))
@[simp] theorem usePullData_island (s : State) (p : Nat) (m : Delivered) :
    (usePullData s p m).island = s.island := by
  simp [usePullData]
@[simp] theorem restoreSwaths_island (s : State) (p : Nat) (t : Tensor) (codes : List Byte) :
    (restoreSwaths s p t codes).island = s.island := by
  unfold restoreSwaths; (try dsimp only)
  repeat' (first | with_reducible rfl | (simp; done) | split | (refine island_foldl _ ?_ _ _; intro s x))
@[simp] theorem restorePart_island (p : Nat) (s : State) (x : Part × List Byte) :
    (restorePart p s x).island = s.island := by
  unfold restorePart; (try dsimp only)
  repeat' (first | with_reducible rfl | (simp; done) | split | (refine island_foldl _ ?_ _ _; intro s x))
@[simp] theorem standbyGroups_island (s : State) (p : Nat) (r : Recovery) (jr : JobRecord) :
    (standbyGroups s p r jr).island = s.island := by
  simp [standbyGroups]
@[simp] theorem applyImage_island (s : State) (p : Nat) (r : Recovery) (b : List Byte) :
    (applyImage s p r b).island = s.island := by
  simp [applyImage]
@[simp] theorem endRestore_island (s : State) (p : Nat) (r : Recovery) :
    (endRestore s p r).island = s.island := by
  simp [endRestore]
@[simp] theorem abandonJob_island (s : State) (p : Nat) (status : Nat) :
    (abandonJob s p status).island = s.island := by
  simp [abandonJob]
@[simp] theorem State.clearCounters_island (s : State) (p : Nat) :
    (State.clearCounters s p).island = s.island := by
  simp [State.clearCounters]
@[simp] theorem State.createPaddock_island (s : State) (n : Nat) :
    (State.createPaddock s n).island = s.island := by
  simp [State.createPaddock]
@[simp] theorem paddockCreateEffect_island (s : State) (r : Req) :
    (paddockCreateEffect s r).state.island = s.island := by
  simp [paddockCreateEffect]
@[simp] theorem State.failQps_island (s : State) (p : Nat) :
    (State.failQps s p).island = s.island := by
  simp [State.failQps]
@[simp] theorem State.deletePaddock_island (s : State) (p : Nat) :
    (State.deletePaddock s p).island = s.island := by
  simp [State.deletePaddock]
@[simp] theorem paddockDeleteEffect_island (s : State) (r : Req) :
    (paddockDeleteEffect s r).state.island = s.island := by
  simp [paddockDeleteEffect]
@[simp] theorem allocationCreateEffect_island (s : State) (r : Req) :
    (allocationCreateEffect s r).state.island = s.island := by
  simp [allocationCreateEffect]
@[simp] theorem allocationReleaseEffect_island (s : State) (r : Req) :
    (allocationReleaseEffect s r).state.island = s.island := by
  unfold allocationReleaseEffect; (try dsimp only)
  repeat' (first | with_reducible rfl | (simp; done) | split | (refine island_foldl _ ?_ _ _; intro s x))
@[simp] theorem allocationUpdateEffect_island (s : State) (r : Req) :
    (allocationUpdateEffect s r).state.island = s.island := by
  unfold allocationUpdateEffect; (try dsimp only)
  repeat' (first | with_reducible rfl | (simp; done) | split | (refine island_foldl _ ?_ _ _; intro s x))
@[simp] theorem qpReadyEffect_island (s : State) (r : Req) : (qpReadyEffect s r).state.island = s.island := by
  unfold qpReadyEffect; dsimp only; split <;> simp
@[simp] theorem State.resetQp_island (s : State) (q : Nat) :
    (State.resetQp s q).island = s.island := by
  simp [State.resetQp]
@[simp] theorem qpResetEffect_island (s : State) (r : Req) :
    (qpResetEffect s r).state.island = s.island := by
  simp [qpResetEffect]
@[simp] theorem groupFormEffect_island (s : State) (r : Req) :
    (groupFormEffect s r).state.island = s.island := by
  simp [groupFormEffect]
@[simp] theorem groupDissolveEffect_island (s : State) (r : Req) :
    (groupDissolveEffect s r).state.island = s.island := by
  simp [groupDissolveEffect]
@[simp] theorem directoryCopyEffect_island (s : State) (r : Req) :
    (directoryCopyEffect s r).state.island = s.island := by
  simp [directoryCopyEffect]
@[simp] theorem directoryCanonicalEffect_island (s : State) (r : Req) :
    (directoryCanonicalEffect s r).state.island = s.island := by
  simp [directoryCanonicalEffect]
@[simp] theorem directoryDumpEffect_island (s : State) (r : Req) :
    (directoryDumpEffect s r).state.island = s.island := by
  simp [directoryDumpEffect]
@[simp] theorem State.modLife_island (s : State) (f : Life → Life) (h : ∀ l, (f l).state = l.state)
    (k : ∀ l, (f l).transition = l.transition) (m : ∀ l, (f l).privateKey = l.privateKey) :
    (s.modLife f).island = s.island := by
  show (s.pending, (f s.life).state, (f s.life).transition, (f s.life).privateKey, s.firmware.floor,
    s.firmware.stepsLeft, s.power.running) = s.island
  rw [h, k, m]; rfl
@[simp] theorem State.defaultSettings_island (s : State) :
    (State.defaultSettings s).island = s.island := by
  simp [State.defaultSettings]
@[simp] theorem State.eraseFlash_island (s : State) :
    (State.eraseFlash s).island = s.island := by
  simp [State.eraseFlash]
@[simp] theorem keyRefused_island (s : State) :
    (keyRefused s).state.island = s.island := by
  simp [keyRefused]
@[simp] theorem State.setOwner_island (s : State) (key : List Byte) :
    (State.setOwner s key).island = s.island := by
  simp [State.setOwner]
@[simp] theorem ownerKeyEffect_island (s : State) (r : Req) :
    (ownerKeyEffect s r).state.island = s.island := by
  unfold ownerKeyEffect; (try dsimp only)
  repeat' (first | with_reducible rfl | (simp; done) | split | (refine island_foldl _ ?_ _ _; intro s x))
@[simp] theorem tenantKeyEffect_island (s : State) (r : Req) :
    (tenantKeyEffect s r).state.island = s.island := by
  unfold tenantKeyEffect; (try dsimp only)
  repeat' (first | with_reducible rfl | (simp; done) | split | (refine island_foldl _ ?_ _ _; intro s x))
@[simp] theorem nonceEffect_island (s : State) (r : Req) :
    (nonceEffect s r).state.island = s.island := by
  simp [nonceEffect]
@[simp] theorem State.beginBist_island (s : State) :
    (State.beginBist s).island = s.island := by
  simp [State.beginBist]
@[simp] theorem bistStartEffect_island (s : State) (x1 : Req) :
    (bistStartEffect s x1).state.island = s.island := by
  simp [bistStartEffect]
@[simp] theorem State.portsBack_island (s : State) :
    (State.portsBack s).island = s.island := by
  simp [State.portsBack]
@[simp] theorem bistAbortEffect_island (s : State) (x1 : Req) :
    (bistAbortEffect s x1).state.island = s.island := by
  simp [bistAbortEffect]
@[simp] theorem State.portsDown_island (s : State) :
    (State.portsDown s).island = s.island := by
  simp [State.portsDown]
@[simp] theorem State.dropRecords_island (s : State) :
    (State.dropRecords s).island = s.island := by
  simp [State.dropRecords]
@[simp] theorem State.retireFailed_island (s : State) (u : UnitId) :
    (State.retireFailed s u).island = s.island := by
  unfold State.retireFailed; (try dsimp only)
  repeat' (first | with_reducible rfl | (simp; done) | split | (refine island_foldl _ ?_ _ _; intro s x))
@[simp] theorem convWith_island (c : Ctx) (w : Work → Work) : (convWith c w).s.island = c.s.island := by simp [convWith]
@[simp] theorem convGradRun_island (c : Ctx) :
    (convGradRun c).s.island = c.s.island := by
  simp [convGradRun]
@[simp] theorem poolRun_island (c : Ctx) :
    (poolRun c).s.island = c.s.island := by
  unfold poolRun; (try dsimp only)
  repeat' (first | with_reducible rfl | (simp; done) | split | (refine island_foldl _ ?_ _ _; intro s x))
@[simp] theorem boxdecodeRun_island (c : Ctx) :
    (boxdecodeRun c).s.island = c.s.island := by
  simp [boxdecodeRun]
@[simp] theorem suppressRun_island (c : Ctx) :
    (suppressRun c).s.island = c.s.island := by
  simp [suppressRun]
@[simp] theorem flashWrites_island (s : State) (p : Nat) (a : Nat) (n : Nat) :
    (flashWrites s p a n).island = s.island := by
  simp [flashWrites]
@[simp] theorem moveRun_island (c : Ctx) :
    (moveRun c).s.island = c.s.island := by
  simp [moveRun]
@[simp] theorem elemRun_island (c : Ctx) :
    (elemRun c).s.island = c.s.island := by
  simp [elemRun]
@[simp] theorem reduceRun_island (c : Ctx) :
    (reduceRun c).s.island = c.s.island := by
  simp [reduceRun]
@[simp] theorem statsRun_island (c : Ctx) :
    (statsRun c).s.island = c.s.island := by
  unfold statsRun; (try dsimp only)
  repeat' (first | with_reducible rfl | (simp; done) | split | (refine island_foldl _ ?_ _ _; intro s x))
@[simp] theorem State.modFirmware_island (s : State) (f : Firmware → Firmware)
    (h : ∀ x, (f x).floor = x.floor) (k : ∀ x, (f x).stepsLeft = x.stepsLeft) :
    (s.modFirmware f).island = s.island := by
  show (s.pending, s.life.state, s.life.transition, s.life.privateKey, (f s.firmware).floor,
    (f s.firmware).stepsLeft, s.power.running) = s.island
  rw [h, k]; rfl
@[simp] theorem Firmware.abandon_island (s : State) : (s.modFirmware fun f => f.abandon).island = s.island := rfl
@[simp] theorem logBoot_island (s : State) (slot : Nat) (check : Nat) :
    (logBoot s slot check).island = s.island := by
  simp [logBoot]
@[simp] theorem runSlot_island (s : State) (n : Nat) (result : Nat) :
    (runSlot s n result).island = s.island := by
  simp [runSlot]
@[simp] theorem updateBeginEffect_island (s : State) (r : Req) :
    (updateBeginEffect s r).state.island = s.island := by
  simp [updateBeginEffect]
theorem Firmware.put_steady (f : Firmware) (b : List Byte) :
    (f.put b).floor = f.floor ∧ (f.put b).stepsLeft = f.stepsLeft := by
  unfold Firmware.put Firmware.setInactive; split <;> exact ⟨rfl, rfl⟩
theorem decodeRecords_steady (n : Nat) (f g : Firmware) (h : decodeRecords n f = some g) :
    g.floor = f.floor ∧ g.stepsLeft = f.stepsLeft := by
  induction n generalizing f with
  | zero => cases h; exact ⟨rfl, rfl⟩
  | succ n ih =>
    unfold decodeRecords at h
    dsimp only at h
    repeat' split at h
    all_goals first | (cases h <;> exact ⟨rfl, rfl⟩) | exact ⟨(ih _ h).1.trans (Firmware.put_steady _ _).1, (ih _ h).2.trans (Firmware.put_steady _ _).2⟩
@[simp] theorem updateChunkEffect_island (s : State) (r : Req) :
    (updateChunkEffect s r).state.island = s.island := by
  unfold updateChunkEffect
  dsimp only
  split
  · rfl
  · split
    · rename_i g hg
      have e := decodeRecords_steady _ _ _ hg
      show (s.pending, s.life.state, s.life.transition, s.life.privateKey, g.floor, g.stepsLeft,
        s.power.running) = s.island
      rw [e.1, e.2]; rfl
    · simp
@[simp] theorem updateFinishEffect_island (s : State) (r : Req) :
    (updateFinishEffect s r).state.island = s.island := by
  simp [updateFinishEffect]
@[simp] theorem updateActivateEffect_island (s : State) (r : Req) :
    (updateActivateEffect s r).state.island = s.island := by
  simp [updateActivateEffect]
@[simp] theorem updateAbortEffect_island (s : State) (r : Req) :
    (updateAbortEffect s r).state.island = s.island := by
  simp [updateAbortEffect]
@[simp] theorem rescueChunkEffect_island (s : State) (r : Req) :
    (rescueChunkEffect s r).state.island = s.island := by
  simp [rescueChunkEffect]
@[simp] theorem appendJob_island (c : Ctx) (kv : Array Val) (a : AppendState) (j : PageJob) :
    (appendJob c kv a j).s.island = a.s.island := by
  unfold appendJob; dsimp only; split <;> simp
theorem appendJobs_island (c : Ctx) (f : PageJob → Array Val) (l : List PageJob) (a : AppendState) :
    (l.foldl (fun a j => appendJob c (f j) a j) a).s.island = a.s.island := by
  induction l generalizing a with
  | nil => rfl
  | cons j r ih => simp [ih]
@[simp] theorem bumpLengths_island (c : Ctx) (s : State) (l : List Seq) : (bumpLengths c s l).island = s.island := by
  simp [bumpLengths]
@[simp] theorem kvAppendRun_island (c : Ctx) : (kvAppendRun c).s.island = c.s.island := by
  unfold kvAppendRun
  dsimp only
  split
  · simp
  · split <;> simp [appendJobs_island]
@[simp] theorem kvFreeRun_island (c : Ctx) :
    (kvFreeRun c).s.island = c.s.island := by
  unfold kvFreeRun; (try dsimp only)
  repeat' (first | with_reducible rfl | (simp; done) | split | (refine island_foldl _ ?_ _ _; intro s x))
@[simp] theorem kvForkRun_island (c : Ctx) :
    (kvForkRun c).s.island = c.s.island := by
  unfold kvForkRun; (try dsimp only)
  repeat' (first | with_reducible rfl | (simp; done) | split | (refine island_foldl _ ?_ _ _; intro s x))
@[simp] theorem normFwdRun_island (c : Ctx) :
    (normFwdRun c).s.island = c.s.island := by
  simp [normFwdRun]
@[simp] theorem normBwdRun_island (c : Ctx) :
    (normBwdRun c).s.island = c.s.island := by
  simp [normBwdRun]
@[simp] theorem softFwdRun_island (c : Ctx) :
    (softFwdRun c).s.island = c.s.island := by
  simp [softFwdRun]
@[simp] theorem softBwdRun_island (c : Ctx) :
    (softBwdRun c).s.island = c.s.island := by
  simp [softBwdRun]
@[simp] theorem updateRun_island (c : Ctx) :
    (updateRun c).s.island = c.s.island := by
  simp [updateRun]
@[simp] theorem tickCounter_island (n : Nat) (s : State) (e : Nat × Nat) : (tickCounter n s e).island = s.island := by
  unfold tickCounter
  dsimp only
  generalize (passes _ _ _ && _ && _) = b
  cases b
  · rfl
  · exact State.bumpCounter_island _ _ _ _ _ _
@[simp] theorem State.countCycles_island (s : State) (n : Nat) :
    (State.countCycles s n).island = s.island := by
  simp [State.countCycles]
@[simp] theorem State.plotCycle_island (k : Nat) (q : Nat) (s : State) :
    (State.plotCycle k q s).island = s.island := by
  simp [State.plotCycle]
@[simp] theorem State.plotCycles_island (k q n : Nat) (s : State) : (State.plotCycles k q n s).island = s.island := by
  induction n generalizing s with
  | zero => rfl
  | succ n ih => simp [State.plotCycles, ih]
@[simp] theorem State.runStrip_island (n : Nat) (s : State) (k : Nat) :
    (State.runStrip n s k).island = s.island := by
  simp [State.runStrip]
@[simp] theorem State.endPauses_island (s : State) :
    (State.endPauses s).island = s.island := by
  simp [State.endPauses]
@[simp] theorem Power.tick_running (w : Power) : w.tick.running = w.running := by
  unfold Power.tick; (repeat' split) <;> rfl
@[simp] theorem State.tick_island (s : State) : ({ s with time := s.time.tick, power := s.power.tick } : State).island = s.island := by
  simp
@[simp] theorem idle_island (s : State) :
    (idle s).island = s.island := by
  unfold idle
  split
  · rfl
  · simp

end Sys2Proof.Machine
end

