-- ==== Sys2Proof/Laws/Memory.lean ====
section
/-! SUPPORT. The laws of the memories: a read after a write, the canonical form that every operation
keeps, and what a write leaves alone. -/

namespace Sys2Proof.Machine

/-! ### One byte -/

theorem memRead_memWrite_other (z : Byte) (m : Mem) (a c : Nat) (b : Byte) (h : a ≠ c) :
    memRead z (memWrite z m a b) c = memRead z m c := by
  induction m with
  | nil => unfold memWrite; split <;> simp [memRead, h]
  | cons e r ih =>
    unfold memWrite
    split
    · split <;> simp [memRead, h]
    · split
      · rename_i _ h2
        have h3 : ¬ e.1 = c := fun h4 => h (h2.trans h4)
        split <;> simp [memRead, h, h3]
      · simp only [memRead]; split
        · rfl
        · exact ih

theorem memSorted_weaken (z : Byte) (lo lo' : Nat) (m : Mem) (h : lo' ≤ lo) (hm : memSorted z lo m) :
    memSorted z lo' m := by
  cases m with
  | nil => rfl
  | cons e r =>
    simp only [memSorted, Bool.and_eq_true, Nat.ble_eq] at hm ⊢
    exact ⟨⟨Nat.le_trans h hm.1.1, hm.1.2⟩, hm.2⟩

/-- Below its first cell a sorted memory reads as unlisted. -/
theorem memRead_below (z : Byte) (lo : Nat) (m : Mem) (hm : memSorted z lo m) (a : Nat) (h : a < lo) :
    memRead z m a = z := by
  induction m generalizing lo with
  | nil => rfl
  | cons e r ih =>
    simp only [memSorted, Bool.and_eq_true, Nat.ble_eq] at hm
    have h1 : ¬ e.1 = a := by have := hm.1.1; omega
    simp only [memRead, h1, if_false]
    exact ih (e.1 + 1) hm.2 (by have := hm.1.1; omega)

theorem memRead_memWrite_same (z : Byte) (lo : Nat) (m : Mem) (hm : memSorted z lo m) (a : Nat) (b : Byte) :
    memRead z (memWrite z m a b) a = b := by
  induction m generalizing lo with
  | nil =>
    unfold memWrite; split
    · simp_all [memRead]
    · simp [memRead]
  | cons e r ih =>
    simp only [memSorted, Bool.and_eq_true, Nat.ble_eq] at hm
    unfold memWrite
    split
    · rename_i h1
      split
      · rename_i h2
        have h3 : ¬ e.1 = a := by omega
        simp only [memRead, h3, if_false, h2]
        exact memRead_below z _ r hm.2 a (by omega)
      · simp [memRead]
    · split
      · rename_i _ h2
        split
        · rename_i h3
          rw [h3]; exact memRead_below z _ r hm.2 a (by omega)
        · simp [memRead]
      · rename_i h1 h2
        have h3 : ¬ e.1 = a := fun h => h2 h.symm
        simp only [memRead, h3, if_false]
        exact ih _ hm.2

theorem memSorted_memWrite (z : Byte) (lo : Nat) (m : Mem) (hm : memSorted z lo m) (a : Nat) (b : Byte)
    (h : lo ≤ a) : memSorted z lo (memWrite z m a b) := by
  induction m generalizing lo with
  | nil =>
    unfold memWrite; split
    · rfl
    · rename_i hb; simp [memSorted, h, hb]
  | cons e r ih =>
    have h0 := hm
    simp only [memSorted, Bool.and_eq_true, Nat.ble_eq] at hm
    unfold memWrite
    split
    · rename_i h1
      split
      · exact h0
      · rename_i hb
        simp only [memSorted, Bool.and_eq_true, Nat.ble_eq]
        exact ⟨⟨h, by simpa using hb⟩, ⟨h1, hm.1.2⟩, hm.2⟩
    · split
      · rename_i h1 h2
        split
        · exact memSorted_weaken z (e.1 + 1) lo r (by omega) hm.2
        · rename_i hb
          simp only [memSorted, Bool.and_eq_true, Nat.ble_eq]
          exact ⟨⟨h, by simpa using hb⟩, by rw [h2]; exact hm.2⟩
      · rename_i h1 h2
        simp only [memSorted, Bool.and_eq_true, Nat.ble_eq]
        exact ⟨hm.1, ih _ hm.2 (by omega)⟩

/-! ### Many bytes -/

theorem wf_memWrite (z : Byte) (m : Mem) (hm : Memory.wf z m) (a : Nat) (b : Byte) :
    Memory.wf z (memWrite z m a b) := memSorted_memWrite z 0 m hm a b (Nat.zero_le a)

theorem wf_memWrites (z : Byte) (m : Mem) (hm : Memory.wf z m) (ws : List (Nat × Byte)) :
    Memory.wf z (memWrites z m ws) := by
  induction ws with
  | nil => exact hm
  | cons w r ih => exact wf_memWrite z _ ih _ _

theorem memSorted_filter (z : Byte) (lo : Nat) (m : Mem) (hm : memSorted z lo m) (f : Host.Cell → Bool) :
    memSorted z lo (m.filter f) := by
  induction m generalizing lo with
  | nil => rfl
  | cons e r ih =>
    simp only [memSorted, Bool.and_eq_true, Nat.ble_eq] at hm
    rw [List.filter_cons]
    split
    · simp only [memSorted, Bool.and_eq_true, Nat.ble_eq]
      exact ⟨hm.1, ih _ hm.2⟩
    · exact memSorted_weaken z (e.1 + 1) lo _ (by omega) (ih _ hm.2)

theorem wf_memClear (z : Byte) (m : Mem) (hm : Memory.wf z m) (a n : Nat) : Memory.wf z (memClear m a n) :=
  memSorted_filter z 0 m hm _

theorem wf_nil (z : Byte) : Memory.wf z [] := rfl

/-- Addresses that no write of a list names read as before. -/
theorem memRead_memWrites_other (z : Byte) (m : Mem) (ws : List (Nat × Byte)) (a : Nat)
    (h : ∀ w ∈ ws, w.1 ≠ a) : memRead z (memWrites z m ws) a = memRead z m a := by
  induction ws with
  | nil => rfl
  | cons w r ih =>
    have h1 := h w (by simp)
    show memRead z (memWrite z (memWrites z m r) w.1 w.2) a = _
    rw [memRead_memWrite_other z _ _ _ _ h1]
    exact ih fun x hx => h x (by simp [hx])

/-- The first write of a list that names an address is the one that a read sees. -/
theorem memRead_memWrites_first (z : Byte) (m : Mem) (hm : Memory.wf z m) (ws : List (Nat × Byte)) (a : Nat)
    (b : Byte) (h : ws.find? (fun w => w.1 == a) = some (a, b)) :
    memRead z (memWrites z m ws) a = b := by
  induction ws with
  | nil => simp at h
  | cons w r ih =>
    show memRead z (memWrite z (memWrites z m r) w.1 w.2) a = b
    rw [List.find?_cons] at h
    split at h
    · cases h; exact memRead_memWrite_same z 0 _ (wf_memWrites z m hm r) _ _
    · rename_i h1
      rw [memRead_memWrite_other z _ _ _ _ (by simpa using h1)]
      exact ih h

/-- A cleared range reads as unlisted; every other address as before. -/
theorem memRead_memClear (z : Byte) (m : Mem) (hm : Memory.wf z m) (a n c : Nat) :
    memRead z (memClear m a n) c = if a ≤ c ∧ c < a + n then z else memRead z m c := by
  have key : ∀ (lo : Nat) (m : Mem), memSorted z lo m → memRead z (memClear m a n) c =
      if a ≤ c ∧ c < a + n then z else memRead z m c := by
    intro lo m
    induction m generalizing lo with
    | nil => intro _; simp [memClear, memRead]
    | cons e r ih =>
      intro h
      simp only [memSorted, Bool.and_eq_true, Nat.ble_eq] at h
      have ih := ih _ h.2
      simp only [memClear] at ih ⊢
      rw [List.filter_cons]
      by_cases hk : e.1 < a ∨ a + n ≤ e.1
      · simp only [hk, Bool.or_eq_true, decide_eq_true_eq, if_true, memRead]
        rw [ih]
        by_cases hc : e.1 = c
        · have : ¬ (a ≤ c ∧ c < a + n) := by omega
          simp [hc, this]
        · simp [hc]
      · simp only [hk, Bool.or_eq_true, decide_eq_true_eq, if_false, memRead]
        rw [ih]
        by_cases hc : e.1 = c
        · have : a ≤ c ∧ c < a + n := by omega
          simp [this]
        · simp [hc]
  exact key 0 m hm

/-! ### Bytes placed at an address -/

theorem placeAt_cons (a : Nat) (b : Byte) (r : List Byte) : placeAt a (b :: r) = (a, b) :: placeAt (a + 1) r := by
  unfold placeAt
  rw [List.zipIdx_cons']
  simp [Nat.add_assoc, Nat.add_comm 1]

theorem mem_placeAt (a : Nat) (bs : List Byte) (w : Nat × Byte) (h : w ∈ placeAt a bs) :
    a ≤ w.1 ∧ w.1 < a + bs.length := by
  induction bs generalizing a with
  | nil => simp [placeAt] at h
  | cons b r ih =>
    rw [placeAt_cons] at h
    rcases List.mem_cons.mp h with h | h
    · subst h; simp
    · have := ih _ h; simp; omega

theorem find_placeAt (a : Nat) (bs : List Byte) (i : Nat) (h : i < bs.length) :
    (placeAt a bs).find? (fun w => w.1 == a + i) = some (a + i, bs[i]) := by
  induction bs generalizing a i with
  | nil => simp at h
  | cons b r ih =>
    rw [placeAt_cons, List.find?_cons]
    cases i with
    | zero => simp
    | succ k =>
      have h2 : a + (k + 1) = a + 1 + k := by omega
      have h1 : (a == a + 1 + k) = false := by simp; omega
      simp only [h2, h1]
      rw [ih (a + 1) k (by simpa using h)]
      simp

/-- Bytes placed at an address are read back from it. -/
theorem memBytes_placeAt (z : Byte) (m : Mem) (hm : Memory.wf z m) (a : Nat) (bs : List Byte) :
    memBytes z (memWrites z m (placeAt a bs)) a bs.length = bs := by
  apply List.ext_getElem
  · simp [memBytes]
  · intro i h1 h2
    simp only [memBytes, List.getElem_map, List.getElem_range]
    exact memRead_memWrites_first z m hm _ _ _ (find_placeAt a bs i h2)

/-- Outside the placed bytes a memory reads as before. -/
theorem memRead_placeAt_other (z : Byte) (m : Mem) (a : Nat) (bs : List Byte) (c : Nat)
    (h : c < a ∨ a + bs.length ≤ c) : memRead z (memWrites z m (placeAt a bs)) c = memRead z m c :=
  memRead_memWrites_other z m _ c fun w hw => by have := mem_placeAt a bs w hw; omega

/-! ### The memories of a paddock through its windows (R97, R467) -/

/-- A paddock after bytes were written, its own or another. -/
theorem State.pad_writeBytes (s : State) (p : Nat) (ws : List (Nat × Byte)) :
    (s.writeBytes p ws).pad = (s.modPad p fun d =>
      { d with hbm := memWrites 0 d.hbm (ws.filter fun x => windowOf x.1 == some .hbm),
               cxl := memWrites 0 d.cxl (ws.filter fun x => windowOf x.1 == some .cxl),
               bad := heal d.bad ((ws.filter fun x => windowOf x.1 == some .hbm).map (·.1)) }).pad := rfl

theorem wf_hbm_writeBytes (s : State) (p : Nat) (ws : List (Nat × Byte)) (q : Nat)
    (h : Memory.wf 0 (s.pad q).hbm) : Memory.wf 0 ((s.writeBytes p ws).pad q).hbm := by
  rw [State.pad_writeBytes]
  by_cases hp : p = q
  · subst hp
    by_cases h8 : p < 8
    · rw [State.pad_modPad_same _ _ _ h8]; exact wf_memWrites 0 _ h _
    · rw [State.pad_beyond _ _ (by omega)]; rfl
  · rw [State.pad_modPad_other _ _ _ _ hp]; exact h

theorem wf_cxl_writeBytes (s : State) (p : Nat) (ws : List (Nat × Byte)) (q : Nat)
    (h : Memory.wf 0 (s.pad q).cxl) : Memory.wf 0 ((s.writeBytes p ws).pad q).cxl := by
  rw [State.pad_writeBytes]
  by_cases hp : p = q
  · subst hp
    by_cases h8 : p < 8
    · rw [State.pad_modPad_same _ _ _ h8]; exact wf_memWrites 0 _ h _
    · rw [State.pad_beyond _ _ (by omega)]; rfl
  · rw [State.pad_modPad_other _ _ _ _ hp]; exact h

theorem wf_flash_writeBytes (s : State) (p : Nat) (ws : List (Nat × Byte))
    (h : Memory.wf 0 s.tiers.flash) : Memory.wf 0 (s.writeBytes p ws).tiers.flash :=
  wf_memWrites 0 _ h _

end Sys2Proof.Machine
end

