-- ==== Sys2Proof/Laws/Updates.lean ====
section
/-! SUPPORT. What the updates of one part of the state leave as it was, field by field. -/

namespace Sys2Proof.Machine

/-! ### Queue pairs -/
@[simp] theorem State.setQp_pending (s : State) (x : QueuePair) :
    (s.setQp x).pending = s.pending := rfl
@[simp] theorem State.setQp_out (s : State) (x : QueuePair) :
    (s.setQp x).out = s.out := rfl
@[simp] theorem State.setQp_free (s : State) (x : QueuePair) :
    (s.setQp x).free = s.free := rfl
@[simp] theorem State.setQp_objs (s : State) (x : QueuePair) :
    (s.setQp x).objs = s.objs := rfl
@[simp] theorem State.setQp_strips (s : State) (x : QueuePair) :
    (s.setQp x).strips = s.strips := rfl
@[simp] theorem State.setQp_videoTurn (s : State) (x : QueuePair) :
    (s.setQp x).videoTurn = s.videoTurn := rfl
@[simp] theorem State.setQp_imageTurn (s : State) (x : QueuePair) :
    (s.setQp x).imageTurn = s.imageTurn := rfl
@[simp] theorem State.setQp_controlNumber (s : State) (x : QueuePair) :
    (s.setQp x).controlNumber = s.controlNumber := rfl
@[simp] theorem State.setQp_paddocks (s : State) (x : QueuePair) :
    (s.setQp x).paddocks = s.paddocks := rfl
@[simp] theorem State.setQp_pauses (s : State) (x : QueuePair) :
    (s.setQp x).pauses = s.pauses := rfl
@[simp] theorem State.setQp_outbox (s : State) (x : QueuePair) :
    (s.setQp x).outbox = s.outbox := rfl
@[simp] theorem State.setQp_rcTurns (s : State) (x : QueuePair) :
    (s.setQp x).rcTurns = s.rcTurns := rfl
@[simp] theorem State.setQp_links (s : State) (x : QueuePair) :
    (s.setQp x).links = s.links := rfl
@[simp] theorem State.setQp_inbox (s : State) (x : QueuePair) :
    (s.setQp x).inbox = s.inbox := rfl
@[simp] theorem State.setQp_seen (s : State) (x : QueuePair) :
    (s.setQp x).seen = s.seen := rfl
@[simp] theorem State.setQp_time (s : State) (x : QueuePair) :
    (s.setQp x).time = s.time := rfl
@[simp] theorem State.setQp_directory (s : State) (x : QueuePair) :
    (s.setQp x).directory = s.directory := rfl
@[simp] theorem State.setQp_requests (s : State) (x : QueuePair) :
    (s.setQp x).requests = s.requests := rfl
@[simp] theorem State.setQp_life (s : State) (x : QueuePair) :
    (s.setQp x).life = s.life := rfl
@[simp] theorem State.setQp_firmware (s : State) (x : QueuePair) :
    (s.setQp x).firmware = s.firmware := rfl
@[simp] theorem State.setQp_power (s : State) (x : QueuePair) :
    (s.setQp x).power = s.power := rfl
@[simp] theorem State.setQp_bist (s : State) (x : QueuePair) :
    (s.setQp x).bist = s.bist := rfl
@[simp] theorem State.setQp_faults (s : State) (x : QueuePair) :
    (s.setQp x).faults = s.faults := rfl
@[simp] theorem State.setQp_tiers (s : State) (x : QueuePair) :
    (s.setQp x).tiers = s.tiers := rfl

/-! ### A queue pair -/
@[simp] theorem State.modQp_pending (s : State) (q : Nat) (f : QueuePair → QueuePair) :
    (s.modQp q f).pending = s.pending := rfl
@[simp] theorem State.modQp_out (s : State) (q : Nat) (f : QueuePair → QueuePair) :
    (s.modQp q f).out = s.out := rfl
@[simp] theorem State.modQp_free (s : State) (q : Nat) (f : QueuePair → QueuePair) :
    (s.modQp q f).free = s.free := rfl
@[simp] theorem State.modQp_objs (s : State) (q : Nat) (f : QueuePair → QueuePair) :
    (s.modQp q f).objs = s.objs := rfl
@[simp] theorem State.modQp_strips (s : State) (q : Nat) (f : QueuePair → QueuePair) :
    (s.modQp q f).strips = s.strips := rfl
@[simp] theorem State.modQp_videoTurn (s : State) (q : Nat) (f : QueuePair → QueuePair) :
    (s.modQp q f).videoTurn = s.videoTurn := rfl
@[simp] theorem State.modQp_imageTurn (s : State) (q : Nat) (f : QueuePair → QueuePair) :
    (s.modQp q f).imageTurn = s.imageTurn := rfl
@[simp] theorem State.modQp_controlNumber (s : State) (q : Nat) (f : QueuePair → QueuePair) :
    (s.modQp q f).controlNumber = s.controlNumber := rfl
@[simp] theorem State.modQp_paddocks (s : State) (q : Nat) (f : QueuePair → QueuePair) :
    (s.modQp q f).paddocks = s.paddocks := rfl
@[simp] theorem State.modQp_pauses (s : State) (q : Nat) (f : QueuePair → QueuePair) :
    (s.modQp q f).pauses = s.pauses := rfl
@[simp] theorem State.modQp_outbox (s : State) (q : Nat) (f : QueuePair → QueuePair) :
    (s.modQp q f).outbox = s.outbox := rfl
@[simp] theorem State.modQp_rcTurns (s : State) (q : Nat) (f : QueuePair → QueuePair) :
    (s.modQp q f).rcTurns = s.rcTurns := rfl
@[simp] theorem State.modQp_links (s : State) (q : Nat) (f : QueuePair → QueuePair) :
    (s.modQp q f).links = s.links := rfl
@[simp] theorem State.modQp_inbox (s : State) (q : Nat) (f : QueuePair → QueuePair) :
    (s.modQp q f).inbox = s.inbox := rfl
@[simp] theorem State.modQp_seen (s : State) (q : Nat) (f : QueuePair → QueuePair) :
    (s.modQp q f).seen = s.seen := rfl
@[simp] theorem State.modQp_time (s : State) (q : Nat) (f : QueuePair → QueuePair) :
    (s.modQp q f).time = s.time := rfl
@[simp] theorem State.modQp_directory (s : State) (q : Nat) (f : QueuePair → QueuePair) :
    (s.modQp q f).directory = s.directory := rfl
@[simp] theorem State.modQp_requests (s : State) (q : Nat) (f : QueuePair → QueuePair) :
    (s.modQp q f).requests = s.requests := rfl
@[simp] theorem State.modQp_life (s : State) (q : Nat) (f : QueuePair → QueuePair) :
    (s.modQp q f).life = s.life := rfl
@[simp] theorem State.modQp_firmware (s : State) (q : Nat) (f : QueuePair → QueuePair) :
    (s.modQp q f).firmware = s.firmware := rfl
@[simp] theorem State.modQp_power (s : State) (q : Nat) (f : QueuePair → QueuePair) :
    (s.modQp q f).power = s.power := rfl
@[simp] theorem State.modQp_bist (s : State) (q : Nat) (f : QueuePair → QueuePair) :
    (s.modQp q f).bist = s.bist := rfl
@[simp] theorem State.modQp_faults (s : State) (q : Nat) (f : QueuePair → QueuePair) :
    (s.modQp q f).faults = s.faults := rfl
@[simp] theorem State.modQp_tiers (s : State) (q : Nat) (f : QueuePair → QueuePair) :
    (s.modQp q f).tiers = s.tiers := rfl

/-! ### A plot's engines -/
@[simp] theorem State.modPlot_pending (s : State) (k q : Nat) (f : Engines → Engines) :
    (s.modPlot k q f).pending = s.pending := rfl
@[simp] theorem State.modPlot_out (s : State) (k q : Nat) (f : Engines → Engines) :
    (s.modPlot k q f).out = s.out := rfl
@[simp] theorem State.modPlot_free (s : State) (k q : Nat) (f : Engines → Engines) :
    (s.modPlot k q f).free = s.free := rfl
@[simp] theorem State.modPlot_objs (s : State) (k q : Nat) (f : Engines → Engines) :
    (s.modPlot k q f).objs = s.objs := rfl
@[simp] theorem State.modPlot_videoTurn (s : State) (k q : Nat) (f : Engines → Engines) :
    (s.modPlot k q f).videoTurn = s.videoTurn := rfl
@[simp] theorem State.modPlot_imageTurn (s : State) (k q : Nat) (f : Engines → Engines) :
    (s.modPlot k q f).imageTurn = s.imageTurn := rfl
@[simp] theorem State.modPlot_controlNumber (s : State) (k q : Nat) (f : Engines → Engines) :
    (s.modPlot k q f).controlNumber = s.controlNumber := rfl
@[simp] theorem State.modPlot_paddocks (s : State) (k q : Nat) (f : Engines → Engines) :
    (s.modPlot k q f).paddocks = s.paddocks := rfl
@[simp] theorem State.modPlot_qps (s : State) (k q : Nat) (f : Engines → Engines) :
    (s.modPlot k q f).qps = s.qps := rfl
@[simp] theorem State.modPlot_pauses (s : State) (k q : Nat) (f : Engines → Engines) :
    (s.modPlot k q f).pauses = s.pauses := rfl
@[simp] theorem State.modPlot_outbox (s : State) (k q : Nat) (f : Engines → Engines) :
    (s.modPlot k q f).outbox = s.outbox := rfl
@[simp] theorem State.modPlot_rcTurns (s : State) (k q : Nat) (f : Engines → Engines) :
    (s.modPlot k q f).rcTurns = s.rcTurns := rfl
@[simp] theorem State.modPlot_links (s : State) (k q : Nat) (f : Engines → Engines) :
    (s.modPlot k q f).links = s.links := rfl
@[simp] theorem State.modPlot_inbox (s : State) (k q : Nat) (f : Engines → Engines) :
    (s.modPlot k q f).inbox = s.inbox := rfl
@[simp] theorem State.modPlot_seen (s : State) (k q : Nat) (f : Engines → Engines) :
    (s.modPlot k q f).seen = s.seen := rfl
@[simp] theorem State.modPlot_time (s : State) (k q : Nat) (f : Engines → Engines) :
    (s.modPlot k q f).time = s.time := rfl
@[simp] theorem State.modPlot_directory (s : State) (k q : Nat) (f : Engines → Engines) :
    (s.modPlot k q f).directory = s.directory := rfl
@[simp] theorem State.modPlot_requests (s : State) (k q : Nat) (f : Engines → Engines) :
    (s.modPlot k q f).requests = s.requests := rfl
@[simp] theorem State.modPlot_life (s : State) (k q : Nat) (f : Engines → Engines) :
    (s.modPlot k q f).life = s.life := rfl
@[simp] theorem State.modPlot_firmware (s : State) (k q : Nat) (f : Engines → Engines) :
    (s.modPlot k q f).firmware = s.firmware := rfl
@[simp] theorem State.modPlot_power (s : State) (k q : Nat) (f : Engines → Engines) :
    (s.modPlot k q f).power = s.power := rfl
@[simp] theorem State.modPlot_bist (s : State) (k q : Nat) (f : Engines → Engines) :
    (s.modPlot k q f).bist = s.bist := rfl
@[simp] theorem State.modPlot_faults (s : State) (k q : Nat) (f : Engines → Engines) :
    (s.modPlot k q f).faults = s.faults := rfl
@[simp] theorem State.modPlot_tiers (s : State) (k q : Nat) (f : Engines → Engines) :
    (s.modPlot k q f).tiers = s.tiers := rfl

/-! ### Firmware -/
@[simp] theorem State.modFirmware_pending (s : State) (f : Firmware → Firmware) :
    (s.modFirmware f).pending = s.pending := rfl
@[simp] theorem State.modFirmware_out (s : State) (f : Firmware → Firmware) :
    (s.modFirmware f).out = s.out := rfl
@[simp] theorem State.modFirmware_free (s : State) (f : Firmware → Firmware) :
    (s.modFirmware f).free = s.free := rfl
@[simp] theorem State.modFirmware_objs (s : State) (f : Firmware → Firmware) :
    (s.modFirmware f).objs = s.objs := rfl
@[simp] theorem State.modFirmware_strips (s : State) (f : Firmware → Firmware) :
    (s.modFirmware f).strips = s.strips := rfl
@[simp] theorem State.modFirmware_videoTurn (s : State) (f : Firmware → Firmware) :
    (s.modFirmware f).videoTurn = s.videoTurn := rfl
@[simp] theorem State.modFirmware_imageTurn (s : State) (f : Firmware → Firmware) :
    (s.modFirmware f).imageTurn = s.imageTurn := rfl
@[simp] theorem State.modFirmware_controlNumber (s : State) (f : Firmware → Firmware) :
    (s.modFirmware f).controlNumber = s.controlNumber := rfl
@[simp] theorem State.modFirmware_paddocks (s : State) (f : Firmware → Firmware) :
    (s.modFirmware f).paddocks = s.paddocks := rfl
@[simp] theorem State.modFirmware_qps (s : State) (f : Firmware → Firmware) :
    (s.modFirmware f).qps = s.qps := rfl
@[simp] theorem State.modFirmware_pauses (s : State) (f : Firmware → Firmware) :
    (s.modFirmware f).pauses = s.pauses := rfl
@[simp] theorem State.modFirmware_outbox (s : State) (f : Firmware → Firmware) :
    (s.modFirmware f).outbox = s.outbox := rfl
@[simp] theorem State.modFirmware_rcTurns (s : State) (f : Firmware → Firmware) :
    (s.modFirmware f).rcTurns = s.rcTurns := rfl
@[simp] theorem State.modFirmware_links (s : State) (f : Firmware → Firmware) :
    (s.modFirmware f).links = s.links := rfl
@[simp] theorem State.modFirmware_inbox (s : State) (f : Firmware → Firmware) :
    (s.modFirmware f).inbox = s.inbox := rfl
@[simp] theorem State.modFirmware_seen (s : State) (f : Firmware → Firmware) :
    (s.modFirmware f).seen = s.seen := rfl
@[simp] theorem State.modFirmware_time (s : State) (f : Firmware → Firmware) :
    (s.modFirmware f).time = s.time := rfl
@[simp] theorem State.modFirmware_directory (s : State) (f : Firmware → Firmware) :
    (s.modFirmware f).directory = s.directory := rfl
@[simp] theorem State.modFirmware_requests (s : State) (f : Firmware → Firmware) :
    (s.modFirmware f).requests = s.requests := rfl
@[simp] theorem State.modFirmware_life (s : State) (f : Firmware → Firmware) :
    (s.modFirmware f).life = s.life := rfl
@[simp] theorem State.modFirmware_power (s : State) (f : Firmware → Firmware) :
    (s.modFirmware f).power = s.power := rfl
@[simp] theorem State.modFirmware_bist (s : State) (f : Firmware → Firmware) :
    (s.modFirmware f).bist = s.bist := rfl
@[simp] theorem State.modFirmware_faults (s : State) (f : Firmware → Firmware) :
    (s.modFirmware f).faults = s.faults := rfl
@[simp] theorem State.modFirmware_tiers (s : State) (f : Firmware → Firmware) :
    (s.modFirmware f).tiers = s.tiers := rfl

/-! ### Life cycle -/
@[simp] theorem State.modLife_pending (s : State) (f : Life → Life) :
    (s.modLife f).pending = s.pending := rfl
@[simp] theorem State.modLife_out (s : State) (f : Life → Life) :
    (s.modLife f).out = s.out := rfl
@[simp] theorem State.modLife_free (s : State) (f : Life → Life) :
    (s.modLife f).free = s.free := rfl
@[simp] theorem State.modLife_objs (s : State) (f : Life → Life) :
    (s.modLife f).objs = s.objs := rfl
@[simp] theorem State.modLife_strips (s : State) (f : Life → Life) :
    (s.modLife f).strips = s.strips := rfl
@[simp] theorem State.modLife_videoTurn (s : State) (f : Life → Life) :
    (s.modLife f).videoTurn = s.videoTurn := rfl
@[simp] theorem State.modLife_imageTurn (s : State) (f : Life → Life) :
    (s.modLife f).imageTurn = s.imageTurn := rfl
@[simp] theorem State.modLife_controlNumber (s : State) (f : Life → Life) :
    (s.modLife f).controlNumber = s.controlNumber := rfl
@[simp] theorem State.modLife_paddocks (s : State) (f : Life → Life) :
    (s.modLife f).paddocks = s.paddocks := rfl
@[simp] theorem State.modLife_qps (s : State) (f : Life → Life) :
    (s.modLife f).qps = s.qps := rfl
@[simp] theorem State.modLife_pauses (s : State) (f : Life → Life) :
    (s.modLife f).pauses = s.pauses := rfl
@[simp] theorem State.modLife_outbox (s : State) (f : Life → Life) :
    (s.modLife f).outbox = s.outbox := rfl
@[simp] theorem State.modLife_rcTurns (s : State) (f : Life → Life) :
    (s.modLife f).rcTurns = s.rcTurns := rfl
@[simp] theorem State.modLife_links (s : State) (f : Life → Life) :
    (s.modLife f).links = s.links := rfl
@[simp] theorem State.modLife_inbox (s : State) (f : Life → Life) :
    (s.modLife f).inbox = s.inbox := rfl
@[simp] theorem State.modLife_seen (s : State) (f : Life → Life) :
    (s.modLife f).seen = s.seen := rfl
@[simp] theorem State.modLife_time (s : State) (f : Life → Life) :
    (s.modLife f).time = s.time := rfl
@[simp] theorem State.modLife_directory (s : State) (f : Life → Life) :
    (s.modLife f).directory = s.directory := rfl
@[simp] theorem State.modLife_requests (s : State) (f : Life → Life) :
    (s.modLife f).requests = s.requests := rfl
@[simp] theorem State.modLife_firmware (s : State) (f : Life → Life) :
    (s.modLife f).firmware = s.firmware := rfl
@[simp] theorem State.modLife_power (s : State) (f : Life → Life) :
    (s.modLife f).power = s.power := rfl
@[simp] theorem State.modLife_bist (s : State) (f : Life → Life) :
    (s.modLife f).bist = s.bist := rfl
@[simp] theorem State.modLife_faults (s : State) (f : Life → Life) :
    (s.modLife f).faults = s.faults := rfl
@[simp] theorem State.modLife_tiers (s : State) (f : Life → Life) :
    (s.modLife f).tiers = s.tiers := rfl

/-! ### A program -/
@[simp] theorem Paddock.modProgram_phase (d : Paddock) (g : Nat) (f : Program → Program) :
    (d.modProgram g f).phase = d.phase := rfl
@[simp] theorem Paddock.modProgram_objs (d : Paddock) (g : Nat) (f : Program → Program) :
    (d.modProgram g f).objs = d.objs := rfl
@[simp] theorem Paddock.modProgram_shadows (d : Paddock) (g : Nat) (f : Program → Program) :
    (d.modProgram g f).shadows = d.shadows := rfl
@[simp] theorem Paddock.modProgram_hbm (d : Paddock) (g : Nat) (f : Program → Program) :
    (d.modProgram g f).hbm = d.hbm := rfl
@[simp] theorem Paddock.modProgram_cxl (d : Paddock) (g : Nat) (f : Program → Program) :
    (d.modProgram g f).cxl = d.cxl := rfl
@[simp] theorem Paddock.modProgram_allocs (d : Paddock) (g : Nat) (f : Program → Program) :
    (d.modProgram g f).allocs = d.allocs := rfl
@[simp] theorem Paddock.modProgram_nextSerial (d : Paddock) (g : Nat) (f : Program → Program) :
    (d.modProgram g f).nextSerial = d.nextSerial := rfl
@[simp] theorem Paddock.modProgram_flights (d : Paddock) (g : Nat) (f : Program → Program) :
    (d.modProgram g f).flights = d.flights := rfl
@[simp] theorem Paddock.modProgram_nextFlight (d : Paddock) (g : Nat) (f : Program → Program) :
    (d.modProgram g f).nextFlight = d.nextFlight := rfl
@[simp] theorem Paddock.modProgram_ahead (d : Paddock) (g : Nat) (f : Program → Program) :
    (d.modProgram g f).ahead = d.ahead := rfl
@[simp] theorem Paddock.modProgram_staged (d : Paddock) (g : Nat) (f : Program → Program) :
    (d.modProgram g f).staged = d.staged := rfl
@[simp] theorem Paddock.modProgram_bad (d : Paddock) (g : Nat) (f : Program → Program) :
    (d.modProgram g f).bad = d.bad := rfl
@[simp] theorem Paddock.modProgram_lateWaits (d : Paddock) (g : Nat) (f : Program → Program) :
    (d.modProgram g f).lateWaits = d.lateWaits := rfl
@[simp] theorem Paddock.modProgram_fallback (d : Paddock) (g : Nat) (f : Program → Program) :
    (d.modProgram g f).fallback = d.fallback := rfl
@[simp] theorem Paddock.modProgram_codebooks (d : Paddock) (g : Nat) (f : Program → Program) :
    (d.modProgram g f).codebooks = d.codebooks := rfl
@[simp] theorem Paddock.modProgram_dicts (d : Paddock) (g : Nat) (f : Program → Program) :
    (d.modProgram g f).dicts = d.dicts := rfl
@[simp] theorem Paddock.modProgram_readers (d : Paddock) (g : Nat) (f : Program → Program) :
    (d.modProgram g f).readers = d.readers := rfl
@[simp] theorem Paddock.modProgram_groups (d : Paddock) (g : Nat) (f : Program → Program) :
    (d.modProgram g f).groups = d.groups := rfl
@[simp] theorem Paddock.modProgram_ops (d : Paddock) (g : Nat) (f : Program → Program) :
    (d.modProgram g f).ops = d.ops := rfl
@[simp] theorem Paddock.modProgram_pairs (d : Paddock) (g : Nat) (f : Program → Program) :
    (d.modProgram g f).pairs = d.pairs := rfl
@[simp] theorem Paddock.modProgram_sends (d : Paddock) (g : Nat) (f : Program → Program) :
    (d.modProgram g f).sends = d.sends := rfl
@[simp] theorem Paddock.modProgram_commit (d : Paddock) (g : Nat) (f : Program → Program) :
    (d.modProgram g f).commit = d.commit := rfl
@[simp] theorem Paddock.modProgram_recovery (d : Paddock) (g : Nat) (f : Program → Program) :
    (d.modProgram g f).recovery = d.recovery := rfl
@[simp] theorem Paddock.modProgram_stopped (d : Paddock) (g : Nat) (f : Program → Program) :
    (d.modProgram g f).stopped = d.stopped := rfl
@[simp] theorem Paddock.modProgram_streams (d : Paddock) (g : Nat) (f : Program → Program) :
    (d.modProgram g f).streams = d.streams := rfl
@[simp] theorem Paddock.modProgram_samples (d : Paddock) (g : Nat) (f : Program → Program) :
    (d.modProgram g f).samples = d.samples := rfl
@[simp] theorem Paddock.modProgram_batches (d : Paddock) (g : Nat) (f : Program → Program) :
    (d.modProgram g f).batches = d.batches := rfl
@[simp] theorem Paddock.modProgram_moves (d : Paddock) (g : Nat) (f : Program → Program) :
    (d.modProgram g f).moves = d.moves := rfl
@[simp] theorem Paddock.modProgram_retainedOn (d : Paddock) (g : Nat) (f : Program → Program) :
    (d.modProgram g f).retainedOn = d.retainedOn := rfl

/-! ### A flight -/
@[simp] theorem Paddock.modFlight_phase (d : Paddock) (n : Nat) (f : Flight → Flight) :
    (d.modFlight n f).phase = d.phase := rfl
@[simp] theorem Paddock.modFlight_objs (d : Paddock) (n : Nat) (f : Flight → Flight) :
    (d.modFlight n f).objs = d.objs := rfl
@[simp] theorem Paddock.modFlight_shadows (d : Paddock) (n : Nat) (f : Flight → Flight) :
    (d.modFlight n f).shadows = d.shadows := rfl
@[simp] theorem Paddock.modFlight_hbm (d : Paddock) (n : Nat) (f : Flight → Flight) :
    (d.modFlight n f).hbm = d.hbm := rfl
@[simp] theorem Paddock.modFlight_cxl (d : Paddock) (n : Nat) (f : Flight → Flight) :
    (d.modFlight n f).cxl = d.cxl := rfl
@[simp] theorem Paddock.modFlight_allocs (d : Paddock) (n : Nat) (f : Flight → Flight) :
    (d.modFlight n f).allocs = d.allocs := rfl
@[simp] theorem Paddock.modFlight_programs (d : Paddock) (n : Nat) (f : Flight → Flight) :
    (d.modFlight n f).programs = d.programs := rfl
@[simp] theorem Paddock.modFlight_nextSerial (d : Paddock) (n : Nat) (f : Flight → Flight) :
    (d.modFlight n f).nextSerial = d.nextSerial := rfl
@[simp] theorem Paddock.modFlight_nextFlight (d : Paddock) (n : Nat) (f : Flight → Flight) :
    (d.modFlight n f).nextFlight = d.nextFlight := rfl
@[simp] theorem Paddock.modFlight_ahead (d : Paddock) (n : Nat) (f : Flight → Flight) :
    (d.modFlight n f).ahead = d.ahead := rfl
@[simp] theorem Paddock.modFlight_staged (d : Paddock) (n : Nat) (f : Flight → Flight) :
    (d.modFlight n f).staged = d.staged := rfl
@[simp] theorem Paddock.modFlight_bad (d : Paddock) (n : Nat) (f : Flight → Flight) :
    (d.modFlight n f).bad = d.bad := rfl
@[simp] theorem Paddock.modFlight_lateWaits (d : Paddock) (n : Nat) (f : Flight → Flight) :
    (d.modFlight n f).lateWaits = d.lateWaits := rfl
@[simp] theorem Paddock.modFlight_fallback (d : Paddock) (n : Nat) (f : Flight → Flight) :
    (d.modFlight n f).fallback = d.fallback := rfl
@[simp] theorem Paddock.modFlight_codebooks (d : Paddock) (n : Nat) (f : Flight → Flight) :
    (d.modFlight n f).codebooks = d.codebooks := rfl
@[simp] theorem Paddock.modFlight_dicts (d : Paddock) (n : Nat) (f : Flight → Flight) :
    (d.modFlight n f).dicts = d.dicts := rfl
@[simp] theorem Paddock.modFlight_readers (d : Paddock) (n : Nat) (f : Flight → Flight) :
    (d.modFlight n f).readers = d.readers := rfl
@[simp] theorem Paddock.modFlight_groups (d : Paddock) (n : Nat) (f : Flight → Flight) :
    (d.modFlight n f).groups = d.groups := rfl
@[simp] theorem Paddock.modFlight_ops (d : Paddock) (n : Nat) (f : Flight → Flight) :
    (d.modFlight n f).ops = d.ops := rfl
@[simp] theorem Paddock.modFlight_pairs (d : Paddock) (n : Nat) (f : Flight → Flight) :
    (d.modFlight n f).pairs = d.pairs := rfl
@[simp] theorem Paddock.modFlight_sends (d : Paddock) (n : Nat) (f : Flight → Flight) :
    (d.modFlight n f).sends = d.sends := rfl
@[simp] theorem Paddock.modFlight_commit (d : Paddock) (n : Nat) (f : Flight → Flight) :
    (d.modFlight n f).commit = d.commit := rfl
@[simp] theorem Paddock.modFlight_recovery (d : Paddock) (n : Nat) (f : Flight → Flight) :
    (d.modFlight n f).recovery = d.recovery := rfl
@[simp] theorem Paddock.modFlight_stopped (d : Paddock) (n : Nat) (f : Flight → Flight) :
    (d.modFlight n f).stopped = d.stopped := rfl
@[simp] theorem Paddock.modFlight_streams (d : Paddock) (n : Nat) (f : Flight → Flight) :
    (d.modFlight n f).streams = d.streams := rfl
@[simp] theorem Paddock.modFlight_samples (d : Paddock) (n : Nat) (f : Flight → Flight) :
    (d.modFlight n f).samples = d.samples := rfl
@[simp] theorem Paddock.modFlight_batches (d : Paddock) (n : Nat) (f : Flight → Flight) :
    (d.modFlight n f).batches = d.batches := rfl
@[simp] theorem Paddock.modFlight_moves (d : Paddock) (n : Nat) (f : Flight → Flight) :
    (d.modFlight n f).moves = d.moves := rfl
@[simp] theorem Paddock.modFlight_retainedOn (d : Paddock) (n : Nat) (f : Flight → Flight) :
    (d.modFlight n f).retainedOn = d.retainedOn := rfl

/-! ### A fabric operation -/
@[simp] theorem Paddock.modOp_phase (d : Paddock) (n : Nat) (f : FabOp → FabOp) :
    (d.modOp n f).phase = d.phase := rfl
@[simp] theorem Paddock.modOp_objs (d : Paddock) (n : Nat) (f : FabOp → FabOp) :
    (d.modOp n f).objs = d.objs := rfl
@[simp] theorem Paddock.modOp_shadows (d : Paddock) (n : Nat) (f : FabOp → FabOp) :
    (d.modOp n f).shadows = d.shadows := rfl
@[simp] theorem Paddock.modOp_hbm (d : Paddock) (n : Nat) (f : FabOp → FabOp) :
    (d.modOp n f).hbm = d.hbm := rfl
@[simp] theorem Paddock.modOp_cxl (d : Paddock) (n : Nat) (f : FabOp → FabOp) :
    (d.modOp n f).cxl = d.cxl := rfl
@[simp] theorem Paddock.modOp_allocs (d : Paddock) (n : Nat) (f : FabOp → FabOp) :
    (d.modOp n f).allocs = d.allocs := rfl
@[simp] theorem Paddock.modOp_programs (d : Paddock) (n : Nat) (f : FabOp → FabOp) :
    (d.modOp n f).programs = d.programs := rfl
@[simp] theorem Paddock.modOp_nextSerial (d : Paddock) (n : Nat) (f : FabOp → FabOp) :
    (d.modOp n f).nextSerial = d.nextSerial := rfl
@[simp] theorem Paddock.modOp_flights (d : Paddock) (n : Nat) (f : FabOp → FabOp) :
    (d.modOp n f).flights = d.flights := rfl
@[simp] theorem Paddock.modOp_nextFlight (d : Paddock) (n : Nat) (f : FabOp → FabOp) :
    (d.modOp n f).nextFlight = d.nextFlight := rfl
@[simp] theorem Paddock.modOp_ahead (d : Paddock) (n : Nat) (f : FabOp → FabOp) :
    (d.modOp n f).ahead = d.ahead := rfl
@[simp] theorem Paddock.modOp_staged (d : Paddock) (n : Nat) (f : FabOp → FabOp) :
    (d.modOp n f).staged = d.staged := rfl
@[simp] theorem Paddock.modOp_bad (d : Paddock) (n : Nat) (f : FabOp → FabOp) :
    (d.modOp n f).bad = d.bad := rfl
@[simp] theorem Paddock.modOp_lateWaits (d : Paddock) (n : Nat) (f : FabOp → FabOp) :
    (d.modOp n f).lateWaits = d.lateWaits := rfl
@[simp] theorem Paddock.modOp_fallback (d : Paddock) (n : Nat) (f : FabOp → FabOp) :
    (d.modOp n f).fallback = d.fallback := rfl
@[simp] theorem Paddock.modOp_codebooks (d : Paddock) (n : Nat) (f : FabOp → FabOp) :
    (d.modOp n f).codebooks = d.codebooks := rfl
@[simp] theorem Paddock.modOp_dicts (d : Paddock) (n : Nat) (f : FabOp → FabOp) :
    (d.modOp n f).dicts = d.dicts := rfl
@[simp] theorem Paddock.modOp_readers (d : Paddock) (n : Nat) (f : FabOp → FabOp) :
    (d.modOp n f).readers = d.readers := rfl
@[simp] theorem Paddock.modOp_groups (d : Paddock) (n : Nat) (f : FabOp → FabOp) :
    (d.modOp n f).groups = d.groups := rfl
@[simp] theorem Paddock.modOp_pairs (d : Paddock) (n : Nat) (f : FabOp → FabOp) :
    (d.modOp n f).pairs = d.pairs := rfl
@[simp] theorem Paddock.modOp_sends (d : Paddock) (n : Nat) (f : FabOp → FabOp) :
    (d.modOp n f).sends = d.sends := rfl
@[simp] theorem Paddock.modOp_commit (d : Paddock) (n : Nat) (f : FabOp → FabOp) :
    (d.modOp n f).commit = d.commit := rfl
@[simp] theorem Paddock.modOp_recovery (d : Paddock) (n : Nat) (f : FabOp → FabOp) :
    (d.modOp n f).recovery = d.recovery := rfl
@[simp] theorem Paddock.modOp_stopped (d : Paddock) (n : Nat) (f : FabOp → FabOp) :
    (d.modOp n f).stopped = d.stopped := rfl
@[simp] theorem Paddock.modOp_streams (d : Paddock) (n : Nat) (f : FabOp → FabOp) :
    (d.modOp n f).streams = d.streams := rfl
@[simp] theorem Paddock.modOp_samples (d : Paddock) (n : Nat) (f : FabOp → FabOp) :
    (d.modOp n f).samples = d.samples := rfl
@[simp] theorem Paddock.modOp_batches (d : Paddock) (n : Nat) (f : FabOp → FabOp) :
    (d.modOp n f).batches = d.batches := rfl
@[simp] theorem Paddock.modOp_moves (d : Paddock) (n : Nat) (f : FabOp → FabOp) :
    (d.modOp n f).moves = d.moves := rfl
@[simp] theorem Paddock.modOp_retainedOn (d : Paddock) (n : Nat) (f : FabOp → FabOp) :
    (d.modOp n f).retainedOn = d.retainedOn := rfl

/-! ### The commit -/
@[simp] theorem Paddock.modCommit_phase (d : Paddock) (f : Commit → Commit) :
    (d.modCommit f).phase = d.phase := rfl
@[simp] theorem Paddock.modCommit_objs (d : Paddock) (f : Commit → Commit) :
    (d.modCommit f).objs = d.objs := rfl
@[simp] theorem Paddock.modCommit_shadows (d : Paddock) (f : Commit → Commit) :
    (d.modCommit f).shadows = d.shadows := rfl
@[simp] theorem Paddock.modCommit_hbm (d : Paddock) (f : Commit → Commit) :
    (d.modCommit f).hbm = d.hbm := rfl
@[simp] theorem Paddock.modCommit_cxl (d : Paddock) (f : Commit → Commit) :
    (d.modCommit f).cxl = d.cxl := rfl
@[simp] theorem Paddock.modCommit_allocs (d : Paddock) (f : Commit → Commit) :
    (d.modCommit f).allocs = d.allocs := rfl
@[simp] theorem Paddock.modCommit_programs (d : Paddock) (f : Commit → Commit) :
    (d.modCommit f).programs = d.programs := rfl
@[simp] theorem Paddock.modCommit_nextSerial (d : Paddock) (f : Commit → Commit) :
    (d.modCommit f).nextSerial = d.nextSerial := rfl
@[simp] theorem Paddock.modCommit_flights (d : Paddock) (f : Commit → Commit) :
    (d.modCommit f).flights = d.flights := rfl
@[simp] theorem Paddock.modCommit_nextFlight (d : Paddock) (f : Commit → Commit) :
    (d.modCommit f).nextFlight = d.nextFlight := rfl
@[simp] theorem Paddock.modCommit_ahead (d : Paddock) (f : Commit → Commit) :
    (d.modCommit f).ahead = d.ahead := rfl
@[simp] theorem Paddock.modCommit_staged (d : Paddock) (f : Commit → Commit) :
    (d.modCommit f).staged = d.staged := rfl
@[simp] theorem Paddock.modCommit_bad (d : Paddock) (f : Commit → Commit) :
    (d.modCommit f).bad = d.bad := rfl
@[simp] theorem Paddock.modCommit_lateWaits (d : Paddock) (f : Commit → Commit) :
    (d.modCommit f).lateWaits = d.lateWaits := rfl
@[simp] theorem Paddock.modCommit_fallback (d : Paddock) (f : Commit → Commit) :
    (d.modCommit f).fallback = d.fallback := rfl
@[simp] theorem Paddock.modCommit_codebooks (d : Paddock) (f : Commit → Commit) :
    (d.modCommit f).codebooks = d.codebooks := rfl
@[simp] theorem Paddock.modCommit_dicts (d : Paddock) (f : Commit → Commit) :
    (d.modCommit f).dicts = d.dicts := rfl
@[simp] theorem Paddock.modCommit_readers (d : Paddock) (f : Commit → Commit) :
    (d.modCommit f).readers = d.readers := rfl
@[simp] theorem Paddock.modCommit_groups (d : Paddock) (f : Commit → Commit) :
    (d.modCommit f).groups = d.groups := rfl
@[simp] theorem Paddock.modCommit_ops (d : Paddock) (f : Commit → Commit) :
    (d.modCommit f).ops = d.ops := rfl
@[simp] theorem Paddock.modCommit_pairs (d : Paddock) (f : Commit → Commit) :
    (d.modCommit f).pairs = d.pairs := rfl
@[simp] theorem Paddock.modCommit_sends (d : Paddock) (f : Commit → Commit) :
    (d.modCommit f).sends = d.sends := rfl
@[simp] theorem Paddock.modCommit_recovery (d : Paddock) (f : Commit → Commit) :
    (d.modCommit f).recovery = d.recovery := rfl
@[simp] theorem Paddock.modCommit_stopped (d : Paddock) (f : Commit → Commit) :
    (d.modCommit f).stopped = d.stopped := rfl
@[simp] theorem Paddock.modCommit_streams (d : Paddock) (f : Commit → Commit) :
    (d.modCommit f).streams = d.streams := rfl
@[simp] theorem Paddock.modCommit_samples (d : Paddock) (f : Commit → Commit) :
    (d.modCommit f).samples = d.samples := rfl
@[simp] theorem Paddock.modCommit_batches (d : Paddock) (f : Commit → Commit) :
    (d.modCommit f).batches = d.batches := rfl
@[simp] theorem Paddock.modCommit_moves (d : Paddock) (f : Commit → Commit) :
    (d.modCommit f).moves = d.moves := rfl
@[simp] theorem Paddock.modCommit_retainedOn (d : Paddock) (f : Commit → Commit) :
    (d.modCommit f).retainedOn = d.retainedOn := rfl

/-! ### The recovery -/
@[simp] theorem Paddock.modRecovery_phase (d : Paddock) (f : Recovery → Recovery) :
    (d.modRecovery f).phase = d.phase := rfl
@[simp] theorem Paddock.modRecovery_objs (d : Paddock) (f : Recovery → Recovery) :
    (d.modRecovery f).objs = d.objs := rfl
@[simp] theorem Paddock.modRecovery_shadows (d : Paddock) (f : Recovery → Recovery) :
    (d.modRecovery f).shadows = d.shadows := rfl
@[simp] theorem Paddock.modRecovery_hbm (d : Paddock) (f : Recovery → Recovery) :
    (d.modRecovery f).hbm = d.hbm := rfl
@[simp] theorem Paddock.modRecovery_cxl (d : Paddock) (f : Recovery → Recovery) :
    (d.modRecovery f).cxl = d.cxl := rfl
@[simp] theorem Paddock.modRecovery_allocs (d : Paddock) (f : Recovery → Recovery) :
    (d.modRecovery f).allocs = d.allocs := rfl
@[simp] theorem Paddock.modRecovery_programs (d : Paddock) (f : Recovery → Recovery) :
    (d.modRecovery f).programs = d.programs := rfl
@[simp] theorem Paddock.modRecovery_nextSerial (d : Paddock) (f : Recovery → Recovery) :
    (d.modRecovery f).nextSerial = d.nextSerial := rfl
@[simp] theorem Paddock.modRecovery_flights (d : Paddock) (f : Recovery → Recovery) :
    (d.modRecovery f).flights = d.flights := rfl
@[simp] theorem Paddock.modRecovery_nextFlight (d : Paddock) (f : Recovery → Recovery) :
    (d.modRecovery f).nextFlight = d.nextFlight := rfl
@[simp] theorem Paddock.modRecovery_ahead (d : Paddock) (f : Recovery → Recovery) :
    (d.modRecovery f).ahead = d.ahead := rfl
@[simp] theorem Paddock.modRecovery_staged (d : Paddock) (f : Recovery → Recovery) :
    (d.modRecovery f).staged = d.staged := rfl
@[simp] theorem Paddock.modRecovery_bad (d : Paddock) (f : Recovery → Recovery) :
    (d.modRecovery f).bad = d.bad := rfl
@[simp] theorem Paddock.modRecovery_lateWaits (d : Paddock) (f : Recovery → Recovery) :
    (d.modRecovery f).lateWaits = d.lateWaits := rfl
@[simp] theorem Paddock.modRecovery_fallback (d : Paddock) (f : Recovery → Recovery) :
    (d.modRecovery f).fallback = d.fallback := rfl
@[simp] theorem Paddock.modRecovery_codebooks (d : Paddock) (f : Recovery → Recovery) :
    (d.modRecovery f).codebooks = d.codebooks := rfl
@[simp] theorem Paddock.modRecovery_dicts (d : Paddock) (f : Recovery → Recovery) :
    (d.modRecovery f).dicts = d.dicts := rfl
@[simp] theorem Paddock.modRecovery_readers (d : Paddock) (f : Recovery → Recovery) :
    (d.modRecovery f).readers = d.readers := rfl
@[simp] theorem Paddock.modRecovery_groups (d : Paddock) (f : Recovery → Recovery) :
    (d.modRecovery f).groups = d.groups := rfl
@[simp] theorem Paddock.modRecovery_ops (d : Paddock) (f : Recovery → Recovery) :
    (d.modRecovery f).ops = d.ops := rfl
@[simp] theorem Paddock.modRecovery_pairs (d : Paddock) (f : Recovery → Recovery) :
    (d.modRecovery f).pairs = d.pairs := rfl
@[simp] theorem Paddock.modRecovery_sends (d : Paddock) (f : Recovery → Recovery) :
    (d.modRecovery f).sends = d.sends := rfl
@[simp] theorem Paddock.modRecovery_commit (d : Paddock) (f : Recovery → Recovery) :
    (d.modRecovery f).commit = d.commit := rfl
@[simp] theorem Paddock.modRecovery_stopped (d : Paddock) (f : Recovery → Recovery) :
    (d.modRecovery f).stopped = d.stopped := rfl
@[simp] theorem Paddock.modRecovery_streams (d : Paddock) (f : Recovery → Recovery) :
    (d.modRecovery f).streams = d.streams := rfl
@[simp] theorem Paddock.modRecovery_samples (d : Paddock) (f : Recovery → Recovery) :
    (d.modRecovery f).samples = d.samples := rfl
@[simp] theorem Paddock.modRecovery_batches (d : Paddock) (f : Recovery → Recovery) :
    (d.modRecovery f).batches = d.batches := rfl
@[simp] theorem Paddock.modRecovery_moves (d : Paddock) (f : Recovery → Recovery) :
    (d.modRecovery f).moves = d.moves := rfl
@[simp] theorem Paddock.modRecovery_retainedOn (d : Paddock) (f : Recovery → Recovery) :
    (d.modRecovery f).retainedOn = d.retainedOn := rfl

/-! ### A block -/
@[simp] theorem Paddock.modBlock_phase (d : Paddock) (j i : Nat) (f : Block → Block) :
    (d.modBlock j i f).phase = d.phase := rfl
@[simp] theorem Paddock.modBlock_objs (d : Paddock) (j i : Nat) (f : Block → Block) :
    (d.modBlock j i f).objs = d.objs := rfl
@[simp] theorem Paddock.modBlock_shadows (d : Paddock) (j i : Nat) (f : Block → Block) :
    (d.modBlock j i f).shadows = d.shadows := rfl
@[simp] theorem Paddock.modBlock_hbm (d : Paddock) (j i : Nat) (f : Block → Block) :
    (d.modBlock j i f).hbm = d.hbm := rfl
@[simp] theorem Paddock.modBlock_cxl (d : Paddock) (j i : Nat) (f : Block → Block) :
    (d.modBlock j i f).cxl = d.cxl := rfl
@[simp] theorem Paddock.modBlock_programs (d : Paddock) (j i : Nat) (f : Block → Block) :
    (d.modBlock j i f).programs = d.programs := rfl
@[simp] theorem Paddock.modBlock_nextSerial (d : Paddock) (j i : Nat) (f : Block → Block) :
    (d.modBlock j i f).nextSerial = d.nextSerial := rfl
@[simp] theorem Paddock.modBlock_flights (d : Paddock) (j i : Nat) (f : Block → Block) :
    (d.modBlock j i f).flights = d.flights := rfl
@[simp] theorem Paddock.modBlock_nextFlight (d : Paddock) (j i : Nat) (f : Block → Block) :
    (d.modBlock j i f).nextFlight = d.nextFlight := rfl
@[simp] theorem Paddock.modBlock_ahead (d : Paddock) (j i : Nat) (f : Block → Block) :
    (d.modBlock j i f).ahead = d.ahead := rfl
@[simp] theorem Paddock.modBlock_staged (d : Paddock) (j i : Nat) (f : Block → Block) :
    (d.modBlock j i f).staged = d.staged := rfl
@[simp] theorem Paddock.modBlock_bad (d : Paddock) (j i : Nat) (f : Block → Block) :
    (d.modBlock j i f).bad = d.bad := rfl
@[simp] theorem Paddock.modBlock_lateWaits (d : Paddock) (j i : Nat) (f : Block → Block) :
    (d.modBlock j i f).lateWaits = d.lateWaits := rfl
@[simp] theorem Paddock.modBlock_fallback (d : Paddock) (j i : Nat) (f : Block → Block) :
    (d.modBlock j i f).fallback = d.fallback := rfl
@[simp] theorem Paddock.modBlock_codebooks (d : Paddock) (j i : Nat) (f : Block → Block) :
    (d.modBlock j i f).codebooks = d.codebooks := rfl
@[simp] theorem Paddock.modBlock_dicts (d : Paddock) (j i : Nat) (f : Block → Block) :
    (d.modBlock j i f).dicts = d.dicts := rfl
@[simp] theorem Paddock.modBlock_readers (d : Paddock) (j i : Nat) (f : Block → Block) :
    (d.modBlock j i f).readers = d.readers := rfl
@[simp] theorem Paddock.modBlock_groups (d : Paddock) (j i : Nat) (f : Block → Block) :
    (d.modBlock j i f).groups = d.groups := rfl
@[simp] theorem Paddock.modBlock_ops (d : Paddock) (j i : Nat) (f : Block → Block) :
    (d.modBlock j i f).ops = d.ops := rfl
@[simp] theorem Paddock.modBlock_pairs (d : Paddock) (j i : Nat) (f : Block → Block) :
    (d.modBlock j i f).pairs = d.pairs := rfl
@[simp] theorem Paddock.modBlock_sends (d : Paddock) (j i : Nat) (f : Block → Block) :
    (d.modBlock j i f).sends = d.sends := rfl
@[simp] theorem Paddock.modBlock_commit (d : Paddock) (j i : Nat) (f : Block → Block) :
    (d.modBlock j i f).commit = d.commit := rfl
@[simp] theorem Paddock.modBlock_recovery (d : Paddock) (j i : Nat) (f : Block → Block) :
    (d.modBlock j i f).recovery = d.recovery := rfl
@[simp] theorem Paddock.modBlock_stopped (d : Paddock) (j i : Nat) (f : Block → Block) :
    (d.modBlock j i f).stopped = d.stopped := rfl
@[simp] theorem Paddock.modBlock_streams (d : Paddock) (j i : Nat) (f : Block → Block) :
    (d.modBlock j i f).streams = d.streams := rfl
@[simp] theorem Paddock.modBlock_samples (d : Paddock) (j i : Nat) (f : Block → Block) :
    (d.modBlock j i f).samples = d.samples := rfl
@[simp] theorem Paddock.modBlock_batches (d : Paddock) (j i : Nat) (f : Block → Block) :
    (d.modBlock j i f).batches = d.batches := rfl
@[simp] theorem Paddock.modBlock_moves (d : Paddock) (j i : Nat) (f : Block → Block) :
    (d.modBlock j i f).moves = d.moves := rfl
@[simp] theorem Paddock.modBlock_retainedOn (d : Paddock) (j i : Nat) (f : Block → Block) :
    (d.modBlock j i f).retainedOn = d.retainedOn := rfl

/-! ### What the updates change -/

theorem Paddock.modCommit_commit (d : Paddock) (f : Commit → Commit) : (d.modCommit f).commit = f d.commit := rfl

theorem State.modFirmware_firmware (s : State) (f : Firmware → Firmware) : (s.modFirmware f).firmware = f s.firmware := rfl

theorem State.modLife_life (s : State) (f : Life → Life) : (s.modLife f).life = f s.life := rfl

end Sys2Proof.Machine
end

