-- ==== Sys2Proof/Laws/Work.lean ====
section
/-! SUPPORT. What the operations on started units can do. -/

namespace Sys2Proof.Machine

/-- A fold each step of which leaves its start as it was leaves it as it was. -/
theorem foldl_fixed {α β : Type} (f : α → β → α) (a : α) (l : List β) (h : ∀ b ∈ l, f a b = a) : l.foldl f a = a := by
  induction l with
  | nil => rfl
  | cons b l ih =>
    rw [List.foldl_cons, h b (List.mem_cons_self ..)]
    exact ih fun c hc => h c (List.mem_cons_of_mem _ hc)

/-- Where no unit of an instruction is started, nothing runs to its end. -/
theorem finishUnits_none (s : State) (p n : Nat)
    (started : ∀ k, k < 24 → ((s.strip k).started.filter fun u => u.plot == 16 && (u.paddock == p && u.flight == n)) = [])
    (runs : ∀ k q, k < 24 → q < 16 →
      (((s.strip k).plot q).runs.filter fun r => r.unit.paddock == p && r.unit.flight == n) = []) :
    s.finishUnits p n = s := by
  unfold State.finishUnits
  split
  · rfl
  · refine foldl_fixed _ _ _ fun k hk => ?_
    simp only [started k (List.mem_range.1 hk), List.foldl_nil]
    refine foldl_fixed _ _ _ fun q hq => ?_
    simp only [runs k q (List.mem_range.1 hk) (List.mem_range.1 hq), List.getLast?_nil]

end Sys2Proof.Machine
end

