-- ==== Sys2Proof/Tests/Slice0.lean ====
section
/-! SUPPORT. Tests on small states, the smoke tests of WellFormed, and a witness for the hypotheses of every
statement. -/

set_option Elab.async false

namespace Sys2Proof.Machine
open Sys2Proof

/-! ### Small states -/

/-- A device in service: rails up, the main die running and ready, owned, every principal with a key. -/
def dev : State :=
  { State.reset with
    power := { Power.fresh with
      aoGood := true, mainGood := true, running := true, firmware := true, hbm := some true, ready := true
      clockMHz := 3300 }
    life := { Life.fresh with
      state := .owned
      principals := List.replicate 9 { key := some [], counter := 0, response := none } } }

/-- A definition that holds every strip, 16 queue pairs, every link and host port, both counter flags and 64
blocks of area. -/
def wholeDevice : Nat :=
  0xFFFFFF + 16 * 2 ^ 32 + 3 * 2 ^ 48 + (2 ^ 56 - 1) * 2 ^ 64 + 64 * 2 ^ 128

/-- `dev` with paddock 0 as given. -/
def devPad (d : Paddock) : State := (dev.setObj 0x3000 0 wholeDevice).setPad 0 d

/-- An active paddock with nothing in it. -/
def live : Paddock := { Paddock.fresh with phase := .active }

/-- A dictionary request on the management port, with request counter 1. -/
def call (op who target index sub : Nat) (value : List Byte) : Request :=
  { path := .field
    bytes := leBytes 1 1 ++ leBytes 1 op ++ leBytes 1 who ++ leBytes 1 target ++ leBytes 4 0 ++ leBytes 8 1
      ++ leBytes 2 index ++ leBytes 1 sub ++ leBytes 1 1 ++ leBytes 4 value.length ++ leBytes 8 0
      ++ leBytes 32 0 ++ value }

/-- The state in which a request that stands alone in the queue takes effect. -/
def taken (s : State) (x : Request) : State :=
  State.modPrincipal { s with requests := [] } x.req.principal fun p => { p with counter := x.req.counter }

/-- A request that stands alone in the queue is one of a row and passes every check, and `ok` holds of the
state it takes effect in. -/
def serves (row : Row) (s : State) (x : Request) (ok : State → Req → Bool) : Bool :=
  rowOf { s with requests := [x] } x.req == row
    && State.freshness { s with requests := [] } x.req == .fresh
    && checks (taken s x) x.req == none && ok (taken s x) x.req

/-- What `serves` decides is `Served`, the hypothesis of every claim on a request. -/
theorem served_of_serves (row : Row) (s : State) (x : Request) (ok : State → Req → Bool)
    (h : serves row s x ok = true) :
    Served row { s with requests := [x] } x [] (taken s x) ∧ ok (taken s x) x.req = true := by
  simp only [serves, Bool.and_eq_true, beq_iff_eq] at h
  exact ⟨⟨rfl, h.1.1.1, h.1.1.2, rfl, h.1.2⟩, h.2⟩

/-! ### Witnesses: the whole machine -/

/-- `dev` in a life-cycle state. -/
def inState (x : LifeState) : State := { dev with life := { dev.life with state := x } }

/-- What `P` says of the next state, where there is one. -/
def afterward (o : Host.Outcome State Fault Refusal) (P : State → Bool) : Bool :=
  match o with
  | .next t => P t
  | _ => false

/-- A life-cycle command of object 0x1101 by the owner. -/
def lifeCall (c confirm : Nat) : Request := call 2 8 0xFF 0x1101 0 (leBytes 4 c ++ leBytes 4 confirm)

theorem witness_idle_tick :
    (State.reset.pending = [] ∧ State.reset.power.aoGood = false) ∧
    (let s : State := { dev with time := { dev.time with ns := 2 ^ 64 - 21, frac := 4294967295 } }
     s.pending = [] ∧ s.power.aoGood = true ∧ s.time.slew = 0 ∧ s.time.frac < 4294967296
       ∧ s.time.ns + 20 < 2 ^ 64 ∧ s.objs = []) := by
  decide +kernel

theorem witness_decommissioned :
    let s : State := { State.reset with life := { Life.fresh with state := .retired } }
    goesOn (step s) = true ∧ s.retiredRests = true ∧ s.life.state = .retired := by
  decide +kernel

theorem witness_life_state_changes :
    afterward (exec .lock { dev with requests := [lifeCall 1 0] }) (fun t => t.life.state != dev.life.state) = true := by
  decide +kernel

/-- A device in BLANK with no identity, held by the manufacturing principal. -/
def blank : State :=
  { dev with life := { dev.life with
      state := .blank, manufacturing := true, privateKey := none, publicKey := [], certificate := []
      certLen := 0 } }

theorem witness_identity_key :
    afterward (exec .generateIdentity { blank with requests := [lifeCall 0x10 0] })
      (fun t => t.life.privateKey != blank.life.privateKey) = true := by
  decide +kernel

/-- `dev` whose public key is the empty string, so that its digest is a number the kernel computes. -/
def plainKey (s : State) : State := { s with life := { s.life with publicKey := [] } }

/-- The first four bytes of the SHA-512 of no bytes (FIPS 180-4). -/
def plainDigest : Nat := 0x35E183CF

theorem witness_rollback_floor :
    let f := { Firmware.fresh with running := some 0, slotA := [⟨4, 1⟩] }
    afterward (exec .raiseRollbackFloor
        { dev with firmware := f, requests := [call 2 8 0xFF 0x1217 0 [1]] })
      (fun t => t.firmware.floor != f.floor) = true := by
  decide +kernel

theorem witness_memory_writes :
    State.reset.memoriesOk = true ∧ State.reset.shadowsOk = true ∧ goesOn (step State.reset) = true ∧
    windowOf (hbmEnd - 1) = some .hbm ∧ windowOf cxlBase = some .cxl ∧ windowOf (flashEnd - 1) = some .flash ∧
    windowOf hbmEnd = none := by
  decide +kernel

/-! ### Witnesses: the dictionary server -/

/-- A request with the tag that its key asks for. -/
def tagged (key : List Byte) (x : Request) : List Byte :=
  x.bytes.take 0x20 ++ tagOf key x.bytes ++ x.bytes.drop 64

/-- The owner's entry at a counter, with a response. -/
def atCounter (n : Nat) (resp : Option (List Byte)) : State :=
  { dev with life := { dev.life with
      principals := dev.life.principals.modify 8 fun x => { x with counter := n, response := resp } } }

def readState (who : Nat) : Request := call 1 who 0xFF 0x1100 0 []

theorem witness_request_arrives :
    let b := (readState 0x0F).bytes
    let r := parseReq .field b
    (State.reset.pathOpen .field = false) ∧
    (dev.pathOpen .field = true ∧ (b.take 63).length < 64) ∧
    (dev.pathOpen .field = true ∧ 64 ≤ b.length ∧ r.version = 1 ∧ b.length = 64 + r.len
      ∧ b.length ≤ pathLimit .field) ∧
    (authentic dev (parseReq .field (readState 9).bytes) (readState 9).bytes = false) ∧
    (authentic dev r b = true ∧ dev.freshness r = .fresh ∧ dev.requests.length < queueDepth) ∧
    (queueDepth ≤ (List.replicate 17 (readState 0x0F)).length) := by
  decide +kernel

theorem witness_request_counter :
    let b := tagged [] (readState 8)
    let r := parseReq .field b
    authentic dev r b = true ∧ (atCounter 2 none).freshness r = .old
      ∧ (atCounter 1 (some [])).freshness r = .again [] := by
  decide +kernel

/-- The value that a request reads. -/
def valueOf (u : State) (r : Req) : List Byte := u.value r.principal r.paddock r.index r.sub

theorem witness_front_and_counter :
    let r := (readState 8).req
    (8 < (readState 15).req.principal) ∧
    ((atCounter 0 none).principal 8 = some { key := some [], counter := 0, response := none } ∧ 0 < r.counter) ∧
    ((atCounter 2 none).freshness r = .old) ∧
    ((atCounter 1 (some [7])).freshness r = .again [7]) ∧
    ((atCounter 1 none).freshness r = .old) ∧
    (rowOf dev r = .read ∧ rowOf dev (lifeCall 1 0).req ≠ .read ∧ dev.freshness r = .fresh) ∧
    (checks dev (call 2 8 0xFF 0x1100 0 [0]).req = some (2, 0)) ∧
    (checks { dev with life := { dev.life with state := .ownedLocked } } (call 2 8 0xFF 0x1213 0 [1]).req
      = some (8, 0x62)) := by
  decide +kernel

theorem witness_responses :
    let r := (readState 8).req
    let a : Answer := { state := dev }
    (r.principal < 256 ∧ r.target < 256 ∧ r.ident < 2 ^ 32 ∧ r.counter < 2 ^ 64 ∧ r.index < 2 ^ 16 ∧ r.sub < 256
      ∧ a.count < 256 ∧ a.values.length < 2 ^ 32 ∧ a.result < 256 ∧ a.status < 256 ∧ a.flags < 256
      ∧ a.apply < 2 ^ 32) ∧
    dev.pathOpen .field = true ∧ State.reset.pathOpen .field = false ∧ dev.principal 8 ≠ none := by
  decide +kernel

theorem witness_tenants_are_apart :
    let other := (call 1 1 0 0x6001 0 []).req
    let row : ObjRow := (objRow 0x6001 0).getD ⟨0, 0, 0, 0, 0, 0, 0, 0, 0, false, false⟩
    (other.index ≠ 0x1110 ∧ other.principal < 8 ∧ row.priv = 1 ∧ row.perPaddock = true ∧ other.target ≠ 0xFF
      ∧ other.target ≠ other.principal ∧ objRow other.index 0 = some row ∧ right dev other row 0 = .zeros) ∧
    (objRow 0x1083 0).map (·.priv) = some 0 ∧ (objRow 0x1100 0).map (·.priv) = some 2
      ∧ (readState 15).req.principal = 0x0F ∧ other.writes = false := by
  decide +kernel

theorem witness_reads_answer :
    serves .read dev (readState 8) (fun u r => (objRow r.index r.sub).isSome && r.count == 1
      && 64 + (valueOf u r).length ≤ pathLimit r.path && u.power.running) = true ∧
    serves .read { dev with power := { dev.power with running := false } } (call 1 8 0xFF 0x4003 0 []) (fun u r =>
      r.count == 1 && 64 + (defaultBytes r.index r.sub).length ≤ pathLimit r.path && !u.power.running
        && !alwaysOn r.index) = true ∧
    serves .read dev (call 1 8 0xFF 0x9410 0 []) (fun _ r => r.principal == 8 && r.count == 1) = true ∧
    serves .read dev (call 1 8 0xFF 0x9413 0xFF []) (fun _ r => r.principal == 8 && r.count == 1) = true ∧
    serves .readShadow (devPad { live with shadows := [{ key := okey 0x6400 0, value := 2, entries := [] }] })
      (call 3 0 0xFF 0x6400 0 []) (fun u r => ((u.pad r.paddock).shadow (okey r.index r.sub)).isSome) = true ∧
    serves .readShadow (devPad live) (call 3 0 0 0x6400 0 []) (fun u r =>
      ((u.pad r.paddock).shadow (okey r.index r.sub)).isNone && 64 + (valueOf u r).length ≤ pathLimit r.path) = true ∧
    serves .readAndClear dev (call 5 8 0xFF 0x1086 0 []) (fun u r =>
      u.power.running && 64 + (valueOf u r).length ≤ pathLimit r.path) = true ∧
    serves .describe dev (call 6 8 0xFF 0x1100 0 []) (fun _ r => r.count == 1) = true := by
  decide +kernel

theorem witness_plain_index : plainIndex 0x1100 ∧ plainIndex 0x301F ∧ plainIndex 0x3024 ∧ plainIndex 0x8038 := by
  unfold plainIndex; omega

theorem witness_writes_store :
    serves .objectWrite (devPad live) (call 2 0 0xFF 0x6400 0 [2]) (fun u r =>
      inRange u r.paddock r.index r.sub (cleaned r.index r.num)) = true ∧
    serves .objectWrite (devPad live) (call 2 0 0xFF 0x6400 0 [9]) (fun u r =>
      !inRange u r.paddock r.index r.sub (cleaned r.index r.num)) = true ∧
    serves .objectWrite dev (call 2 8 0xFF 0x1086 0 (leBytes 4 1)) (fun _ r =>
      (objRow r.index r.sub).map (·.access) == some 3) = true ∧
    serves .objectWrite dev (call 2 8 0xFF 0x1083 0 (leBytes 4 1)) (fun u r =>
      inRange u r.paddock r.index r.sub (cleaned r.index r.num)) = true ∧
    serves .objectWrite (devPad live) (call 2 8 0 0x9006 0 (leBytes 2 0)) (fun u r =>
      !inRange u r.paddock r.index r.sub (cleaned r.index r.num)) = true ∧
    serves .discardShadow (devPad live) (call 4 0 0xFF 0x6400 0 []) (fun _ r => decide (r.paddock < 8)) = true := by
  decide +kernel

/-! ### Witnesses: life cycle, keys and firmware -/

def stateIs (x : LifeState) (u : State) (_ : Req) : Bool := u.life.state == x

theorem witness_life_commands :
    serves .lock dev (lifeCall 1 0) (fun u r => confirmed u r && stateIs .owned u r) = true ∧
    serves .lock (inState .maintenance) (lifeCall 1 0) (stateIs .maintenance) = true ∧
    serves .unlock (inState .ownedLocked) (lifeCall 2 0) (fun u r => confirmed u r && stateIs .ownedLocked u r) = true ∧
    serves .unlock dev (lifeCall 2 0) (stateIs .owned) = true ∧
    serves .enterMaintenance dev (lifeCall 3 0) (fun u r => confirmed u r && stateIs .owned u r && u.noPaddock) = true ∧
    serves .enterMaintenance (devPad live) (lifeCall 3 0) (fun u _ => !u.noPaddock) = true ∧
    serves .leaveMaintenance (inState .maintenance) (lifeCall 4 0)
      (fun u r => confirmed u r && stateIs .maintenance u r && u.bist.state != 1) = true ∧
    serves .leaveMaintenance dev (lifeCall 4 0) (stateIs .owned) = true ∧
    serves .release (plainKey dev) (lifeCall 5 plainDigest)
      (fun u r => confirmed u r && stateIs .owned u r && u.noPaddock) = true ∧
    serves .release (plainKey dev) (lifeCall 5 0) (fun u r => !confirmed u r) = true := by
  decide +kernel

theorem witness_identity_to_decommission :
    serves .generateIdentity blank (lifeCall 0x10 0)
      (fun u r => confirmed u r && stateIs .blank u r && u.life.manufacturing && !u.life.hasIdentity) = true ∧
    serves .generateIdentity dev (lifeCall 0x10 0) (stateIs .owned) = true ∧
    serves .provision dev (lifeCall 0x11 0) (stateIs .owned) = true ∧
    ({ dev.life with transition := some false }.transition = some false) ∧
    dev.life.transition = none ∧
    serves .decommission (plainKey dev) (lifeCall 6 plainDigest)
      (fun u r => confirmed u r && stateIs .owned u r && u.noPaddock) = true ∧
    serves .decommission (plainKey dev) (lifeCall 6 0) (fun u r => !confirmed u r) = true := by
  decide +kernel

/-- A claim on the management port: the value of 216 bytes with its version. -/
def claimCall (v : Nat) : Request :=
  call 2 0x0F 0xFF 0x1110 0 (leBytes 2 v ++ List.replicate 214 0)

theorem witness_keys_are_set :
    serves .claim dev (claimCall 1) (stateIs .owned) = true ∧
    serves .claim { inState .provisioned with life := { dev.life with state := .provisioned, privateKey := none } }
      (claimCall 1) (fun u r => stateIs .provisioned u r && leField r.value 0 2 == 1
        && ((claimKek u (sliceBytes r.value 8 133)).bind fun k => Crypto.unwrap k (sliceBytes r.value 0x90 72)).isNone)
      = true ∧
    serves .ownerKeyChange dev (call 2 8 0xFF 0x1111 0 (List.replicate 72 0)) (stateIs .owned) = true ∧
    serves .tenantKey (devPad live) (call 2 8 0xFF 0x1120 0 (List.replicate 72 0)) (stateIs .owned) = true := by
  decide +kernel

theorem witness_attestation :
    serves .attestationNonce dev (call 2 8 0xFF 0x1020 8 (List.replicate 64 0)) (stateIs .owned) = true ∧
    (let l : Life := { dev.life with nonces := [(8, [])], privateKey := some 1 }
     l.nonces = [(8, [])] ∧ l.privateKey = some 1) ∧
    dev.life.nonces = [] ∧ (8 < 256 ∧ (List.replicate 64 (0 : Byte)).length = 64
      ∧ dev.life.ownerCommitment.length = 64 ∧ dev.firmware.floor < 2 ^ 32) := by
  decide +kernel

/-- An update that is under way: its state, header, bytes written and stream bytes received. -/
def updating (x : UpdateState) (header : List Byte) (written received : Nat) : State :=
  { dev with firmware := { Firmware.fresh with
      running := some 0, update := x, header := header, written := written, received := received
      slotA := (List.range 8).map fun i => ⟨0x10 + i, 0⟩ } }

/-- The SHA-512 of the 512 bytes of slot A in `updating`: 0xFF but for eight zeros at 0x10; computed outside Lean. -/
def sourceDigest : List Byte :=
  leBytes 64 0xb604b1a46dd298dfc25e1b1e0aa93a6baa023b2a13bbecf27690426f97eee12c9c018d94c23530dd4a7c199168b246e37332053bf9e477782a8c19c06eada785

/-- An update header: version, source version, target and stream lengths, source digest, target digest. -/
def updateHeader (target stream : Nat) (digest : List Byte) : List Byte :=
  leBytes 4 1 ++ leBytes 4 0xFFFFFFFF ++ leBytes 8 0 ++ leBytes 8 target ++ leBytes 8 stream
    ++ sourceDigest ++ digest ++ List.replicate 96 0

def isUpdate (x : UpdateState) (u : State) (_ : Req) : Bool := u.firmware.update == x

theorem witness_update_rows :
    let none64 : List Byte := List.replicate 64 0
    let h := updateHeader 65536 8 none64
    let chunk := fun (o : Nat) (b : List Byte) =>
      call 2 8 0xFF 0x1211 0 (leBytes 8 o ++ b ++ List.replicate (1024 - b.length) 0)
    serves .updateBegin (updating .idle [] 0 0) (call 2 8 0xFF 0x1210 0 h)
      (fun u r => beginOk u.firmware r.value) = true ∧
    serves .updateBegin (updating .staged [] 0 0) (call 2 8 0xFF 0x1210 0 h)
      (fun u r => !beginOk u.firmware r.value) = true ∧
    ((updating .erasing h 0 0).firmware.update = .erasing
      ∧ Memory.wf 0xFF ((updating .erasing h 0 0).firmware.slot (updating .erasing h 0 0).firmware.inactive) = true) ∧
    (updating .idle h 0 0).firmware.update ≠ .erasing ∧
    serves .updateChunk (updating .receiving h 0 0) (chunk 1 []) (fun u r =>
      leField r.value 0 8 != u.firmware.received) = true ∧
    serves .updateChunk (updating .receiving h 0 0) (chunk 0 [3, 0, 0, 0, 0, 0, 0, 0]) (fun u r =>
      isUpdate .receiving u r && leField r.value 0 8 == u.firmware.received
        && decide (u.firmware.received < u.firmware.stream)
        && (decodeRecords 2 { u.firmware with received := 8, carry := (r.value.drop 8).take 8 }).isSome) = true ∧
    serves .updateFinish
      { updating .receiving (updateHeader 0 8 (Crypto.sha512 [])) 0 8 with
        firmware := { (updating .receiving (updateHeader 0 8 (Crypto.sha512 [])) 0 8).firmware with ended := true } }
      (call 2 8 0xFF 0x1212 0 [1]) (fun u r => r.num == 1 && finishOk u.firmware) = true ∧
    serves .updateFinish (updating .receiving h 0 0) (call 2 8 0xFF 0x1212 0 [1]) (fun u r =>
      r.num == 1 && !finishOk u.firmware && !isUpdate .idle u r) = true ∧
    serves .updateActivate (updating .staged h 0 0) (call 2 8 0xFF 0x1213 0 [1]) (fun u r =>
      r.num == 1 && isUpdate .staged u r) = true ∧
    serves .updateActivate dev (call 2 8 0xFF 0x1213 0 [1]) (fun u r => r.num == 1 && isUpdate .idle u r) = true ∧
    serves .updateAbort (updating .receiving h 0 0) (call 2 8 0xFF 0x1215 0 [1]) (fun u r =>
      r.num == 1 && !isUpdate .idle u r) = true := by
  decide +kernel

/-- Slot A holds rollback index 1; the other bytes read 0xFF. -/
def indexed (floor last steps : Nat) : State :=
  { dev with firmware := { Firmware.fresh with
      running := some 0, floor := floor, lastResult := last, stepsLeft := steps
      slotA := [⟨8, 1⟩, ⟨9, 0⟩, ⟨10, 0⟩, ⟨11, 0⟩] } }

/-- A device whose main die has no firmware. -/
def noFirmware : State :=
  { dev with power := { dev.power with running := false, firmware := false, absent := true } }

theorem witness_boot_and_rescue :
    let s : State := { dev with power := { dev.power with firmware := false } }
    let f := { s.firmware with bootCount := 1 }
    (s.power.running = true ∧ s.power.firmware = false ∧ bootCheck f 0 = some 1
      ∧ bootCheck (f.invalid 0) 1 = some 1) ∧
    (State.reset.power.running = false ∧ dev.power.firmware = true) ∧
    serves .restartMainDie dev (call 2 8 0xFF 0x1216 0 [1]) (fun u r =>
      r.num == 1 && u.noPaddock && u.bist.state != 1) = true ∧
    serves .restartMainDie (devPad live) (call 2 8 0xFF 0x1216 0 [1]) (fun u r => r.num == 1 && !u.noPaddock) = true ∧
    serves .raiseRollbackFloor (indexed 0 0 1) (call 2 8 0xFF 0x1217 0 [1]) (fun u r =>
      r.num == 1 && decide (u.firmware.floor < u.firmware.rollback) && u.firmware.stepsLeft != 0) = true ∧
    serves .raiseRollbackFloor (indexed 1 0 1) (call 2 8 0xFF 0x1217 0 [1]) (fun u r =>
      r.num == 1 && decide (u.firmware.rollback ≤ u.firmware.floor)) = true ∧
    serves .raiseRollbackFloor (indexed 0 0 0) (call 2 8 0xFF 0x1217 0 [1]) (fun u r =>
      r.num == 1 && u.firmware.stepsLeft == 0) = true ∧
    serves .rescueChunk noFirmware (call 2 8 0xFF 0x1150 0 (List.replicate 1032 0)) (fun _ r =>
      leField r.value 0 8 == 0) = true ∧
    serves .rescueChunk noFirmware (call 2 8 0xFF 0x1150 0 (leBytes 8 slotSize ++ List.replicate 1024 0)) (fun _ r =>
      decide (slotSize < leField r.value 0 8 + 1024)) = true ∧
    serves .rescueBoot noFirmware (call 2 8 0xFF 0x1151 0 [1]) (fun u r => r.num == 1
      && { u with power := { u.power with absent := false } }.mayStart && !u.mayStart) = true := by
  decide +kernel

/-- A self-test run in a phase and wave. -/
def testing (phase wave : Nat) : Bist := { Bist.fresh with state := 1, phase := phase, wave := wave }

theorem witness_self_test :
    serves .bistStart (inState .maintenance) (call 2 8 0xFF 0x2400 0 [1]) (fun u r =>
      stateIs .maintenance u r && u.noPaddock && u.bist.state != 1 && decide (u.power.tap ≤ 1) && u.linksFree) = true ∧
    serves .bistStart dev (call 2 8 0xFF 0x2400 0 [1]) (stateIs .owned) = true ∧
    serves .bistAbort { dev with bist := testing 5 0 } (call 2 8 0xFF 0x2400 0 [2]) (fun u _ => u.bist.state == 1)
      = true ∧
    serves .bistAbort dev (call 2 8 0xFF 0x2400 0 [2]) (fun u _ => u.bist.state != 1) = true ∧
    ((testing 2 1).state = 1 ∧ (testing 2 1).phase ≤ 5 ∧ (testing 2 1).wave < 2 ∧ 2 ≤ (testing 2 2).wave
      ∧ (testing 5 0).phase ≤ 5) ∧
    (5 < (testing 6 0).phase ∧ 6 ≤ (testing 6 0).phase ∧ (testing 5 0).phase < 6 ∧ Bist.fresh.state ≠ 1) := by
  decide +kernel

/-! ### Witnesses: power, clocks and temperature -/

/-- `dev` with its power as changed. -/
def powered (f : Power → Power) : State := { dev with power := f dev.power }

theorem witness_power_up :
    let a := powered fun w => { w with mainGood := false, running := false }
    (State.reset.power.aoGood = false ∧ dev.power.aoGood = true) ∧
    (a.power.aoGood = true ∧ a.power.mainGood = false ∧ a.power.rstHeld = false ∧ a.power.thermTrip = false
      ∧ a.power.sysClock = true ∧ a.life.state ≠ .retired ∧ a.power.running = false) ∧
    (let b := { a with life := { a.life with state := .retired } }
     b.power.aoGood = true ∧ b.power.mainGood = false ∧ b.life.state = .retired) ∧
    (let b := powered fun w => { w with hbm := none }
     b.power.running = true ∧ b.power.hbm = none) ∧
    (dev.power.running = true ∧ dev.portUsable 0 = true) ∧
    (let b := powered fun w => { w with ready := false }
     b.power.running = true ∧ b.power.firmware = true ∧ b.power.hbm = some true ∧ b.power.ready = false) ∧
    State.reset.power.running = false := by
  decide +kernel

theorem witness_resets_and_losses :
    (dev.power.mainGood = true ∧ dev.power.running = true ∧ dev.power.aoGood = true) ∧
    (State.reset.power.mainGood = false ∧ State.reset.power.running = false ∧ State.reset.power.aoGood = false) ∧
    (thermalRow .mainDie).2.2.1 ≤ 115000 ∧ (114999 : Int) < (thermalRow .mainDie).2.2.1 := by
  decide +kernel

/-- A device whose thermal trip is counted in object 0x2036. -/
def tripped (asserted : Bool) : State :=
  (powered fun w => { w with running := false, thermTrip := asserted }).setObj 0x2036 0 1

theorem witness_releases_and_clocks :
    (powered fun w => { w with rstHeld := true }).power.rstHeld = true ∧ dev.power.rstHeld = false ∧
    (powered fun w => { w with sysClock := false }).power.sysClock = false ∧ dev.power.sysClock = true ∧
    serves .thermalTripsClear (tripped true) (call 2 8 0xFF 0x2036 0 (leBytes 4 1)) (fun u r =>
      (u.stored r &&& (u.stored r ^^^ (u.stored r &&& r.num))) == 0 && u.power.thermTrip) = true ∧
    serves .thermalTripsClear (tripped false) (call 2 8 0xFF 0x2036 0 (leBytes 4 1)) (fun u r =>
      (u.stored r &&& (u.stored r ^^^ (u.stored r &&& r.num))) == 0 && !u.power.thermTrip) = true ∧
    serves .thermalTripsClear (tripped true) (call 2 8 0xFF 0x2036 0 (leBytes 4 0)) (fun u r =>
      (u.stored r &&& (u.stored r ^^^ (u.stored r &&& r.num))) != 0) = true := by
  decide +kernel

theorem witness_derating_and_limits :
    let d := powered fun w => { w with derated := true, holdSince := some 0 }
    (dev.power.aoGood = true ∧ dev.power.regFaults = [] ∧ 2950 ≤ dev.obj 0x2011 0) ∧
    (d.power.derated = true ∧ (powered fun w => { w with derated := true }).power.holdSince = none) ∧
    (let s := { d with time := { d.time with ns := 10000000000 } }
     s.power.holdSince = some 0 ∧ s.power.derated = true ∧ s.derateCause = false ∧ 0 + 10000000000 ≤ s.now) ∧
    (dev.power.running = true ∧ dev.powerLimit < 3301 ∧ 20 * 3134 < 19 * dev.powerLimit
      ∧ 20 * dev.obj 0x2013 0 < 19 * dev.powerLimit) ∧
    (let s := { (powered fun w => { w with quietSince := some 0 }) with time := { dev.time with ns := 100000 } }
     s.power.quietSince = some 0 ∧ s.power.running = true ∧ 0 + 100000 ≤ s.now ∧ s.power.causes &&& 0x1C = 0) ∧
    (thermalRow .hbmStack).1 ≤ 92000 ∧ 15 ∈ dev.polledRails := by
  decide +kernel

/-! ### Witnesses: paddocks, allocations and queue pairs -/

/-- `devPad` with an HBM quota of 40,000 blocks, room for 1 GiB of CXL and 1 GiB of flash. -/
def roomy (d : Paddock) : State :=
  { (devPad d).setObj 0x4010 0 40000 with tiers := { dev.tiers with flashState := 2, targets := 1, targetBytes := 2 ^ 40 } }

theorem witness_paddock_life :
    let create := call 2 8 0xFF 0x3001 0 [1]
    let delete := call 2 8 0xFF 0x3001 0 [2]
    serves .paddockCreate (roomy Paddock.fresh) create (fun u r => createPaddockOk u r.sub && decide (r.sub < 8)
      && !(u.stripsOf r.sub).isEmpty) = true ∧
    serves .paddockCreate (roomy live) create (fun u r => !createPaddockOk u r.sub) = true ∧
    ((roomy { live with phase := .creating }).pad 0).phase = .creating ∧ ((roomy live).pad 0).phase ≠ .creating ∧
    serves .paddockDelete (roomy live) delete (fun u r => (u.pad r.sub).phase == .active && decide (r.sub < 8)) = true ∧
    serves .paddockDelete (roomy Paddock.fresh) delete (fun u r => (u.pad r.sub).phase == .absent) = true ∧
    (let s := roomy { live with phase := .deleting }
     (s.pad 0).phase = .deleting ∧ (s.pad 0).flights = []) := by
  decide +kernel

/-- An allocation's value: base, length and kind. -/
def allocValue (base len kind : Nat) : List Byte :=
  leBytes 8 base ++ leBytes 8 len ++ leBytes 1 kind ++ List.replicate 47 0

/-- One fixed block at address 0 as entry 0. -/
def fixedBlock : Alloc := allocOfBytes (allocValue 0 32768 0)

def holding (a : Alloc) : State := roomy { live with allocs := [(0, a)] }

theorem witness_allocations :
    let put := fun (v : List Byte) => call 2 0 0xFF 0x4100 0 v
    serves .allocationCreate (roomy live) (put (allocValue 0 32768 0)) (fun u r =>
      (u.pad r.paddock).active && createOk u r.paddock (allocOfBytes r.value) && decide (r.paddock < 8)) = true ∧
    serves .allocationCreate (roomy live) (put (allocValue 4096 32768 0)) (fun u r =>
      !createOk u r.paddock (allocOfBytes r.value)) = true ∧
    serves .allocationRelease (holding fixedBlock) (put (allocValue 0 0 0)) (fun u r =>
      (u.pad r.paddock).alloc r.entry == some fixedBlock && !holdsImage (u.pad r.paddock) fixedBlock) = true ∧
    serves .allocationRelease
      (roomy { live with
        allocs := [(0, fixedBlock)]
        dicts := Paddock.fresh.dicts.set 0 (some { generation := 1, addr := 0, entries := 2, len := 64 }) })
      (put (allocValue 0 0 0)) (fun u r =>
        (u.pad r.paddock).alloc r.entry == some fixedBlock && holdsImage (u.pad r.paddock) fixedBlock) = true ∧
    serves .allocationUpdate (holding fixedBlock)
      (put (leBytes 8 0 ++ leBytes 8 32768 ++ leBytes 1 0 ++ leBytes 1 0 ++ leBytes 2 1 ++ List.replicate 44 0))
      (fun u r => (u.pad r.paddock).alloc r.entry == some fixedBlock && (allocOfBytes r.value).flags == 1) = true ∧
    serves .allocationUpdate (holding fixedBlock) (put (allocValue 0 65536 0)) (fun _ r =>
      (allocOfBytes r.value).len != fixedBlock.len) = true ∧
    ((holding { fixedBlock with releasing := true }).pad 0).alloc 0 = some { fixedBlock with releasing := true } ∧
    ((holding fixedBlock).pad 0).flights = [] := by
  decide +kernel

/-- A queue-pair value of entry 100: its state, the logical port, retries and receive depth. -/
def qpValue (st port : Nat) : List Byte :=
  leBytes 1 st ++ leBytes 1 0 ++ leBytes 1 0 ++ leBytes 1 port ++ List.replicate 0x21 0
    ++ leBytes 1 14 ++ leBytes 1 3 ++ leBytes 1 7 ++ leBytes 2 16 ++ List.replicate 22 0

/-- Entry 100 of paddock 0 in a state, with its port up. -/
def paired (st : Nat) (d : Paddock) : State :=
  ((roomy d).setObj 0x3801 0 2).setQp { QueuePair.blank 100 with
    state := st, fields := cleanQp 100 (qpValue 1 0), rate := 1000000 }

theorem witness_queue_pairs :
    let put := fun (v : List Byte) => call 2 0 0xFF 0x3900 100 v
    let value := fun (r : Req) => cleanQp r.qp r.value
    serves .qpReady (roomy live) (put (qpValue 1 0)) (fun u r =>
      (u.qp r.qp).state == 0 && readyOk u r (value r)) = true ∧
    serves .qpReady (roomy live) (put (qpValue 1 1)) (fun u r =>
      (u.qp r.qp).state == 0 && !readyOk u r (value r)) = true ∧
    serves .qpReady (paired 1 live) (put (qpValue 1 0)) (fun u r =>
      (u.qp r.qp).state == 1 && value r == (u.qp r.qp).fields) = true ∧
    serves .qpReady (paired 1 live) (put (qpValue 1 2)) (fun u r =>
      (u.qp r.qp).state == 1 && value r != (u.qp r.qp).fields) = true ∧
    serves .qpReady (paired 2 live) (put (qpValue 1 0)) (fun u r => (u.qp r.qp).state == 2) = true ∧
    serves .qpReset (paired 2 live) (call 2 8 0xFF 0x3900 100 (qpValue 0 0)) (fun _ r =>
      decide (¬ r.principal < 8)) = true := by
  decide +kernel

theorem witness_ports_links_and_freezes :
    serves .portModeChange dev (call 2 8 0xFF 0x3800 0 [1]) (fun u r =>
      r.num == 1 && !u.hostInUse r.sub) = true ∧
    serves .portModeChange dev (call 2 8 0xFF 0x3800 0 [2]) (fun _ r => r.num == 2) = true ∧
    serves .portModeChange (paired 1 live) (call 2 8 0xFF 0x3800 0 [1]) (fun u r => u.hostInUse r.sub) = true ∧
    serves .linkEnable { devPad { live with
          groups := live.groups.set 0 { Group.fresh with state := .formed, members := [0, 5] } } with
        links := (dev.setLink 3 { Link.fresh with state := .up, peer := some (5, 2) }).links }
      (call 2 8 0xFF 0x5002 3 [0]) (fun u r => r.num == 0 && u.linkBusy r.sub) = true ∧
    serves .linkEnable dev (call 2 8 0xFF 0x5002 47 [0]) (fun u r =>
      r.num == 0 && !u.linkBusy r.sub && decide (r.sub < 48) && (u.link r.sub).state != .retired) = true ∧
    serves .linkEnable (dev.setLink 47 { Link.fresh with state := .disabled })
      (call 2 8 0xFF 0x5002 47 [1]) (fun u r => r.num == 1 && (u.link r.sub).state == .disabled) = true ∧
    serves .linkEnable dev (call 2 8 0xFF 0x5002 0 [2]) (fun _ r => decide (1 < r.num)) = true ∧
    serves .counterFreeze (devPad live) (call 2 0 0xFF 0x8105 0 [1]) (fun _ r =>
      r.num == 1 && decide (r.paddock < 8)) = true ∧
    serves .counterFreeze (devPad live) (call 2 0 0xFF 0x8105 0 [2]) (fun _ r => decide (1 < r.num)) = true := by
  decide +kernel

theorem witness_command_objects :
    let inMaintenance : State := { roomy Paddock.fresh with life := (inState .maintenance).life }
    let range := fun (o n : Nat) => leBytes 8 o ++ leBytes 8 n
    serves .clearLog dev (call 2 8 0xFF 0x9402 0 [1]) (fun _ r => r.num == 1) = true ∧
    serves .clearDegraded { inMaintenance with bist := { Bist.fresh with passedSince := true } }
      (call 2 8 0xFF 0x9013 0 [1]) (fun u r =>
        r.num == 1 && u.life.state == .maintenance && u.bist.passedSince) = true ∧
    serves .clearDegraded dev (call 2 8 0xFF 0x9013 0 [1]) (fun u _ => u.life.state == .owned) = true ∧
    serves .flashFormat inMaintenance (call 2 8 0xFF 0x4805 0 [0xA5]) (fun u r =>
      r.num == 0xA5 && u.life.state == .maintenance && u.mounted) = true ∧
    serves .flashFormat (roomy live) (call 2 8 0xFF 0x4805 0 [0xA5]) (fun u _ => u.life.state == .owned) = true ∧
    serves .prepareShutdown dev (call 2 8 0xFF 0x4806 0 [1]) (fun _ r => r.num == 1) = true ∧
    serves .trim (roomy live) (call 2 8 0xFF 0x4823 0 (range mebi mebi)) (fun u r =>
      leField r.value 0 8 == mebi && u.mounted && decide (2 * mebi ≤ u.tiers.logical)) = true ∧
    serves .trim (roomy live) (call 2 8 0xFF 0x4823 0 (range 1 mebi)) (fun _ r => leField r.value 0 8 == 1) = true := by
  decide +kernel

/-! ### Witnesses: host ports and programs -/

/-- `paired` in state ready, with messages outstanding and retries counted. -/
def sending (out : List Outgoing) (tries : Nat) (d : Paddock) : State :=
  (paired 1 d).modQp 100 fun x => { x with outgoing := out, retries := tries }

theorem witness_rdma_access :
    let s := paired 1 { live with allocs := [(0, fixedBlock)] }
    rdmaReaches s 100 = true ∧ s.memoriesOk = true ∧ (s.qp 100).paddock = 0 ∧
    rdmaRange s 0 32767 1 = .inside ∧ windowOf 32767 = some .hbm ∧ rdmaRange s 0 32767 2 = .refused ∧
    rdmaRange s 0 hbmEnd 1 = .outside ∧ (1 : Nat) ≠ (s.qp 100).rkey := by
  decide +kernel

theorem witness_requester :
    let s := sending [.completion [] 0] 0 live
    let last := sending [.completion [] 0] 3 live
    (s.reaches 100 = true ∧ carriages (s.qp 100).outgoing = []) ∧
    ((s.qp 100).ready = true ∧ (s.qp 100).outgoing ≠ [] ∧ (s.qp 100).retries < (s.qp 100).retryCount) ∧
    ((last.qp 100).ready = true ∧ (last.qp 100).outgoing ≠ [] ∧ (last.qp 100).retryCount ≤ (last.qp 100).retries
      ∧ carriages (last.qp 100).outgoing = []) ∧
    ((s.qp 100).rnrRetry = 7 ∧ (s.setObj 0x3807 0 1).obj 0x3807 0 ≠ 0 ∧ (s.setObj 0x3807 0 1).reaches 100 = true) := by
  decide +kernel

theorem witness_congestion_and_ports :
    let s := (paired 1 live).setObj 0x3805 0 1
    s.portUp 0 = true ∧ (s.obj 0x3805 0).testBit 0 = true ∧ (dev.setObj 0x3801 0 1).obj 0x3801 0 = 1 := by
  decide +kernel

/-- A program message of one instruction record. -/
def programBytes (ident : Nat) : List Byte :=
  leBytes 2 1 ++ leBytes 1 1 ++ leBytes 1 0 ++ leBytes 4 ident ++ leBytes 4 1 ++ leBytes 4 0 ++ leBytes 24 0
    ++ leBytes 8 64 ++ List.replicate 80 0

/-- The program of `programBytes`, with its record issued or not. -/
def oneProgram (issued : Nat) : Program :=
  { programOf live 100 (programBytes 7) with active := true, next := issued, issued := issued, completed := issued }

theorem witness_programs_arrive :
    let b := programBytes 7
    let s := paired 1 live
    let busy := List.replicate 16 (oneProgram 0)
    (s.reaches 100 = true ∧ (s.pad 0).active = true ∧ (s.qp 100).paddock = 0) ∧
    ((s.pad 0).programs = [] ∧ headerOk (s.pad 0) b.length (parseHeader b) = true ∧ s.faults.degraded = false
      ∧ ¬ ((s.qp 100).depth ≤ (s.pad 0).unstarted 100)
      ∧ ¬ (s.areaBlocks 0 / 2 < (s.pad 0).piecesUsed + max 1 (ceilDiv b.length 65536))) ∧
    (let u := paired 1 { live with programs := busy }
     ¬ ((u.qp 100).depth ≤ (u.pad 0).unstarted 100) ∧ 16 ≤ (u.pad 0).activeCount
      ∧ ¬ (u.areaBlocks 0 / 2 < (u.pad 0).piecesUsed + max 1 (ceilDiv b.length 65536))) ∧
    (let u := paired 1 { live with programs := List.replicate 16 { oneProgram 0 with active := false } }
     (u.qp 100).depth ≤ (u.pad 0).unstarted 100) ∧
    (let u := paired 1 { live with programs := List.replicate 32 (oneProgram 0) }
     u.areaBlocks 0 / 2 < (u.pad 0).piecesUsed + max 1 (ceilDiv b.length 65536)) ∧
    (let u := s.modQp 100 fun x => { x with held := [.write 0 0 [1]] }
     u.reaches 100 = true ∧ (u.pad 0).programs = [] ∧ (u.qp 100).held ≠ [] ∧ (s.qp 100).held = []) := by
  decide +kernel

theorem witness_programs_end :
    let done := oneProgram 1
    let s := paired 1 { live with programs := [done] }
    ((s.pad 0).program 0 = some done ∧ done.recompute = none ∧ programOver (s.pad 0) done = true
      ∧ (s.pad 0).active = true ∧ (s.pad 0).programs.length = 1 ∧ (s.qp done.qp).ready = true
      ∧ s.portUp (s.qp done.qp).port = true ∧ done.stop = none) ∧
    (let u := paired 1 { live with phase := .deleting, programs := [done] }
     (u.pad 0).program 0 = some done ∧ programOver (u.pad 0) done = true ∧ (u.pad 0).active = false) ∧
    (let u := paired 1 { live with programs := [oneProgram 0] }
     (u.pad 0).program 0 = some (oneProgram 0) ∧ programOver (u.pad 0) (oneProgram 0) = false) ∧
    (done.ident < 2 ^ 32 ∧ done.issued < 2 ^ 32 ∧ done.completed < 2 ^ 32) := by
  decide +kernel

/-! ### Witnesses: chip links and time -/

/-- A link in a state whose peer is link 2 of device 5. -/
def linkIn (x : LinkState) : Link := { Link.fresh with state := x, peer := some (5, 2) }

/-- `dev` with link 3 as given. -/
def wired (l : Link) : State := dev.setLink 3 l

/-- A header of one type from device 5 to `dev`, with its payload's slots and CRC. -/
def headerOf (type : Nat) (payload : List Byte) : MsgHeader :=
  { type := type, flags := 0, lane := 4, hops := 0, dest := 0, source := 5, slots := payload.length / 64, seq := 0,
    ack := 0, epoch := 0, step := 0, flow := 0, number := 0, offset := 0, word := 0, crc := payloadCrc payload }

def noMsg : FabMsg := { header := [], payload := [] }

/-- A message of lane 0 from the neighbour, header and payload, as it comes over a link. -/
def laneZeroBytes (type : Nat) (payload : List Byte) : List Byte :=
  let m := laneZero dev type 0 payload
  m.header ++ m.payload

/-- A link-control message with flags, an acknowledged and an expected sequence. -/
def controlMessage (flags ack expected : Nat) : List Byte :=
  withCrc (leBytes 1 0x10 ++ leBytes 1 flags ++ leBytes 14 0 ++ leBytes 2 ack ++ leBytes 2 expected ++ leBytes 40 0)

theorem witness_message_headers :
    let h := headerOf 1 (List.replicate 64 1)
    (h.type < 2 ^ 8 ∧ h.flags < 2 ^ 8 ∧ h.lane < 2 ^ 8 ∧ h.hops < 2 ^ 8 ∧ h.dest < 2 ^ 32 ∧ h.source < 2 ^ 32
      ∧ h.slots < 2 ^ 16 ∧ h.seq < 2 ^ 16 ∧ h.ack < 2 ^ 16 ∧ h.epoch < 2 ^ 32 ∧ h.step < 2 ^ 64 ∧ h.flow < 2 ^ 32
      ∧ h.number < 2 ^ 32 ∧ h.offset < 2 ^ 64 ∧ h.word < 2 ^ 32 ∧ h.crc < 2 ^ 32) ∧
    (addrOf 63 255 15 = 2 ^ 18 - 1) := by
  decide +kernel

theorem witness_link_receipt :
    let pl : List Byte := List.replicate 64 1
    let hd := (headerOf 1 pl).bytes
    let s := wired (linkIn .up)
    let h := parseMsg hd
    (s.link 3).isUp = true ∧ hd.length = 64 ∧ headerCrcOk hd = true ∧ 1 ≤ h.type ∧ h.type ≤ 6
      ∧ h.seq = (s.link 3).rxSeq ∧ pl.length = 64 * h.slots ∧ payloadCrc pl = h.crc ∧ reservedSet hd = false
      ∧ h.slots ≤ 1024 ∧ (h.flags.testBit 0 = true → h.slots ≤ 4) ∧ h.dest = s.address
      ∧ (s.link 3).arriving = [] ∧ (s.link 3).taken = []
      ∧ FabMsg.bodyReserved { header := hd, payload := pl } = false
      ∧ headerCrcOk (hd.set 0 2) = false
      ∧ ([] : List Byte).length < 64 * h.slots ∧ (s.link 3).mayBegin h.lane = true
      ∧ { linkIn .up with arriving := [{ header := hd, payload := [] }] }.arriving =
          [] ++ [{ header := hd, payload := ([] : List Byte) }] := by
  decide +kernel

theorem witness_link_control :
    let s := wired (linkIn .up)
    let ab := (headerOf 0x13 []).bytes
    (ab.length = 64 ∧ (parseMsg ab).type = 0x13 ∧ headerCrcOk ab = true ∧ (parseMsg ab).seq = (s.link 3).rxSeq) ∧
    ((s.link 3).isUp = true ∧ (s.link 3).waiting = []) ∧
    (∀ f ∈ [0, 2, 1, 4, 8], controlOk (controlMessage f 0 9) = true ∧ controlReserved (controlMessage f 0 9) = false
      ∧ leField (controlMessage f 0 9) 1 1 = f) ∧
    (let l := { linkIn .up with unacked := [(8, noMsg), (9, noMsg)] }
     l.unacked.findIdx? (fun x => x.1 == leField (controlMessage 1 0 9) 0x12 2) = some 1 ∧ l.replays < 7) ∧
    ({ linkIn .up with ackDue := true }.ackDue = true ∧ { linkIn .up with ackDue := true }.isUp = true) := by
  decide +kernel

/-- An identity from a device, a link number and a generation. -/
def identityOf (addr link generation : Nat) : List Byte :=
  leBytes 4 addr ++ leBytes 1 link ++ leBytes 1 0 ++ leBytes 2 generation ++ List.replicate 56 0

theorem witness_links_fall :
    let l := { linkIn .up with unacked := [(0, noMsg)] }
    ((wired l).link 3).isUp = true ∧ l.unacked ≠ [] ∧ l.granted = false ∧ l.lastDown = none ∧
    { l with lastDown := some 0 }.lastDown = some 0 ∧ dev.now < 0 + 1000000000 ∧ (1 : Nat) ≠ 0 := by
  decide +kernel

theorem witness_links_train :
    let s := wired { linkIn .identify with peer := none }
    let other := { s with objs := (s.setObj 0x6000 0 7).objs }
    ((wired (linkIn .training)).power.running = true ∧ ((wired (linkIn .training)).link 3).state = .training
      ∧ (linkIn .training).testPending = false ∧ { linkIn .training with testPending := true }.testPending = true) ∧
    ((s.link 3).state = .identify ∧ (s.link 3).testPending = false ∧ spareLink s.address 3 = false) ∧
    (let b := laneZeroBytes 0x12 (identityOf 14 2 1)
     laneZeroOk 0x12 b = true ∧ reservedSet (b.take 64) = false ∧ leField b 0x40 4 < 2 ^ 18 ∧ leField b 0x45 1 < 2
      ∧ zeroField b 0x50 48 = true
      ∧ identityOk s 3 (leField b 0x40 4) (leField b 0x44 1) (leField b 0x46 2) (s.link 3).cabling = true
      ∧ identityOk other 3 (leField b 0x40 4) (leField b 0x44 1) (leField b 0x46 2) (other.link 3).cabling = false) ∧
    ((linkIn .training).waiting = [] ∧ 2 ≤ (linkIn .training).credits 0) ∧
    (let u := wired { linkIn .identify with testPending := true }
     (u.link 3).state = .identify ∧ (u.link 3).testPending = true ∧ (u.link 3).peer.isSome = true) := by
  decide +kernel

theorem witness_bypass :
    let down := powered fun w => { w with running := false }
    let pair := (wired (linkIn .bypass)).setLink 2 { linkIn .bypass with granted := true }
    (down.power.running = false ∧ down.power.aoGood = true ∧ down.power.aoClock = true) ∧
    ((wired (linkIn .up)).linkBusy 3 = false ∧
      (let u := { devPad { live with
              groups := live.groups.set 0 { Group.fresh with state := .formed, members := [0, 5] } } with
          links := (wired (linkIn .up)).links }
       u.linkBusy 3 = true ∧ (u.link 3).isUp = true)) ∧
    ((pair.link 3).state = .bypass ∧ (leField (controlMessage 8 0 0) 1 1).testBit 3 = true
      ∧ (pair.link (pairMate 3)).granted = true ∧ pair.obj 0x500D 0 = 0
      ∧ ((wired (linkIn .bypass)).link (pairMate 3)).granted = false) := by
  decide +kernel

/-- `wired` with its time state, and object 0x5C01 at a state. -/
def atTime (t : TimeState) (x : Nat) : State := { (wired (linkIn .up)).setObj 0x5C01 0 x with time := t }

/-- An exchange from a locked neighbour two hops from source 7. -/
def exchangeOf (kind : Nat) : List Byte :=
  leBytes 1 kind ++ leBytes 1 2 ++ leBytes 1 1 ++ leBytes 5 0 ++ leBytes 8 10 ++ leBytes 4 0 ++ leBytes 8 20
    ++ leBytes 4 0 ++ leBytes 8 20 ++ leBytes 4 0 ++ leBytes 4 7 ++ leBytes 16 0

theorem witness_time_exchanges :
    let s := atTime { TimeState.fresh with setOnce := true, asked := [(3, 10, 0)] } 0
    let ask := laneZeroBytes 0x11 (exchangeOf 1)
    let reply := laneZeroBytes 0x11 (exchangeOf 2)
    s.servesTime = false ∧ (s.link 3).isUp = true ∧ exchangeOk 1 ask = true ∧ reservedSet (ask.take 64) = false ∧
    exchangeReserved (ask.drop 64) = false ∧ s.time.frac < 2 ^ 32 ∧ s.time.setOnce = true ∧
    (∀ n, n < 48 → (s.link n).isUp = true → (s.link n).waiting = [] ∧ 2 ≤ (s.link n).credits 0) ∧
    exchangeOk 2 reply = true ∧ reservedSet (reply.take 64) = false ∧ exchangeReserved (reply.drop 64) = false ∧
    (3, leField reply 0x48 8, leField reply 0x50 4) ∈ s.time.asked ∧
    ((((s.takeLaneZero 3).hear 3 (reply.drop 64)).timeParent).map (·.link)) = some 3 := by
  decide +kernel

theorem witness_time_states :
    ((atTime TimeState.fresh 1).obj 0x5C01 0 = 1 ∧ (atTime TimeState.fresh 1).servesTime = false) ∧
    (atTime TimeState.fresh 2).obj 0x5C01 0 = 2 ∧
    (let s := (atTime { TimeState.fresh with lowerSeen := some 0 } 0).setObj 0x5C00 0 1
     s.candidate = true ∧ s.time.lowerSeen.isSome = true) ∧
    (let s := ((atTime { TimeState.fresh with setOnce := true, lastSync := some (1, 2) } 0).setObj 0x5C08 0 1).setObj
        0x3801 (dev.obj 0x5C09 0) 2
     s.obj 0x5C08 0 ≠ 0 ∧ s.portUp (s.obj 0x5C09 0) = true ∧ s.time.setOnce = true
      ∧ s.time.lastSync = some (1, 2) ∧ (s.setObj 0x5C00 0 1).servesTime = true) := by
  decide +kernel

/-! ### Witnesses: groups, the fabric and the expert directory -/

/-- A definition of job 0x10001 at epoch 1 and step 5, its member map at address 0, within 100 ms. -/
def definitionOf (count rank : Nat) : List Byte :=
  leBytes 4 0x10001 ++ leBytes 4 count ++ leBytes 4 rank ++ leBytes 4 1 ++ leBytes 8 5 ++ leBytes 8 0
    ++ leBytes 4 100 ++ List.replicate 28 0

/-- Slot 0 in a state with a definition of `count` members, the devices 0, 1 and so on. -/
def groupIn (x : GroupState) (count rank : Nat) : Group :=
  { Group.fresh with state := x, definition := definitionOf count rank, members := List.range count }

/-- A paddock of the job at epoch 1 and step 5 with slot 0 as given, a fixed block that holds the map 0, 1,
and a directory share of four entries. -/
def grouped (g : Group) : State :=
  (roomy { live with
    allocs := [(0, fixedBlock)], hbm := [⟨4, 1⟩], groups := live.groups.set 0 g
    objs := [⟨okey 0x5820 0, 1⟩, ⟨okey 0x5821 0, 5⟩] }).setObj 0x5803 0 (4 * 2 ^ 32)

theorem witness_groups_form :
    let form := call 2 0 0xFF 0x5813 0 [1]
    let ready := fun (u : State) (r : Req) =>
      (u.pad r.paddock).active && !(u.pad r.paddock).isStandby && formOk u r.paddock r.sub
    serves .groupForm (grouped (groupIn .defined 2 0)) form (fun u r => ready u r && decide (r.paddock < 8)
      && decide (r.sub < 16) && !(u.pad r.paddock).groups.toList.any Group.standing
      && ((u.pad r.paddock).group r.sub).n == 2) = true ∧
    serves .groupForm (grouped (groupIn .defined 1 0)) form (fun u r => ready u r
      && ((u.pad r.paddock).group r.sub).n == 1) = true ∧
    serves .groupForm (grouped (groupIn .empty 1 0)) form (fun u r => !ready u r) = true := by
  decide +kernel

theorem witness_groups_dissolve :
    let dissolve := call 2 0 0xFF 0x5813 0 [2]
    serves .groupDissolve (grouped (groupIn .formed 2 0)) dissolve (fun u r =>
      ((u.pad r.paddock).group r.sub).standing && decide (r.paddock < 8)) = true ∧
    serves .groupDissolve (grouped (groupIn .empty 2 0)) dissolve (fun u r =>
      !((u.pad r.paddock).group r.sub).standing) = true ∧
    (let s := grouped (groupIn .dissolving 2 0)
     ((s.pad 0).group 0).state = .dissolving ∧ ((s.pad 0).ops.any fun o => o.group == 0) = false
      ∧ ((s.pad 0).commit.group ≠ some 0 ∨ (s.pad 0).commit.flight = none) ∧ ((s.pad 0).group 1).state ≠ .dissolving)
      := by
  decide +kernel

/-- A formation message of a kind for slot 0, from device 1. -/
def formation (kind slot first covered verdict : Nat) : Delivered :=
  { kind := 4, source := 1, epoch := 1, step := 5, flow := 0, number := 0, offset := 0, word := 0x10000
    payload := Formation.bytes { kind := kind, slot := slot, generation := 1, first := first, covered := covered
                                 firmware := 0, step := 5, bound := 0, flags := 0, verdict := verdict
                                 lowest := 0xFFFFFFFF, digest := [] } 0 }

/-- A message is the next formation message of its kind, and `ok` holds of the group it names. -/
def formationComes (kind : Nat) (g : Group) (m : Delivered) (ok : Group → Formation → Bool) : Bool :=
  let s := { grouped g with inbox := [m] }
  match s.take fun m => m.kind == 4 && m.payload.length == 128 && leField m.payload 0 1 == kind with
  | some (y, u) =>
    let x := parseFormation m.payload
    let h := (u.pad 0).group x.slot
    y == m && u.jobPaddock m.tag == some 0 && !formationReserved m.payload && ok h x
      && (16 ≤ x.slot || (h.state != .empty && h.tag == m.tag))
  | none => false

theorem witness_formation_messages :
    formationComes 1 (groupIn .defined 2 1) (formation 1 0 0 0 0) (fun g x => x.slot == 0 && g.state != .forming)
      = true ∧
    formationComes 1 (groupIn .forming 2 1) (formation 1 0 0 0 0) (fun g x =>
      x.slot == 0 && g.state == .forming && g.rank != 0 && g.reports == []) = true ∧
    formationComes 2 (groupIn .forming 3 0) (formation 2 0 1 1 0) (fun g x => g.state == .forming
      && !(g.reports.any fun y => y.first == x.first)) = true ∧
    formationComes 3 (groupIn .forming 2 1) (formation 3 0 0 0 0) (fun g _ => g.state == .forming) = true ∧
    formationComes 3 (groupIn .formed 2 1) (formation 3 0 0 0 0) (fun g _ => g.state != .forming) = true ∧
    formationComes 4 (groupIn .formed 2 1) (formation 4 0 0 0 0) (fun g _ => g.standing) = true ∧
    formationComes 4 (groupIn .defined 2 1) (formation 4 0 0 0 0) (fun g _ => !g.standing) = true ∧
    formationComes 1 (groupIn .defined 2 1) (formation 1 16 0 0 0) (fun _ x => decide (16 ≤ x.slot)) = true ∧
    (let m := { formation 1 0 0 0 0 with word := 0x70000 }
     let s := { grouped (groupIn .defined 2 1) with inbox := [m] }
     match s.take fun m => m.kind == 4 && m.payload.length == 128 && leField m.payload 0 1 == 1 with
     | some (y, u) => y == m && u.jobPaddock m.tag == none && !formationReserved m.payload
     | none => false) = true ∧
    (mergeReports [{ first := 1, covered := 1, flags := 0, lowest := 0, bound := 0 }] 0).covered < subtreeSize 3 0 ∧
    subtreeSize 1 0 ≤ (mergeReports [{ first := 1, covered := 1, flags := 0, lowest := 0, bound := 0 }] 0).covered ∧
    ((grouped (groupIn .forming 2 0)).pad 0).group 0 = groupIn .forming 2 0 ∧ (groupIn .forming 2 0).rank = 0 ∧
    (groupIn .forming 2 1).rank ≠ 0 := by
  decide +kernel

/-- A directory load: mode, argument, first entry, count and step. -/
def loadValue (mode arg first count step : Nat) : List Byte :=
  leBytes 8 mode ++ leBytes 8 arg ++ leBytes 4 first ++ leBytes 4 count ++ leBytes 8 step

theorem witness_directory :
    let s := grouped (groupIn .formed 2 0)
    let x := fun (r : Req) => parseLoad (leBytes 32 (cleaned r.index r.num))
    serves .directoryLoadCopy s (call 2 0 0xFF 0x5830 0 (loadValue 0 64 0 1 6)) (fun u r =>
      loadOk u r.paddock (x r) && (x r).arg % 16 == 0 && (u.pad r.paddock).inFixed (x r).arg (16 * (x r).count)
        && !((copiedEntries u r.paddock (x r)).any entryReserved)) = true ∧
    serves .directoryLoadCopy s (call 2 0 0xFF 0x5830 0 (loadValue 0 64 0 5 6)) (fun u r =>
      !loadOk u r.paddock (x r)) = true ∧
    serves .directoryLoadCanonical s (call 2 0 0xFF 0x5830 0 (loadValue 1 (4 + 2 * 2 ^ 32) 0 4 6)) (fun u r =>
      loadOk u r.paddock (x r) && (x r).arg % 2 ^ 32 == (x r).count && within 1 262144 ((x r).arg >>> 32)) = true ∧
    serves .directoryLoadCanonical s (call 2 0 0xFF 0x5830 0 (loadValue 1 4 0 4 6)) (fun _ r =>
      !within 1 262144 ((x r).arg >>> 32)) = true ∧
    serves .directoryDump s (call 2 0 0xFF 0x5832 0 (leBytes 8 64)) (fun u r =>
      (u.pad r.paddock).inFixed r.num (max 1 (shareBytes u r.paddock).length) && u.memoriesOk
        && decide (r.num + (shareBytes u r.paddock).length ≤ hbmEnd)) = true ∧
    serves .directoryDump s (call 2 0 0xFF 0x5832 0 (leBytes 8 hbmEnd)) (fun u r =>
      !(u.pad r.paddock).inFixed r.num (max 1 (shareBytes u r.paddock).length)) = true ∧
    (0 < 3 ∧ 4 < 5) := by
  decide +kernel

/-- An instruction record with its opcode, modifier and parameters, its slots absent. -/
def recordOf (op m : Nat) (ps : List Nat) : Rec :=
  { opcode := op, flags := 0, modifier := m, counter := 0xFF, reserved := true, slots := List.replicate 8 0xFFFF
    params := ps ++ List.replicate (10 - ps.length) 0 }

/-- A broadcast from rank 1 that awaits its data, as operation 9 of slot 0. -/
def awaiting (timeout : Nat) (done : Bool) : FabOp :=
  { flight := 1, index := 0, group := 0, seq := 9, kind := 3, epoch := 1, step := 5, seed := 0
    r := recordOf 0x0600 3 [0, 0, 0, 1, timeout], ts := [none], got := [], bad := false, rows := false, done := done }

/-- Data of the operation from a device, at an epoch and step. -/
def broadcastData (kind source epoch step seq : Nat) : Delivered :=
  { kind := kind, source := source, epoch := epoch, step := step, flow := seq, number := 0, offset := 0
    word := 0x10000 + (if kind = 1 then 3 else if kind = 2 then 6 else 8), payload := List.replicate 64 0 }

/-- A formed group in which operation 9 awaits its data. -/
def collecting (o : FabOp) (m : Delivered) : State :=
  let s := grouped { groupIn .formed 2 0 with issued := 10 }
  { s.modPad 0 fun d => { d with ops := [o] } with inbox := [m] }

/-- A message is the next of its type, and `ok` holds of what becomes of it. -/
def fabricComes (o : FabOp) (m : Delivered) (ok : State → Judged → Bool) : Bool :=
  let s := collecting o m
  match s.take fun y => y.kind == m.kind && !(judge s y).waiting with
  | some (y, u) => y == m && ok (u.pairSend m) (judge s m)
  | none => false

theorem witness_fabric_messages :
    (∀ k ∈ [1, 2, 3], fabricComes (awaiting 0 false) (broadcastData k 1 0 5 9) (fun _ j => match j with
      | .counted p i => p == 0 && i == 0x5840
      | _ => false) = true) ∧
    fabricComes (awaiting 0 false) (broadcastData 1 1 1 6 9) (fun _ j => match j with
      | .mismatch p => p == 0
      | _ => false) = true ∧
    fabricComes (awaiting 0 true) (broadcastData 1 1 1 5 9) (fun _ j => match j with
      | .gone => true
      | _ => false) = true ∧
    fabricComes (awaiting 0 false) (broadcastData 1 1 1 5 9) (fun u j => match j with
      | .used p o x => p == 0 && match look (opCtx u p { o with got := o.got ++ [x] }) { o with got := o.got ++ [x] } with
        | .ends _ => true
        | .waits _ _ => false
      | _ => false) = true ∧
    (let s := collecting (awaiting 1 false) (broadcastData 1 1 1 5 9)
     (s.pad 0).ops.find? (fun o => o.flight == 1) = some (awaiting 1 false) ∧ (awaiting 1 false).done = false
      ∧ (awaiting 1 false).r.p 4 ≠ 0 ∧ (awaiting 0 false).r.p 4 = 0) := by
  decide +kernel

theorem witness_reduction_order :
    let got : List Piece := (List.range 2).map fun r =>
      { rank := r, kind := 0, level := 0, offset := 0, bytes := List.replicate 513 0 }
    (∀ x ∈ got, x.level = 0) ∧ (∀ r, r < 2 → (nodeAt got 2 0 4 0 r).isSome = true) := by
  decide +kernel

theorem witness_carriages :
    let s := (paired 1 live).setQp { QueuePair.blank 3 with state := 1 }
    let hd := (headerOf 1 []).bytes
    s.reaches 3 = true ∧ s.outbox = [] ∧ s.pauses = [] ∧ carriageOk hd [0] = false ∧ carriageOk hd [] = true ∧ 1 ≤ (parseMsg hd).type ∧
    (parseMsg hd).type ≤ 6 ∧ reservedSet hd = false ∧
    FabMsg.bodyReserved { header := hd, payload := [] } = false ∧ (parseMsg hd).dest = s.address := by
  decide +kernel

theorem witness_fabric_reset : (devPad live).power.running = true ∧
    afterward (exec .mainPowerLoss (devPad live)) (fun t => !t.power.running) = true ∧
    afterward (exec (.mainReset 10) (devPad live)) (fun t => !t.power.running) = true ∧
    afterward (exec .refclkSysLoss (devPad live)) (fun t => !t.power.running) = true ∧
    afterward (exec (.thermalTrip .mainDie 115000) (devPad live)) (fun t => !t.power.running) = true := by
  decide +kernel

/-! ### Witnesses: commit, partner copies and recovery -/

/-- The SHA-512 of no bytes (FIPS 180-4). -/
def emptyDigest : List Byte :=
  (leBytes 64 0xCF83E1357EEFB8BDF1542850D66D8007D620E4050B5715DC83F4A921D36CE9CE47D0D13C5D85F2B0FF8318D2877EEC2F63B931BD47417A81A538327AF927DA3E).reverse

/-- An image of a step that holds nothing, its length as given. -/
def imageOf (step length : Nat) : List Byte :=
  ImageHead.bytes { job := 0x10001, rank := 0, step := step, epoch := 1, loss := 0, length := length, serial := 0
                    entries := 0, record := 0, flags := 0, state := emptyDigest, recordDigest := emptyDigest }

/-- That image in its slot. -/
def heldImage (step : Nat) (complete : Bool) : Image :=
  { step := step, bytes := imageOf step 192, total := 192, complete := complete, sealed := false }

/-- The paddock of `grouped` with its commit group formed of two members, and commit slots of 1 GiB. -/
def committing (rank : Nat) (f : Paddock → Paddock) : State :=
  ((grouped (groupIn .formed 2 rank)).setObj 0x9003 0 131072).modPad 0 fun d =>
    f { d with
      objs := [⟨okey 0x5820 0, 1⟩, ⟨okey 0x5821 0, 5⟩, ⟨okey 0x5822 0, 0x10001⟩]
      commit := { d.commit with group := some 0 } }

/-- Partner-copy bytes of a kind for parity 0, from device 1. -/
def copied (kind offset : Nat) (b : List Byte) : Delivered :=
  { kind := 5, source := 1, epoch := 1, step := 5, flow := 0, number := 0, offset := offset
    word := copyWord kind 0 0 1, payload := b }

/-- A message is the next partner-copy message of its kind, and `ok` holds of the paddock of its job. -/
def copyComes (kind : Nat) (s : State) (m : Delivered) (ok : State → Bool) : Bool :=
  match ({ s with inbox := [m] } : State).take fun m => m.kind == 5 && copyKind m == kind with
  | some (y, u) => y == m && u.jobPaddock m.tag == some 0 && ok u
  | none => false

theorem witness_image_data :
    let s := committing 1 id
    let next := fun (u : State) (m : Delivered) => addPiece ((u.pad 0).commit.held.getD (copyParity m) none) m
    let whole := copied 0 0 (imageOf 6 192)
    let part := copied 0 0 (imageOf 6 256)
    let spoiled := copied 0 0 ((imageOf 6 192).set 64 0)
    let large := copied 0 0 (imageOf 6 (2 ^ 31))
    copyComes 0 s large (fun u => decide (u.commitSlotSize 0 < (next u large).total)) = true ∧
    copyComes 0 s whole (fun u => decide ((next u whole).total ≤ u.commitSlotSize 0)
      && decide (192 ≤ (next u whole).bytes.length) && decide ((next u whole).total ≤ (next u whole).bytes.length)
      && digestsOk ((next u whole).bytes.take (next u whole).total)) = true ∧
    copyComes 0 s spoiled (fun u => decide ((next u spoiled).total ≤ u.commitSlotSize 0)
      && decide ((next u spoiled).total ≤ (next u spoiled).bytes.length)
      && !digestsOk ((next u spoiled).bytes.take (next u spoiled).total)) = true ∧
    copyComes 0 s part (fun u => decide ((next u part).total ≤ u.commitSlotSize 0)
      && decide ((next u part).bytes.length < (next u part).total)) = true := by
  decide +kernel

theorem witness_image_answers :
    let s := fun (n : Option Nat) (i : Option Image) => committing 0 fun d =>
      { d with commit := { d.commit with running := n, home := [i, none] } }
    let mine := fun (u : State) =>
      (u.pad 0).commit.running.isSome && (u.pad 0).commit.running == ((u.pad 0).commit.home.getD 0 none).map (·.step)
    (∀ k ∈ [1, 2], copyComes k (s (some 6) (some (heldImage 6 false))) (copied k 0 []) (fun u => mine u) = true) ∧
    (∀ k ∈ [1, 2], copyComes k (s none none) (copied k 0 []) (fun u => !mine u) = true) ∧
    copyComes 3 (s none (some (heldImage 6 true))) (copied 3 0 []) (fun u =>
      (u.pad 0).commit.home.getD 0 none == some (heldImage 6 true)) = true ∧
    copyComes 3 (s none (some (heldImage 6 false))) (copied 3 0 []) (fun u =>
      (u.pad 0).commit.home.getD 0 none == some (heldImage 6 false)) = true ∧
    copyComes 3 (s none none) (copied 3 0 []) (fun u => (u.pad 0).commit.home.getD 0 none == none) = true ∧
    copyClass { copied 3 0 [] with word := copyWord 3 0 1 1 } = 1 := by
  decide +kernel

/-- A recovery at attempt 1 and epoch 2, as a member. -/
def attempt : Recovery := Recovery.start 1 2 0x51 0 0 1

theorem witness_pull_data :
    let s := committing 1 fun d => { d with recovery := some { attempt with restoring := true } }
    let comes := fun (b : List Byte) (ok : Image → Bool) =>
      match ({ s with inbox := [copied 4 0 b] } : State).take fun m => m.kind == 5 && copyKind m == 4 with
      | some (m, u) => pullPaddock u m.tag == some 0 && copyClass m == 0
          && ok (addPiece ((u.pad 0).commit.home.getD (copyParity m) none) m)
      | none => false
    let all := fun (i : Image) => decide (192 ≤ i.bytes.length) && decide (i.total + 8 ≤ i.bytes.length)
      && decide (i.total + 8 + leField i.bytes i.total 8 ≤ i.bytes.length)
    comes (imageOf 6 192 ++ leBytes 8 0) (fun i => all i && digestsOk (i.bytes.take i.total)) = true ∧
    comes ((imageOf 6 192).set 64 0 ++ leBytes 8 0) (fun i => all i && !digestsOk (i.bytes.take i.total)) = true ∧
    comes (imageOf 6 192) (fun i => !all i) = true := by
  decide +kernel

theorem witness_commit_ends :
    let s := committing 0 fun d => { d with commit := { d.commit with running := some 6, flight := some 1, limit := 5 } }
    let t := s.modPad 0 fun d => { d with
      recovery := some { attempt with replay := some 6 }, objs := d.objs ++ [⟨okey 0x9001 0, 5⟩] }
    ((s.pad 0).present = true ∧ (s.pad 0).commit.running = some 6 ∧ (s.pad 0).commit.flight = some 1
      ∧ (s.pad 0).shadowsOk = true ∧ (s.pad 0).replaying = none ∧ (s.pad 0).commit.limit ≠ 0) ∧
    (t.pad 0).replaying ≠ none ∧ (∀ e ∈ (s.pad 0).allocs, e.2.homeLost = []) ∧ Commit.fresh.limit = 0 := by
  decide +kernel

/-- No control message of a kind waits for the job of paddock 0. -/
def noControl (s : State) (kind : Nat) : Bool :=
  (s.take fun m => m.kind == 6 && leField m.payload 0 1 == kind && leField m.payload 4 4 == (s.pad 0).job).isNone

/-- A recovery control message from a device. -/
def controlFrom (source : Nat) (x : Control) : Delivered :=
  { kind := 6, source := source, epoch := 1, step := 5, flow := 0, number := 0, offset := 0, word := 0x10000
    payload := x.bytes }

/-- A message is the next recovery control message of its kind, and `ok` holds of it. -/
def controlComes (s : State) (source : Nat) (x : Control) (ok : State → Delivered → Control → Bool) : Bool :=
  match ({ s with inbox := [controlFrom source x] } : State).takeControl x.kind with
  | some (m, y, u) => m == controlFrom source x && ok u m y
  | none => false

theorem witness_recovery_calls :
    let s := fun (rank : Nat) (r : Recovery) => committing rank fun d => { d with recovery := some r }
    (noControl (s 1 attempt) 1 = true ∧ ((s 1 attempt).pad 0).present = true
      ∧ ((s 1 attempt).pad 0).recovery = some attempt ∧ attempt.leading = false ∧ attempt.restoring = false
      ∧ attempt.abandon = none ∧ ((s 1 attempt).pad 0).commitRank ≠ 0 ∧ attempt.called = 0 ∧ attempt.reports = []) ∧
    ((s 1 attempt).pad 0).stopped = false ∧ ((s 0 attempt).pad 0).commitRank = 0 ∧
    2 ≤ ((s 0 attempt).pad 0).commitCount ∧
    (let u := (s 1 attempt).modPad 0 fun d => d.setGroup 0 { d.group 0 with
        definition := definitionOf 4 1, members := [7, 0, 2, 3] }
     (u.pad 0).commitRank = 1 ∧ (u.pad 0).alternate = 2) := by
  decide +kernel

theorem witness_recovery_stops_and_reports :
    let x : Control := { kind := 2, attempt := 1, job := 0x10001, epoch := 2 }
    let s := (committing 1 id).modPad 0 fun d => { d with objs := d.objs ++ [⟨okey 0x9000 0, 1⟩] }
    controlComes s 0 x (fun u _ y => u.memberPaddock y.job == some 0 && (u.pad 0).obj 0x9000 0 == 1
      && (u.pad 0).recovery == none && decide ((u.pad 0).epoch < y.epoch)) = true ∧
    controlComes s 0 { x with epoch := 1 } (fun u _ y => u.memberPaddock y.job == some 0
      && (u.pad 0).obj 0x9000 0 == 1 && decide (y.epoch ≤ (u.pad 0).epoch)) = true ∧
    (let r := { attempt with leading := true }
     controlComes ((committing 0 fun d => { d with recovery := some r })) 1 { x with kind := 3 } (fun u m y =>
      u.memberPaddock y.job == some 0 && (u.pad 0).recovery == some r && r.epoch == y.epoch && r.fixed == false
        && ((u.pad 0).group (u.pad 0).commitSlot).members.findIdx? (fun a => a == m.source) == some 1
        && decide (0 < (u.pad 0).commitCount) && r.reports == []) = true) := by
  decide +kernel

/-- A member's report that step 5 is sealed, with no image, or with images of step 6. -/
def reportOf (rank : Nat) (st : Nat) : MemberReport :=
  { rank := rank, sealedStep := st, steps := List.replicate 4 (if st = 5 then 0 else st % 2 ^ 63 + 2 ^ 63) }

theorem witness_probe_and_abandon :
    let r := fun (l : List MemberReport) => { attempt with leading := true, reports := l }
    let s := fun (l : List MemberReport) (standbys : Nat) => committing 0 fun d =>
      { d with
        recovery := some (r l), objs := d.objs ++ [⟨okey 0x9008 0, 64 + standbys * 2 ^ 64⟩]
        commit := { d.commit with startStep := 5 }, hbm := [⟨4, 1⟩, ⟨64, 9⟩] }
    let failed := fun (l : List MemberReport) => (List.range 2).filter fun i => !(l.any fun m => m.rank == i)
    let live := fun (l : List MemberReport) =>
      (neededSteps 5 ((l.map (·.sealedStep)).foldl max 5)).all fun st => (List.range 2).all (sourceLive 2 l st)
    let first := fun (u : State) (l : List MemberReport) =>
      let r1 : Recovery := { r l with fixed := true, failed := failed l, restoreStep := 5, cursor := 0, plan := [] }
      nextStandby (u.pad 0) r1 (standbyList u 0) (standbyList u 0).length 0
    ((s [reportOf 0 5] 0).pad 0).recovery = some (r [reportOf 0 5]) ∧ ((s [reportOf 0 5] 0).pad 0).commitCount = 2 ∧
    (live [{ reportOf 0 6 with steps := [0, 0, 0, 0] }] = false) ∧
    (failed [reportOf 0 5] ≠ [] ∧ first (s [reportOf 0 5] 0) [reportOf 0 5] = none) ∧
    (live [reportOf 0 5] = true ∧ first (s [reportOf 0 5] 1) [reportOf 0 5] = some (0, 9)) ∧
    (live [reportOf 0 5, reportOf 1 5] = true ∧ failed [reportOf 0 5, reportOf 1 5] = []) ∧
    (let u := committing 0 fun d => { d with recovery := some { attempt with abandon := some 0x51 } }
     (u.pad 0).present = true ∧ noControl u 8 = true ∧ attempt.abandon = none) := by
  decide +kernel

theorem witness_plans :
    let x : Control := { kind := 4, attempt := 1, job := 0x10001, epoch := 2, steps := [5, 0, 0, 0] }
    let standby := roomy { live with objs := [⟨okey 0x9009 0, 0x10001 + 2 ^ 32⟩] }
    let follows := fun (u : State) (m : Delivered) (y : Control) =>
      mayFollow (u.pad 0) m y && !(y.plan.any fun e => u.address == (u.pad 0).commitAddr e.1)
    controlComes (committing 1 id) 0 x (fun u m y => u.memberPaddock y.job == some 0 && follows u m y) = true ∧
    controlComes (committing 1 id) 0 { x with epoch := 1 } (fun u m y =>
      u.memberPaddock y.job == some 0 && !follows u m y) = true ∧
    controlComes standby 3 { x with plan := [(1, 0)] } (fun u _ y => u.memberPaddock y.job == none
      && u.standbyPaddock y.job == some 0 && y.plan.find? (fun e => e.2 == u.address) == some (1, 0)
      && (u.pad 0).recovery == none) = true ∧
    controlComes standby 3 { x with kind := 6 } (fun u _ y => u.standbyPaddock y.job == some 0) = true ∧
    controlComes dev 3 { x with kind := 6 } (fun u _ y => u.standbyPaddock y.job == none) = true := by
  decide +kernel

theorem witness_standby_answers :
    let r := { attempt with leading := true, probing := some 9, failed := [1] }
    let s := fun (r : Recovery) => committing 0 fun d => { d with recovery := some r }
    let x : Control := { kind := 7, job := 0x10001, epoch := 2 }
    let is := fun (r : Recovery) (u : State) (y : Control) =>
      u.memberPaddock y.job == some 0 && (u.pad 0).recovery == some r
    controlComes (s attempt) 9 x (fun u m y => is attempt u y && attempt.probing != some m.source) = true ∧
    controlComes (s r) 9 x (fun u m y => is r u y && r.probing == some m.source && r.leading && !r.restoring
      && r.failed.length == r.plan.length + 1 && r.failed.length != r.plan.length
      && standbyList u 0 == []) = true := by
  decide +kernel

theorem witness_restores :
    let r := { attempt with restoring := true, restoreStep := 6 }
    let s := fun (r : Recovery) (i : Option Image) => committing 1 fun d =>
      { d with recovery := some r, commit := { d.commit with home := [i, none] } }
    let image := fun (u : State) (k : Nat) =>
      ((u.pad 0).commit.home.getD (k % 2) none).filter fun i => i.step == k && i.complete
    (((s r none).pad 0).recovery = some r ∧ r.restoring = true ∧ ((s r none).pad 0).obj 0x9001 0 ≠ 5
      ∧ r.rank ∉ r.restored ∧ r.nothing = false ∧ image (s r none) r.restoreStep = none) ∧
    { r with nothing := true }.nothing = true ∧ ((s r none).pad 0).settled = true ∧
    (image (s r (some (heldImage 6 true))) r.restoreStep = some (heldImage 6 true) ∧ r.replay = none) ∧
    controlComes (s r none) 0 { kind := 5, job := 0x10001, epoch := 2 } (fun u m y => u.memberPaddock y.job == some 0
      && (u.pad 0).recovery == some r && !r.restored.contains 0
      && ((u.pad 0).group (u.pad 0).commitSlot).members.findIdx? (fun a => a == m.source) == some 0) = true := by
  decide +kernel

/-! ### Witnesses: the issue of records -/

/-- A descriptor: address, format code and extents, its rows laid out one after the other. -/
def descriptor (addr code : Nat) (ext : List Nat) : List Byte :=
  leBytes 8 addr ++ leBytes 1 code ++ leBytes 1 ext.length ++ leBytes 6 0
    ++ ((ext ++ List.replicate (6 - ext.length) 1).flatMap (leBytes 4))
    ++ ((List.range 5).flatMap fun k =>
        leBytes 4 (if k + 1 < ext.length then (ext.take (k + 1)).foldl (· * ·) 1 else 0))
    ++ leBytes 4 0

/-- A record: opcode, modifier, parameters, and the descriptor of each operand slot. -/
def recordBytes (op m : Nat) (ps slots : List Nat) : List Byte :=
  leBytes 2 op ++ leBytes 1 0 ++ leBytes 1 m ++ leBytes 4 0
    ++ ((slots ++ List.replicate (8 - slots.length) 0xFFFF).flatMap (leBytes 2))
    ++ ((ps ++ List.replicate (10 - ps.length) 0).flatMap (leBytes 4))

/-- Paddock 0 with one active program of one record and its descriptors, 256 KiB of fixed HBM at 0, memory as
given, a queue pair to farm 1, and one directory entry. -/
def running (r : List Byte) (ds : List (List Byte)) (mem : Mem) (f : Paddock → Paddock) : State :=
  (paired 1 (f { live with
    allocs := [(0, allocOfBytes (allocValue 0 262144 0))], hbm := mem
    programs := [{ oneProgram 0 with nD := ds.length, body := .inline (r ++ ds.flatten) }] }))
  |>.setQp { QueuePair.blank 3 with state := 1 } |>.setObj 0x5803 0 (2 ^ 32)

/-- The next record is one of a row, and `ok` holds of its verdict. -/
def nextIs (op : Op) (code : Nat) (mine : Rec → Bool) (s : State) (ok : Verdict → Bool) : Bool :=
  match nextRec s 0 0 with
  | some (pr, some r) => r.opcode == code && mine r && ok (verdict op pr s 0 r (ctxOf s 0 pr r))
  | _ => false

/-- The next record runs: no writer is in flight, every check passes, no operand is in CXL or lost, and there is room. -/
def runsNow (op : Op) (s : State) : Bool :=
  match nextRec s 0 0 with
  | some (pr, some r) =>
    let c := ctxOf s 0 pr r
    let l := accessesOf op c
    let s1 := issuedState op s 0 0 pr r
    verdict op pr s 0 r c == .passes && !usesCxl (spansOf op c) && lostStatus s1 0 l == none
      && (s1.makeRoom 0 (needFor s1 0 (chargedAccesses pr l) + op.area c) (spansOf op c)).isSome
      && (s.writers 0).isEmpty
  | _ => false

/-- A record of a row runs, and the same record with a reserved byte set is refused as malformed. -/
def covers (op : Op) (code : Nat) (mine : Rec → Bool) (m : Nat) (ps slots : List Nat) (ds : List (List Byte))
    (mem : Mem := []) (f : Paddock → Paddock := id) : Bool :=
  let r := recordBytes code m ps slots
  nextIs op code mine (running r ds mem f) (· == .passes) && runsNow op (running r ds mem f)
    && nextIs op code mine (running (r.set 5 1) ds mem f) (· == .fails 0x01 0xFFFF)

def always (_ : Rec) : Bool := true

/-- An F32 vector of two elements at a KiB address, and a tensor of a format with extents. -/
def v2 (k : Nat) : List Byte := descriptor (1024 * k) 1 [2]
def td (k code : Nat) (ext : List Nat) : List Byte := descriptor (1024 * k) code ext

theorem witness_issue_elementwise :
    covers moveOp 0x0001 always 0 [] [0, 1] [v2 0, v2 1] = true ∧
    covers fillOp 0x0002 always 0 [0x3F800000] [0] [v2 0] = true ∧
    covers elemOp 0x0020 always 0 [] [0, 1, 2] [v2 0, v2 1, v2 2] = true ∧
    covers reduceOp 0x0021 always 0 [1] [0, 1] [td 0 1 [1], v2 1] = true ∧
    covers rotaryOp 0x0022 always 0 [] [0, 1] [v2 0, v2 1] = true ∧
    covers statsOp 0x0039 always 0 [] [0] [v2 0] = true := by
  decide +kernel

theorem witness_issue_matrix :
    let one := fun (k c : Nat) => td k c [1, 1]
    let flat := fun (k c : Nat) => td k c [1, 1, 1, 1, 1]
    let geo := [0x010101, 0, 0, 0x010101, 1]
    covers matmulOp 0x0008 always 0 [] [0, 1, 2] [one 0 1, one 1 3, one 2 3] = true ∧
    covers matmulGradOp 0x0009 always 1 [] [0, 0xFFFF, 1, 0xFFFF, 2] [one 0 1, one 1 3, one 2 3] = true ∧
    covers convOp 0x000A always 0 geo [0, 1, 2] [flat 0 1, flat 1 3, flat 2 3] = true ∧
    covers convGradOp 0x000B always 1 geo [0, 0xFFFF, 1, 0xFFFF, 2] [flat 0 1, flat 1 3, flat 2 3] = true ∧
    covers edgeConvOp 0x000C always 0 geo [0, 1, 2] [flat 0 1, flat 1 3, flat 2 3] = true ∧
    covers poolOp 0x000D always 0 [0x010101, 0x010101, 0, 0] [0, 1] [flat 0 1, flat 1 1] = true ∧
    covers boxdecodeOp 0x0048 always 0 [] [0, 1, 2] [td 0 1 [4, 1], td 1 1 [4, 1], td 2 1 [4, 1]] = true ∧
    covers suppressOp 0x0049 always 0 [0, 1] [0, 1, 2, 3] [td 0 10 [1, 1], td 1 1 [4, 1, 1], td 2 1 [1, 1], td 3 12 [1]]
      = true := by
  decide +kernel

/-- A page pool of one page at address 0: its header holds its page count. -/
def poolMem : Mem := [⟨33032, 1⟩]

theorem witness_issue_attention :
    let h := fun (k c : Nat) => td k c [16, 1, 1]
    let seqs := fun (k : Nat) => td k 10 [2, 1]
    let rows := descriptor 65536 12 [2, 2, 1]
    covers attnFwdOp 0x0010 always 0 [0x3F800000, 0, 0, 0, 0, 1] [0, 1, 2, 3, 4] [h 0 1, h 1 3, h 2 3, h 3 3, seqs 4]
      = true ∧
    covers attnBwdOp 0x0011 always 0 [0x3F800000, 0, 0, 0, 0, 1] [0, 1, 2, 3, 4, 5, 6, 7]
      [h 0 1, h 1 1, h 2 1, h 3 3, h 4 3, h 5 3, h 6 3, seqs 7] = true ∧
    covers kvAppendOp 0x0012 always 0 [0, 0xFFFFFFFF] [0, 1, 2, 3, 4]
      [descriptor 0 3 [128, 128, 1], rows, h 80 1, h 81 1, seqs 82] poolMem = true ∧
    covers kvForkOp 0x0013 always 0 [0, 1, 0] [0, 1] [rows, descriptor 98304 12 [2, 2, 1]] poolMem = true ∧
    covers kvFreeOp 0x0014 always 0 [0] [0] [rows] poolMem = true := by
  decide +kernel

theorem witness_issue_rows :
    covers normFwdOp 0x0018 always 0 [] [0, 1] [v2 0, v2 1] = true ∧
    covers normBwdOp 0x0019 always 0 [] [0, 0xFFFF, 0xFFFF, 1, 2] [v2 0, v2 1, v2 2] = true ∧
    covers softmaxFwdOp 0x001A always 0 [] [0, 1] [v2 0, v2 1] = true ∧
    covers softmaxBwdOp 0x001B always 0 [] [0, 1, 2] [v2 0, v2 1, v2 2] = true ∧
    covers updateOp 0x0038 always 0 [] [0, 1, 2, 3, 4]
      [td 0 3 [2], td 1 11 [2], td 2 13 [2], v2 3, v2 4] = true := by
  decide +kernel

/-- A codebook of two symbols in slot 0. -/
def withBook (d : Paddock) : Paddock :=
  { d with codebooks := d.codebooks.set 0 (some { generation := 0, lengths := [1, 1] ++ List.replicate 254 0 }) }

/-- A Churn tensor of 64 U8 elements under slot 0. -/
def churned (addr : Nat) : List Byte := (descriptor addr 9 [64]).set 14 1

theorem witness_issue_churn :
    covers compactOp 0x0028 (fun r => r.modifier != 1) 0 [] [0, 1] [churned 0, td 4 9 [64]] [] withBook = true ∧
    covers codebookOp 0x0028 (fun r => r.modifier == 1) 1 [0, 1] [0xFFFF, 0] [td 0 9 [256]] [⟨0, 1⟩, ⟨1, 1⟩] = true ∧
    covers expandOp 0x0029 always 0 [] [0, 1] [td 4 9 [64], churned 0] [⟨0, 9⟩, ⟨1, 1⟩, ⟨4, 1⟩, ⟨8, 64⟩] withBook
      = true := by
  decide +kernel

/-- The paddock with slot 0 formed of `n` members, the second in farm 1. -/
def member (n : Nat) (d : Paddock) : Paddock :=
  { d with groups := d.groups.set 0 { groupIn .formed n 0 with members := (List.range n).map (4096 * ·) } }

theorem witness_issue_collectives :
    covers (collectOp 0) 0x0030 (fun r => r.modifier == 0 || 6 ≤ r.modifier) 0 [] [0, 1] [v2 0, v2 1] [] (member 1)
      = true ∧
    covers (collectOp 1) 0x0030 (fun r => r.modifier == 1) 1 [] [0, 1] [v2 0, v2 1] [] (member 1) = true ∧
    covers (collectOp 2) 0x0030 (fun r => r.modifier == 2) 2 [] [0, 1] [v2 0, v2 1] [] (member 1) = true ∧
    covers (collectOp 3) 0x0030 (fun r => r.modifier == 3) 3 [] [0, 1] [v2 0, v2 1] [] (member 1) = true ∧
    covers (collectOp 4) 0x0030 (fun r => r.modifier == 4) 4 [0, 0, 1] [0xFFFF, 0] [v2 0] [] (member 2) = true ∧
    covers (collectOp 5) 0x0030 (fun r => r.modifier == 5) 5 [0, 0, 1] [0] [v2 0] [] (member 2) = true ∧
    covers dispatchOp 0x0031 always 0 [0, 1, 1] [0, 1, 2, 3, 4]
      [td 0 1 [2, 1, 1], td 1 1 [2, 1], td 2 10 [1, 1], td 3 12 [4], td 4 1 [1, 1]] [] (member 1) = true ∧
    covers combineOp 0x0032 always 0 [0, 1] [0, 1, 2, 3]
      [td 0 1 [2, 1], td 1 1 [2, 1, 1], td 2 10 [1, 1], td 3 1 [1, 1]] [] (member 1) = true := by
  decide +kernel

/-- A dictionary loaded in slot 0. -/
def withDict (d : Paddock) : Paddock :=
  { d with dicts := d.dicts.set 0 (some { generation := 1, addr := 0, entries := 256, len := 4416 }) }

/-- The paddock with its decode area in the second half of its block and a flash allocation. -/
def withDecode (d : Paddock) : Paddock :=
  { d with
    allocs := d.allocs ++ [(1, allocOfBytes (allocValue flashBase 4096 3))]
    objs := [⟨okey 0x7007 0, 131072⟩, ⟨okey 0x7008 0, 65536⟩] }

theorem witness_issue_tokens :
    covers tokenizeOp 0x0041 (fun r => r.modifier != 1) 0 [0, 1] [0, 1, 2] [td 8 12 [1, 1], td 9 9 [1, 1], td 10 10 [1]]
      [] withDict = true := by
  decide +kernel

/-- A whole dictionary image is more than the kernel evaluates in a test; here its record is refused. -/
theorem witness_issue_dictionary :
    nextIs loadDictOp 0x0041 (fun r => r.modifier == 1)
      (running ((recordBytes 0x0041 1 [0, 1] [0xFFFF, 0]).set 5 1) [td 0 9 [4416]] [] id) (· == .fails 0x01 0xFFFF)
      = true := by
  decide +kernel

/-- A dataset index of one sample in flash. -/
def indexed1 (s : State) : State :=
  { s with tiers := { s.tiers with flash := [⟨0, 1⟩, ⟨2, 32⟩, ⟨4, 1⟩] } }

theorem witness_issue_batch :
    let r := recordBytes 0x0040 0 [0, 0, 0, 0, 1] [0, 1, 2, 3]
    let ds := [td 0 9 [1, 1, 1, 1, 1], descriptor flashBase 9 [96], td 1 12 [16, 2], td 2 9 [64]]
    let s := ((indexed1 (running r ds [⟨2051, 1⟩] withDecode)).setObj 0x4821 0 4096).setObj 0x4822 0 1
    nextIs decodeBatchOp 0x0040 always s (· == .passes) = true ∧ runsNow decodeBatchOp s = true ∧
    nextIs decodeBatchOp 0x0040 always
      (indexed1 (running (r.set 5 1) ds [⟨2051, 1⟩] withDecode)) (· == .fails 0x01 0xFFFF) = true := by
  decide +kernel

/-- An off-loadable block of entry 1, at MiB 1, in a place. -/
def offloadable (x : Place) : Alloc :=
  { allocOfBytes (allocValue mebi 32768 1) with
    blocks := [{ index := 0, place := x, clean := true, held := none, elem := none, order := 0 }] }

theorem witness_issue_tiers :
    let move := fun (ds : List (List Byte)) (f : Paddock → Paddock) => running (recordBytes 0x0001 0 [] [0, 1]) ds [] f
    let withCxl := fun (s : State) => { s with tiers := { s.tiers with cxlPresent := true } }
    let at_ := fun (s : State) (ok : State → Ctx → Bool) => match nextRec s 0 0 with
      | some (pr, some r) =>
        let c := ctxOf s 0 pr r
        verdict moveOp pr s 0 r c == Verdict.passes && ok (issuedState moveOp s 0 0 pr r) c
      | _ => false
    nextIs moveOp 0x0001 always (move [td 0 1 [0], td 1 1 [0]] id) (· == Verdict.noop) = true ∧
    at_ (withCxl ((move [v2 0, descriptor cxlBase 1 [2]] fun d =>
        { d with allocs := d.allocs ++ [(1, allocOfBytes (allocValue cxlBase 32768 2))] }).setObj 0x4011 0 0))
      (fun s c => usesCxl (spansOf moveOp c) && decide (s.obj 0x4011 0 < 16384)
        && lostStatus s 0 (accessesOf moveOp c) == none) = true ∧
    at_ (move [v2 0, descriptor mebi 1 [2]] fun d => { d with allocs := d.allocs ++ [(1, offloadable .lost)] })
      (fun s c => lostStatus s 0 (accessesOf moveOp c) == some 0x11 && !usesCxl (spansOf moveOp c)) = true ∧
    at_ (move [v2 0, v2 1] fun d => { d with bad := [(0, 4096, 0x151)] })
      (fun s c => lostStatus s 0 (accessesOf moveOp c) == some 0x151 && !usesCxl (spansOf moveOp c)) = true ∧
    at_ (withCxl ((move [(descriptor mebi 1 [2]).set 10 2, v2 0] fun d =>
        { d with allocs := d.allocs ++ [(1, { offloadable .lost with blocks := [] })] }).setObj 0x4010 0 0))
      (fun s c => (s.makeRoom 0 (needFor s 0 (accessesOf moveOp c)) (spansOf moveOp c)).isNone
        && lostStatus s 0 (accessesOf moveOp c) == none) = true := by
  decide +kernel

theorem witness_outputs_and_elements :
    let reads := fun (op : Op) (b : List Byte) (ds : List (List Byte)) => match nextRec (running b ds [] id) 0 0 with
      | some (pr, some r) =>
        let s := running b ds [] id
        let o := (ctxOf s 0 pr r).must 0
        runsNow op s && s.memoriesOk && o.fmt == .f32 && decide (o.addr + o.footprint ≤ hbmEnd)
          && (allIdx o.ext).all (fun i => (allIdx o.ext).all fun j => o.offset i != o.offset j || i == j)
      | _ => false
    reads fillOp (recordBytes 0x0002 0 [0x7F800000] [0]) [v2 0] = true ∧ F32.finite (BitVec.ofNat 32 0x7F800000) = false ∧
    reads elemOp (recordBytes 0x0020 0 [] [0, 1, 2]) [v2 0, v2 1, v2 2] = true ∧
    reads reduceOp (recordBytes 0x0021 0 [1] [0, 1]) [td 0 1 [1], v2 1] = true ∧
    reads matmulOp (recordBytes 0x0008 0 [] [0, 1, 2]) [td 0 1 [1, 1], td 1 3 [1, 1], td 2 3 [1, 1]] = true := by
  decide +kernel

/-- A flight that is number 1 of program 0. -/
def flight1 : Flight :=
  { serial := 1, prog := 0, index := 0, opcode := 1, cls := 0, signal := none, statuses := [], slot := 0xFFFF, spans := []
    records := [], codebooks := [], dict := none, loads := none, hold := .none, area := 0, due := false, dueSince := none
    waits := [], stage := [], apply := false, before := [] }

/-- A FILL that issues next while a writer of the unit at 0 is in flight. -/
def overWriter : State :=
  running (recordBytes 0x0002 0 [5] [0]) [v2 0] [] fun d =>
    { d with flights := [{ flight1 with before := [(0, List.replicate 64 1)] }], nextFlight := 2 }

theorem witness_unordered :
    overWriter.writers 0 = [(0, List.replicate 64 1)] ∧ nextIs fillOp 0x0002 always overWriter (· == .passes) = true ∧
    nextIs fillOp 0x0002 always (overWriter.unordered 0 [(0, List.replicate 64 1)]) (· == .passes) = true := by
  have h : ∀ sees : Bool, nextIs fillOp 0x0002 always
      (if sees then overWriter.draw.2.setUnit 0 (0, List.replicate 64 1) else overWriter.draw.2) (· == .passes) = true :=
    fun sees => by cases sees <;> decide +kernel
  exact ⟨by decide +kernel, by decide +kernel, h (overWriter.draw.1.testBit 0)⟩

/-! ### Witnesses: tiers, faults and the Drill -/

/-- `running` with CXL present and its second allocation at MiB 1 as given. -/
def tiered (r : List Byte) (ds : List (List Byte)) (a : Alloc) (f : Paddock → Paddock) : State :=
  let s := running r ds [] fun d => f { d with allocs := d.allocs ++ [(1, a)] }
  { s with tiers := { s.tiers with cxlPresent := true } }

theorem witness_silo_offload :
    let s := (tiered [] [] (offloadable .resident) fun d =>
      { d with programs := [], objs := [⟨okey 0x4024 0, 100⟩] }).setObj 0x4010 0 8
    ((s.pad 0).present = true ∧ s.tiers.cxlPresent = true
      ∧ (s.pad 0).obj 0x4024 0 - s.freeQuota 0 ≠ 0 ∧ s.candidates 0 = [(1, 0)]) ∧
    (let u := tiered [] [] (offloadable .resident) fun d => { d with programs := [], objs := [⟨okey 0x4024 0, 0⟩] }
     (u.pad 0).obj 0x4024 0 - u.freeQuota 0 = 0) ∧
    (let u := tiered [] [] (offloadable .offloading) id
     (u.pad 0).moving .offloading = [(1, 0, 0)] ∧ (u.pad 0).waited = 0) := by
  decide +kernel

theorem witness_silo_fetch :
    let r := recordBytes 0x0001 0 [] [0, 1]
    let ds := [v2 0, descriptor mebi 1 [2]]
    let s := tiered r ds (offloadable .offloaded) fun d => { d with ahead := [(0, 0)] }
    (firstWanted s 0 = some (1, mebi, 8) ∧ (s.pad 0).alloc 1 = some (offloadable .offloaded)
      ∧ ((offloadable .offloaded).blocks.filter fun b => b.place == .offloaded
          && blockMeets (offloadable .offloaded) b mebi 8).length ≤ s.freeQuota 0) ∧
    ((s.setObj 0x4010 0 0).makeRoom 0 1).isNone = true ∧
    (let u := tiered [] [] (offloadable .fetching) id
     (u.pad 0).alloc 1 = some (offloadable .fetching) ∧ (offloadable .fetching).saved = none
      ∧ (∀ b ∈ (offloadable .fetching).blocks, b.place ≠ .lost)
      ∧ ((offloadable .fetching).blocks.filter fun b => b.place == .fetching).length ≠ 0) := by
  decide +kernel

theorem witness_silo_recompute :
    let a := { offloadable .lost with recI := 1, recAddr := 0, recD := 0, recCost := 1 }
    let flying := fun (d : Paddock) => { d with flights := [{ flight1 with waits := [1] }], programs := [] }
    let s := tiered [] [] a flying
    (((s.pad 0).flights.find? fun f => f.serial == 1) = some { flight1 with waits := [1] }
      ∧ (s.pad 0).alloc 1 = some a ∧ (a.blocks.any fun b => b.place == Place.lost) = true ∧ a.recI ≠ 0
      ∧ a.len / blockSize ≤ s.freeQuota 0 ∧ (s.pad 0).activeCount < 16) ∧
    ((offloadable .lost).recI = 0) ∧
    ({ offloadable .fetching with wanted := true }.recI = 0
      ∧ ({ offloadable .fetching with wanted := true }.blocks.any fun b => b.place == Place.lost) = false) ∧
    (let pr := { oneProgram 1 with recompute := some 1 }
     let u := tiered [] [] a fun d => { d with programs := [pr] }
     ((u.pad 0).programs.find? fun x => x.recompute == some 1) = some pr ∧ programOver (u.pad 0) pr = true
      ∧ pr.stop = none ∧ { pr with stop := some ⟨0x22, 0, 1, 0⟩ }.stop ≠ none) := by
  decide +kernel

theorem witness_staging :
    let x : StagePart := { addr := cxlBase, len := 8, write := false, hint := 0 }
    let parts := fun (d : Paddock) (area : Nat) (user : Option Nat) => (d.stagePart area x user).map (·.staged)
    let flying := tiered [] [] (allocOfBytes (allocValue cxlBase 32768 2)) fun d =>
      { d with programs := [], flights := [{ flight1 with stage := [x] }] }
    let ahead := tiered (recordBytes 0x0001 0 [] [0, 1]) [v2 0, descriptor cxlBase 1 [2]]
      (allocOfBytes (allocValue cxlBase 32768 2)) fun d => { d with ahead := [(0, 0)] }
    (((flying.pad 0).flights.find? fun f => f.serial == 1) = some { flight1 with stage := [x] } ∧
      parts (flying.pad 0) 16384 (some 1) = some [{ addr := cxlBase, len := 8, hint := 0, user := some 1 }] ∧
      parts (flying.pad 0) 0 (some 1) = none) ∧
    ((ahead.pad 0).flights = [] ∧ firstUnstaged ahead 0 = some x ∧
      parts (ahead.pad 0) 16384 none = some [{ addr := cxlBase, len := 8, hint := 0, user := none }]) ∧
    live.staged = [] ∧ dev.tiers.cxlPresent = false := by
  decide +kernel

/-- A context of flight 1 that runs a square product. -/
def planned : Context :=
  { paddock := 0, flight := 1, list := 0, next := 0, total := 1, ranges := freshRanges, done := 0
    phase :=
      { work :=
          { units := 1
            shape := .product { n := 1024, m := 1024, k := 4096, higher := 1, rate := 2, aBits := 8, bBits := 8
                                aTurned := false, bTurned := false, aCxl := false, bCxl := false, gather := none
                                single := false, lo := 0, hi := 1024, outBits := 32, outCxl := false, post := 0
                                counted := false, plotShare := 0, stripShare := 0 } }
        skim := 0, first := 0, share := 1 }
    later := [], returned := [], edge := false, mode := 0 }

theorem witness_hbm :
    let b : Block := { index := 0, place := .resident, clean := true, held := none, elem := some 4, order := 0 }
    let a := { offloadable .resident with blocks := [b] }
    let s := tiered [] [] a fun d => { d with objs := [⟨okey 0x6800 0, 1⟩] }
    ((s.pad 0).alloc 1 = some a ∧ a.kind = 1 ∧ (∃ b ∈ a.blocks, b.elem.isSome = true) ∧ a.releasing = false
      ∧ (s.pad 0).obj 0x6800 0 ≠ 0 ∧ (s.pad 0).flights = []) ∧
    (let kept := fun (n : Nat) => { fixedBlock with flags := 1, retained := n }
     let u := fun (n : Nat) => roomy { live with allocs := [(0, kept n)], retainedOn := true }
     (∀ n ∈ [0, 1, 2], (((u n).pad 0).allocs.filter fun e => e.2.kind == 0 && e.2.flags == 1 && !e.2.releasing)
        = [(0, kept n)] ∧ ((u n).pad 0).active = true ∧ ((u n).pad 0).retainedOn = true ∧ ((u n).stripsOf 0).length = 24)
      ∧ min ((kept 0).len / blockSize) retainedRegion = 1
      ∧ retainedFits (u 0) (((u 0).pad 0).retainedBlocks + 1) = true ∧ (kept 0).homeLost = []
      ∧ retainedFits { u 0 with strips := dev.strips.set 0 { Strip.fresh with contexts := [planned] } } 30720 = false
      ∧ ((roomy live).pad 0).retainedOn = false) ∧
    (let u := roomy { live with allocs := [(0, fixedBlock)] }
     u.power.running = true ∧ ((u.pad 0).allocOf 32767 1).map (·.1) = some 0 ∧ fixedBlock.kind ≠ 1 ∧ 32767 < hbmEnd
      ∧ fixedBlock.retained ≤ 0 ∧ 0 < { fixedBlock with retained := 1 }.retained) ∧
    (∃ b ∈ (offloadable .resident).blocks, b.index = 0 ∧ b.clean = true) := by
  decide +kernel

theorem witness_cxl :
    let x : CxlDevice := { port := 0, type3 := true, flit256 := true, capacity := 2 ^ 38, lanes := 8, gtps := 64 }
    (dev.power.running = true ∧ usableCxl [x, { x with port := 1 }] = [x, { x with port := 1 }]
      ∧ dev.power.cxlDone = false ∧ (powered fun w => { w with cxlDone := true }).power.cxlDone = true) ∧
    (let s := tiered [] [] (offloadable .offloaded) id
     s.tiers.cxlPresent = true ∧ ((s.pad 0).allocOf mebi 1).map (·.1) = some 1) ∧
    (let s := tiered [] [] (allocOfBytes (allocValue cxlBase 32768 2)) id
     ((s.pad 0).allocOf cxlBase 1).map (·.2.kind) = some 2) ∧
    dev.tiers.cxlPresent = false := by
  decide +kernel

theorem witness_flash :
    ({ dev with tiers := { dev.tiers with flashState := 1 } }.tiers.flashState = 1 ∧ dev.power.running = true
      ∧ 1 % 2 ^ 128 ≠ 0) ∧
    (∀ b ∈ [true, false], { roomy live with tiers := { (roomy live).tiers with parityInForce := b } }.mounted = true) ∧
    50000 ≤ (50000 : Nat) ∧ (roomy live).tiers.cellType ≠ 3 ∧ (∀ b ∈ live.batches, b.flight ≠ 1) := by
  decide +kernel

/-- A video sample of flight 1 in a stage, with what becomes of it. -/
def sampleIn (x : SampleStage) (y : Fate) (u : Option Nat) : Sample :=
  { flight := 1, position := 0, video := true, fate := y, stage := x, unit := u }

/-- The batch of flight 1. -/
def batch1 : Batch :=
  { flight := 1, index := 0, r := recordOf 0x0040 0 [], ts := [], aug := [], env := [], first := 0, seed := 0, step := 0
    looks := [], ahead := none, waits := true, statuses := [] }

def sampled (l : List Sample) : State := roomy { live with samples := l, batches := [batch1], flights := [flight1] }

theorem witness_admission :
    let comes := fun (s : State) (video : Bool) => s.dueSample video == some (0, { sampleIn .waiting .accepted none with
      video := video }) && s.freeUnit video == some (if video then 0 else 16)
    let l := [sampleIn .waiting .accepted none, { sampleIn .waiting .accepted none with video := false }]
    comes (sampled l) true = true ∧ comes (sampled (l.drop 1)) false = true ∧ (sampled (l.drop 1)).dueSample true = none ∧
    (sampled []).dueSample true = none ∧ (sampled []).dueSample false = none ∧ batch1.waits = true := by
  decide +kernel

/-- Sample 0 is the first that `ok` takes, and `f` leaves one of its batch, or none. -/
def sampleMoves (l : List Sample) (ok : State → Sample → Bool) (f : Sample → Sample) (left : Bool) : Bool :=
  (((sampled l).pad 0).samples.findIdx? fun x => x.flight == 1 && ok (sampled l) x) == some 0
    && ((l.modify 0 f).any fun x => x.flight == 1 && x.stage != .over) == left
    && (((sampled l).pad 0).batches.find? fun b => b.flight == 1).isSome

theorem witness_samples :
    let gone : Sample → Sample := fun x => { x with stage := .over }
    let more := sampleIn .waiting .accepted none
    let admitted := fun (s : State) (x : Sample) => x.stage == .admitted && x.fate != .budget && unitServes s 0 x
    let late := fun (s : State) (x : Sample) => x.stage == .admitted && x.fate == .budget && unitServes s 0 x
    let done := fun (_ : State) (x : Sample) => x.stage == .decoded && x.unit == some 0
    sampleMoves [more] (fun _ x => x.stage == .waiting) (fun x => { x with stage := .admitted }) true = true ∧
    sampleMoves [sampleIn .waiting (.headers 0x24 1) none] (fun _ x => x.stage == .waiting) gone false = true ∧
    sampleMoves [sampleIn .admitted .accepted (some 0)] admitted (fun x => { x with stage := .decoded }) true = true ∧
    sampleMoves [sampleIn .admitted .syntaxError (some 0)] admitted gone false = true ∧
    sampleMoves [sampleIn .admitted .budget (some 0)] late gone false = true ∧
    sampleMoves [sampleIn .admitted .budget (some 0), more] late gone true = true ∧
    sampleMoves [sampleIn .decoded .accepted (some 0)] done gone false = true ∧
    sampleMoves [sampleIn .decoded .accepted (some 0), more] done gone true = true := by
  decide +kernel

/-- A stream over one sample of flash. -/
def stream1 : Stream :=
  { r := recordOf 0x0040 0 [0, 0, 0, 0, 1]
    ts := [none, some { addr := flashBase, fmt := .u8, rank := 1, ext := [96, 1, 1, 1, 1, 1], str := [1, 0, 0, 0, 0, 0]
                        mode := 0, compr := 0, flags := 0, hint := 0, ident := 0 }]
    aug := [], env := [], ready := [], base := 0, lastUse := 0 }

/-- Bytes that a batch of it takes in the prepared area, and one more. -/
def areaOf : Nat := workBytes stream1.ts + 1

/-- A paddock with that stream, its prepared depth 1, and an area as large as one batch of it. -/
def preparing : Paddock :=
  { withDecode live with
    allocs := [(1, allocOfBytes (allocValue flashBase 4096 3)), (0, { fixedBlock with len := areaOf })]
    streams := [stream1], objs := [⟨okey 0x7009 0, 1⟩, ⟨okey 0x700B 0, areaOf⟩] }

def preparingState : State := ((indexed1 (roomy preparing)).setObj 0x4821 0 4096).setObj 0x4822 0 1

theorem preparing_area : preparedArea preparing = some areaOf := by
  have h : preparing.obj 0x700B 0 = areaOf ∧ preparing.obj 0x700A 0 = 0 := ⟨rfl, rfl⟩
  have f : preparing.inFixed 0 areaOf = true := by
    have a : (allocOfBytes (allocValue flashBase 4096 3)).base ≠ 0 := by decide +kernel
    have b : fixedBlock.base = 0 ∧ fixedBlock.releasing = false ∧ fixedBlock.kind = 0 := by decide +kernel
    simp [Paddock.inFixed, Paddock.allocOf, preparing, a, b]
  have p : 0 < areaOf := Nat.succ_pos _
  simp [preparedArea, h, f, p]

theorem witness_area_room : (preparingState.pad 0).areaRoom (workBytes stream1.ts) = some 0 := by
  have h : preparingState.pad 0 = preparing := rfl
  have e : preparing.areaUsed = [] := rfl
  simp [h, Paddock.areaRoom, preparing_area, e, areaOf]

theorem witness_preparation :
    let s := preparingState
    let x := stream1
    let c : Ctx := { s := s, p := 0, r := x.r, index := 0, ts := x.ts, seed := (s.pad 0).seed, step := 0 }
    let j : Job := { c := c, aug := parseAug x.aug, env := x.env, first := 0 }
    (s.pad 0).streams[0]? = some x ∧ (s.pad 0).active = true ∧ (s.pad 0).stopped = false ∧
    x.frontier (s.pad 0) 1 x.base = some 0 ∧ j.scan ≠ [] ∧ moveIntoFlash s 0 = false ∧
    unitsLeft s true ≠ 0 ∧ unitsLeft s false ≠ 0 ∧ (∀ y ∈ j.scan, y.2.lost s 0 = false) ∧
    (let k : Job := { j with first := 1 }
     k.scan = []) ∧
    (dev.pad 0).active = false := by
  decide +kernel

theorem witness_faults :
    let u : UnitId := (.plot, 5)
    let tested : State := { dev with faults := { dev.faults with
      testing := [{ unit := u, detection := 0, paddock := 0xFF, detail := 0, victim := none }] } }
    (dev.power.running = true ∧ 5 < unitCount .plot ∧ hasParity .plot = true ∧ dev.isRetired u = false
      ∧ dev.isTesting u = false ∧ dev.bist.state ≠ 1) ∧
    (let s := { (roomy { live with flights := [flight1] }) with
        strips := dev.strips.set 0 { Strip.fresh with
          started := [{ plot := 5, paddock := 0, flight := 1, list := 0, unit := 0 }] } }
     s.servedBy u = [(0, 1)]) ∧
    (tested.isTesting u = true ∧ tested.isRetired u = false ∧ tested.recentErrors u ≤ tested.obj 0x9010 0) ∧
    (tested.setObj 0x9010 0 0).recentErrors u ≤ 0 ∧
    ((tested.strip 0).map.count (some 5) = 1 ∧ ((tested.strip 0).map[5]?).getD none = some 5
      ∧ (tested.strip 0).spareFree = true) ∧
    (dev.isTesting (testUnit .hostPort 1) = false ∧ 1 < unitCount .hostPort ∧ hasParity .hostPort = true
      ∧ (let s := dev.setObj 0x3801 1 2
         s.portUp 1 = true ∧ s.power.running = true ∧ s.isRetired (testUnit .hostPort 1) = false)) ∧
    (unitCount .job ≤ 8 ∧ hasParity .job = false) := by
  decide +kernel

/-! ### Witnesses: work counters, synchronisation and frames -/

/-- A phase of plain units. -/
def unitPhase (n : Nat) : ListPhase := { work := { units := n }, skim := 0, first := 0, share := n }

/-- A context of flight 1 with `total` units, the first `next` claimed, unit 1 left in the range of plot 0 or not. -/
def context (next total : Nat) (left : Bool) (later : List ListPhase) : Context :=
  { paddock := 0, flight := 1, list := 0, next := next, total := total
    ranges := (if left then (1, 2) else (0, 0)) :: List.replicate 15 (0, 0)
    done := 0, phase := unitPhase total, later := later, returned := [], edge := false, mode := 0 }

theorem context_holds (next total q u : Nat) (left : Bool) (later : List ListPhase) :
    (context next total left later).holds q u ↔ left = true ∧ q = 0 ∧ u = 1 := by
  match q with
  | 0 => cases left <;> simp [Context.holds, rangeOf, context]; omega
  | q + 1 =>
    have e : (List.replicate 15 ((0 : Nat), (0 : Nat)))[q]?.getD (0, 0) = (0, 0) := by
      simp only [List.getElem?_replicate]
      split <;> rfl
    have : rangeOf (context next total left later) (q + 1) = (0, 0) := e
    simp [Context.holds, this]

/-- With its units claimed, and one returned or none. -/
def contextWith (left : Bool) (l : List Nat) : Context := { context 2 2 left [] with returned := l }

theorem contextWith_tidy (left : Bool) (l : List Nat) (h : ∀ u ∈ l, u < 2) (once : l.Nodup) (apart : left = true → 1 ∉ l) :
    (contextWith left l).tidy := by
  have holds : ∀ q u, (contextWith left l).holds q u ↔ left = true ∧ q = 0 ∧ u = 1 :=
    fun q u => context_holds 2 2 q u left []
  refine ⟨rfl, ?_, ?_, once, ?_⟩
  · rintro u (⟨q, h'⟩ | h')
    · obtain ⟨-, -, rfl⟩ := (holds _ _).1 h'
      exact ⟨Nat.lt_succ_self 1, Nat.lt_succ_self 1⟩
    · exact ⟨h u h', h u h'⟩
  · intro q r u h1 h2
    rw [((holds _ _).1 h1).2.1, ((holds _ _).1 h2).2.1]
  · intro q u h1 h2
    obtain ⟨e, -, rfl⟩ := (holds _ _).1 h2
    exact apart e h1

/-- A plot that finds its range empty and the counter exhausted: a unit is left with another plot, or returned. -/
theorem witness_steal :
    let c := contextWith true []
    let d := contextWith false [0]
    (c.tidy ∧ (request c 1).1 = some 1 ∧ (∀ v, ¬ c.holds 1 v) ∧ c.total ≤ c.next ∧ (∃ v w, c.holds v w)) ∧
    (d.tidy ∧ (request d 1).1 = some 0 ∧ (∀ v w, ¬ d.holds v w) ∧ d.total ≤ d.next) ∧
    (request (contextWith false []) 1).1 = none := by
  have h : ∀ left l q u, (contextWith left l).holds q u ↔ left = true ∧ q = 0 ∧ u = 1 :=
    fun left _ q u => context_holds 2 2 q u left []
  refine ⟨⟨contextWith_tidy _ _ (by simp) (by simp) (by simp), by decide, fun v x => ?_, by decide, 0, 1, (h ..).2 ⟨rfl, rfl, rfl⟩⟩,
    ⟨contextWith_tidy _ _ (by simp) (by simp) (by simp), by decide, fun v w x => ?_, by decide⟩, by decide⟩
  · exact absurd ((h ..).1 x).2.1 (by decide)
  · exact absurd ((h ..).1 x).1 (by decide)

/-- Strip 0 with one context of the steal's units, or none left. -/
def stealing (left : Bool) : State :=
  { dev with strips := dev.strips.set 0 { Strip.fresh with contexts := [contextWith left []] } }

theorem witness_work_requests :
    (∀ left, (stealing left).plotTesting 0 1 = false ∧ ((stealing left).strip 0).live 1 = true ∧
      1 ∉ ((stealing left).strip 0).parked ∧ ((stealing left).strip 0).target (stealing left).opens 1 = none ∧
      ((stealing left).strip 0).contexts = [contextWith left []] ∧
      ((stealing left).strip 0).serves 1 (contextWith left []) = true ∧
      (stealing left).opens (contextWith left []) = true) ∧
    (let s := { dev with strips := dev.strips.set 0 { Strip.fresh with parked := [1], edge := .retired } }
     1 ∈ (s.strip 0).parked ∧ (s.strip 0).live 16 = false) := by
  decide +kernel

theorem witness_units_left : (∃ u, (contextWith true []).unstartedUnit u) ∧ ∀ u, ¬ (contextWith false []).unstartedUnit u := by
  have h : ∀ left l q u, (contextWith left l).holds q u ↔ left = true ∧ q = 0 ∧ u = 1 :=
    fun left _ q u => context_holds 2 2 q u left []
  refine ⟨⟨1, .inr (.inl ⟨0, (h ..).2 ⟨rfl, rfl, rfl⟩⟩)⟩, ?_⟩
  rintro u (⟨h1, h2⟩ | ⟨q, x⟩ | x)
  · exact absurd (Nat.lt_of_le_of_lt h1 h2) (Nat.lt_irrefl 2)
  · exact absurd ((h ..).1 x).1 (by decide)
  · cases x

theorem witness_waiting_and_edge :
    let u : Started := { plot := 1, paddock := 0, flight := 1, list := 0, unit := 0 }
    let r : Run := { unit := u, seed := 0, jobs := 1, sent := 0, asks := 0, pace := 0, saved := [], stack := [], live := 0, dead := 0 }
    let st : Strip := { Strip.fresh with started := [u], plots := Strip.fresh.plots.set 1 { Engines.idle with runs := [r] } }
    let s := { roomy { live with flights := [{ flight1 with waits := [1] }] } with strips := dev.strips.set 0 st }
    let edge := { context 0 2 false [] with edge := true }
    let t := { dev with strips := dev.strips.set 0 { Strip.fresh with contexts := [edge] } }
    ((s.strip 0).target s.opens 1 = some r ∧ s.gate.data r.unit = false) ∧
    (t.plotTesting 0 16 = false ∧ (t.strip 0).edge = .available ∧ (t.strip 0).started = [] ∧ 16 ∉ (t.strip 0).parked ∧
      ((t.strip 0).contexts.zipIdx.find? fun x => x.1.edge && x.1.unclaimed && t.opens x.1) = some (edge, 0)) := by
  decide +kernel

/-- Strip 0 with one context, and no unit of it started. -/
def phased (next total : Nat) (l : List ListPhase) : State :=
  { dev with strips := dev.strips.set 0 { Strip.fresh with contexts := [context next total false l] } }

theorem witness_phase_opens :
    (∃ c ∈ (phased 0 2 []).contextsOf 0 1, c.unstarted = true) ∧
    (context 0 0 false [unitPhase 4]).later = [unitPhase 4] ∧
    (context 0 0 false [unitPhase 4]).total ≤ (context 0 0 false [unitPhase 4]).done ∧ 0 < (unitPhase 4).total ∧
    (context 2 2 false [unitPhase 4]).done < (context 2 2 false [unitPhase 4]).total := by
  decide +kernel

theorem finishUnits_phased (next total : Nat) (l : List ListPhase) :
    (phased next total l).finishUnits 0 1 = phased next total l := by
  refine finishUnits_none _ 0 1 (fun k hk => ?_) fun k q hk hq => ?_
  · match k with
    | 0 => rfl
    | k + 1 =>
      have : ∀ k, k < 24 → (dev.strip k).started = [] := by decide +kernel
      have e : (phased next total l).strip (k + 1) = dev.strip (k + 1) := by
        simp [State.strip, phased]
      rw [e, this _ hk]
      rfl
  · match k with
    | 0 =>
      have : ∀ q, q < 16 → (Strip.fresh.plot q).runs = [] := by decide +kernel
      have e : ((phased next total l).strip 0).plot q = Strip.fresh.plot q := rfl
      rw [e, this q hq]
      rfl
    | k + 1 =>
      have : ∀ k, k < 24 → ∀ q, q < 16 → ((dev.strip k).plot q).runs = [] := by decide +kernel
      have e : (phased next total l).strip (k + 1) = dev.strip (k + 1) := by
        simp [State.strip, phased]
      rw [e, this _ hk q hq]
      rfl

theorem witness_phase_contexts :
    ((phased 0 0 [unitPhase 4]).finishUnits 0 1).contextsOf 0 1 = [context 0 0 false [unitPhase 4]] ∧
    ((phased 2 2 [unitPhase 4]).finishUnits 0 1).contextsOf 0 1 = [context 2 2 false [unitPhase 4]] ∧
    ((phased 0 0 []).finishUnits 0 1).contextsOf 0 1 = [context 0 0 false []] := by
  simp only [finishUnits_phased]
  decide +kernel

/-- A flight of a program and nothing else of it under way. -/
def completing (ops : List FabOp) : State :=
  roomy { live with flights := [flight1], programs := [oneProgram 1], ops := ops }

theorem finishUnits_idle (s : State) (e : s.strips = dev.strips) : s.finishUnits 0 1 = s := by
  have started : ∀ k, k < 24 → (dev.strip k).started = [] := by decide +kernel
  have runs : ∀ k, k < 24 → ∀ q, q < 16 → ((dev.strip k).plot q).runs = [] := by decide +kernel
  have e : ∀ k, s.strip k = dev.strip k := fun k => by simp only [State.strip, e]
  refine finishUnits_none _ 0 1 (fun k hk => ?_) fun k q hk hq => ?_
  · rw [e, started k hk]
    rfl
  · rw [e, runs k hk q hq]
    rfl

theorem finishUnits_completing (ops : List FabOp) : (completing ops).finishUnits 0 1 = completing ops :=
  finishUnits_idle _ rfl

/-- Member 1 of a formed commit group of two, whose instruction completes with a status. -/
def stopping (st : Nat) : State :=
  committing 1 fun d => { d with
    flights := [{ flight1 with statuses := [st] }], programs := [oneProgram 1]
    objs := d.objs ++ [⟨okey 0x9000 0, 1⟩] }

theorem witness_stop_starts_recovery :
    (∀ st ∈ [0x151, 0x70, 0x30, 0x05],
      let u := (stopping st).finishUnits 0 1
      let f := { flight1 with statuses := [st] }
      (u.pad 0).flights.find? (fun f => f.serial == 1) = some f ∧ canRetire u 0 f = true ∧ farFlight u 0 1 = false
        ∧ (u.pad 0).program f.prog = some (oneProgram 1) ∧ (oneProgram 1).recompute = none
        ∧ (oneProgram 1).stop = none ∧ (u.pad 0).recovery = none ∧ (u.pad 0).obj 0x9000 0 = 1
        ∧ (u.pad 0).commitFormed = true ∧ (u.pad 0).active = true) ∧
    stopOf (oneProgram 1).flags [0x151] = some 0x51 ∧ stopOf (oneProgram 1).flags [0x70] = some 0x70 ∧
    stopOf (oneProgram 1).flags [0x30] = some 0x30 ∧ stopOf (oneProgram 1).flags [0x05] = some 0x05 := by
  have e : ∀ st, (stopping st).finishUnits 0 1 = stopping st := fun st => finishUnits_idle _ rfl
  simp only [e]
  decide +kernel

theorem witness_completion :
    let u := (completing []).finishUnits 0 1
    let v := (completing [{ awaiting 0 true with kind := 4 }]).finishUnits 0 1
    ((u.pad 0).flights.find? (fun f => f.serial == 1) = some flight1 ∧ canRetire u 0 flight1 = true ∧
      farFlight u 0 1 = false ∧ (u.pad 0).program flight1.prog = some (oneProgram 1)) ∧
    (canRetire v 0 flight1 = true ∧ farFlight v 0 1 = true) ∧
    canRetire (roomy live) 0 { flight1 with hold := .fabric } = false := by
  simp only [finishUnits_completing]
  decide +kernel

/-- The next record of a program is of an opcode, and `ok` holds of its verdict on the form and of the paddock. -/
def syncs (op : Op) (s : State) (code : Nat) (ok : State → Program → Rec → Bool) : Bool :=
  match nextRec s 0 0 with
  | some (pr, some r) =>
    r.opcode == code && recordOk op pr r && (List.range 8).all (fun i => (r.slot i).isNone) && ok s pr r
  | _ => false

/-- `running` with a record without operands. -/
def alone (code m : Nat) (ps : List Nat) (f : Paddock → Paddock) : State := running (recordBytes code m ps []) [] [] f

theorem witness_synchronisation :
    let counter := fun (n : Nat) (d : Paddock) => { d with objs := [⟨okey 0xA002 3, n⟩] }
    let started := fun (d : Paddock) => { d with programs := d.programs.map fun pr => { pr with waitSince := some 0 } }
    let clear := fun (s : State) (pr : Program) (_ : Rec) => (s.pad 0).clearBelow (pr.barrier.getD (s.pad 0).nextFlight)
    let busy := fun (d : Paddock) => { d with flights := [flight1], nextFlight := 2 }
    let go := fun (s : State) (_ : Program) (r : Rec) => reached ((s.pad 0).obj 0xA002 (r.p 0)) (r.p 1)
    syncs barrierOp (alone 0x0050 0 [] id) 0x0050 clear = true ∧
    syncs barrierOp (alone 0x0050 0 [] busy) 0x0050 (fun s pr r => !clear s pr r) = true ∧
    syncs barrierOp (running ((recordBytes 0x0050 0 [] []).set 2 2) [] [] id) 0x0050 (fun s _ r =>
      r.flags.testBit 1 && (s.pad 0).shadowsOk) = true ∧
    (∀ n ∈ [5, 4], syncs waitOp (alone 0x0052 0 [3, 5] (counter n)) 0x0052 (fun s pr r => go s pr r == (n == 5)) = true) ∧
    (∀ n ∈ [5, 4], syncs waitOp (alone 0x0052 0 [3, 5, 9] fun d => started (counter n d)) 0x0052 (fun s pr r =>
      pr.waitSince != none && r.p 2 != 0 && go s pr r == (n == 5)) = true) ∧
    (∀ m ∈ [0, 1], syncs signalOp (alone 0x0053 m [3, 5] id) 0x0053 (fun _ _ r =>
      r.modifier == m && !r.flags.testBit 0) = true) ∧
    ((alone 0x0053 0 [3, 5] id).pad 0).readers = [] := by
  decide +kernel

theorem witness_step_commits :
    let r := recordBytes 0x0051 0 [] [0, 1]
    let ds := [td 0 1 [1], td 1 12 [4, 1]]
    let ok := fun (s : State) (is : Bool) => match nextRec s 0 0 with
      | some (pr, some r) => r.opcode == 0x0051 && recordOk commitOp pr r
          && (s.pad 0).clearBelow (pr.barrier.getD (s.pad 0).nextFlight) == is
      | _ => false
    ok (running r ds [] id) true = true ∧ ok (running r ds [] fun d => { d with flights := [flight1], nextFlight := 2 }) false
      = true := by
  decide +kernel

theorem witness_deferred :
    let x : Deferred := { index := 0, counter := 3, increment := 5, signal := none }
    let pr := { oneProgram 0 with next := 1, deferred := [x] }
    let s := roomy { live with programs := [pr] }
    ((s.pad 0).program 0 = some pr ∧ pr.active = true ∧ pr.stop = none ∧ (s.pad 0).active = true
      ∧ (s.pad 0).stopped = false ∧ earlierDone (s.pad 0) pr x = true) ∧
    earlierDone (s.pad 0) { pr with deferred := [{ x with index := 0 }, x], next := 0 } x = false ∧
    { pr with stop := some ⟨0x22, 0, 1, 0⟩ }.stop ≠ none := by
  decide +kernel

theorem witness_overflow :
    let s := dev.setObj 0x8040 9 (2 ^ 22 + 1)
    s.power.running = true ∧ s.counting 0 = true ∧ (s.obj 0x8040 9).testBit 22 = true ∧
    ¬ (0x40 ≤ s.obj 0x8040 9 % 256 ∧ s.obj 0x8040 9 % 256 ≤ 0x46) ∧ s.obj 0x8020 9 ≤ 2 ^ 48 ∧
    (let u := (devPad { live with objs := [⟨okey 0x8105 0, 1⟩] })
     u.counting 0 = false) := by
  decide +kernel

/-- Two commands that go on, and a part that each leaves. -/
theorem witness_frames :
    goesOn (exec (.hbmTrained 0xFFF) dev) = true ∧ StatePart.flash ∉ touched (.hbmTrained 0xFFF) ∧
    goesOn (exec (.logicalPortDown 0) dev) = true ∧ StatePart.memory ∉ touched (.logicalPortDown 0) := by
  decide +kernel

/-! ### Well-formedness: a term that each check refuses, and one at the bound that it takes -/

theorem test_wf_paddock : (Instr.fill 8 0).wf = false ∧ (Instr.fill 7 0).wf = true := by decide
theorem test_wf_queue : (Instr.rnrNak ⟨4096, false⟩).wf = false ∧ (Instr.rnrNak ⟨4095, false⟩).wf = true := by decide
theorem test_wf_rdma :
    (Instr.rdmaWrite ⟨66, false⟩ (2 ^ 32) 0 []).wf = false ∧ (Instr.rdmaWrite ⟨66, false⟩ 0 (2 ^ 64) []).wf = false
      ∧ (Instr.rdmaRead ⟨66, false⟩ 0 0 (2 ^ 32)).wf = false ∧ (Instr.rdmaWrite ⟨66, false⟩ 0 0 []).wf = true := by decide
theorem test_wf_port : (Instr.logicalPortDown 8).wf = false ∧ (Instr.pfcPause 7 [(8, 0)]).wf = false
    ∧ (Instr.pfcPause 7 [(7, 0)]).wf = true := by decide
theorem test_wf_link : (Instr.linkAckDue 48).wf = false ∧ (Instr.linkAckDue 47).wf = true := by decide
theorem test_wf_slot : (Instr.abort 0 (List.replicate 63 0)).wf = false ∧ (Instr.abort 0 (List.replicate 64 0)).wf = true := by
  decide
theorem test_wf_payload :
    (Instr.linkMessage 0 {} false (List.replicate 64 0) [0]).wf = false
      ∧ (Instr.linkMessage 0 {} false [0] []).wf = false ∧ (Instr.linkMessage 0 {} false [] []).wf = true
      ∧ (Instr.linkIdentity 0 [0]).wf = false
      ∧ (Instr.linkMessage 0 {} false (List.replicate 64 0) []).wf = true := by decide
theorem test_wf_strip : (Instr.workRequest 24 0).wf = false ∧ (Instr.workRequest 0 17).wf = false
    ∧ (Instr.workRequest 23 16).wf = true := by decide
theorem test_wf_counter : (Instr.overflowSample 0 0 8).wf = false ∧ (Instr.overflowSample 0 0 7).wf = true := by decide
theorem test_wf_group : (Instr.dissolveEffect 0 16).wf = false ∧ (Instr.dissolveEffect 0 15).wf = true := by decide
theorem test_wf_commit : (Instr.commitSeal 0 0 256 0).wf = false ∧ (Instr.commitSeal 0 (2 ^ 64) 0 0).wf = false := by
  decide
theorem test_wf_allocation : (Instr.fetchComplete 0 4096).wf = false ∧ (Instr.fetchComplete 0 4095).wf = true := by decide
theorem test_wf_stack : (Instr.hbmEccError .corrected 0 0 12).wf = false ∧ (Instr.hbmTrained 4096).wf = false
    ∧ (Instr.hbmTrained 4095).wf = true := by decide
theorem test_wf_cxl : (Instr.cxlEnumeration [⟨2, true, true, 0, 8, 64⟩]).wf = false ∧ (Instr.refclkCxlLoss 2).wf = false := by
  decide
theorem test_wf_flash : (Instr.flashMount (2 ^ 128) 3 0 true).wf = false ∧ (Instr.garbageCollection ⟨1001, 0⟩).wf = false
    ∧ (Instr.nandFailure .target 128).wf = false ∧ (Instr.nandFailure (.unreadable 8 0) 0).wf = false := by decide
theorem test_wf_drill : (Instr.sampleDecoded 0 0 25).wf = false ∧ (Instr.sampleDecoded 0 0 24).wf = true := by decide
theorem test_wf_unit : (Instr.parityError .plot 408).wf = false ∧ (Instr.bistPhaseEnd [(.device, 1)]).wf = false
    ∧ (Instr.parityError .plot 407).wf = true := by decide
theorem test_wf_path : (Instr.dictionaryRequest (.inband 8) []).wf = false ∧ (Instr.dictionaryRequest .field []).wf = true := by
  decide
theorem test_wf_ptp : (Instr.ptpEventMessage 0 256 (.sync 0 0 0)).wf = false
    ∧ (Instr.ptpEventMessage 0 0 (.delayResp (2 ^ 64) 0)).wf = false := by decide
theorem test_wf_power :
    (Instr.derateAssert (.regulator 65536)).wf = false ∧ (Instr.pmbusAlert [65536]).wf = false
      ∧ (Instr.pmbusPoll [⟨16, none, none⟩]).wf = false ∧ (Instr.droopDetect 0 5).wf = false
      ∧ (Instr.headlandPairTrained 24).wf = false := by decide

/-! ### Behaviour: values written out from the rules -/

/-- What a word of an element reads as after a command. -/
def wordAfter (o : Host.Outcome State Fault Refusal) (a : Nat) : Option Nat :=
  match o with
  | .next t => some (readLe (t.byteAt 0) a 4)
  | _ => none

/-- FILL writes P0, here 1.0, to both elements (R102). -/
theorem test_fill : wordAfter (exec (.fill 0 0) (running (recordBytes 0x0002 0 [0x3F800000] [0]) [v2 0] [] id)) 4
    = some 0x3F800000 := by decide +kernel

/-- ELEMWISE 0x00 adds: 1.0 + 2.0 is 3.0 (R102). -/
theorem test_elemwise_add :
    wordAfter (exec (.elemwise 0 0) (running (recordBytes 0x0020 0 [] [0, 1, 2]) [v2 0, v2 1, v2 2]
      [⟨1026, 0x80⟩, ⟨1027, 0x3F⟩, ⟨2051, 0x40⟩] id)) 0 = some 0x40400000 := by decide +kernel

/-- REDUCE 0 over dimension 0 sums: 1.0 + 2.0 is 3.0 (R102). -/
theorem test_reduce_sum :
    wordAfter (exec (.reduce 0 0) (running (recordBytes 0x0021 0 [1] [0, 1]) [td 0 1 [1], v2 1]
      [⟨1026, 0x80⟩, ⟨1027, 0x3F⟩, ⟨1031, 0x40⟩] id)) 0 = some 0x40400000 := by decide +kernel

/-- MATMUL of BF16 1.5 and 2.0 is the F32 3.0 (R133). -/
theorem test_matmul :
    wordAfter (exec (.matmul 0 0) (running (recordBytes 0x0008 0 [] [0, 1, 2]) [td 0 1 [1, 1], td 1 3 [1, 1], td 2 3 [1, 1]]
      [⟨1024, 0xC0⟩, ⟨1025, 0x3F⟩, ⟨2049, 0x40⟩] id)) 0 = some 0x40400000 := by decide +kernel

/-- The first 64 bits of the SHA-512 of "abc" (FIPS 180-4, example). -/
theorem test_sha512 :
    (Crypto.sha512 [0x61, 0x62, 0x63]).take 8 = [0xDD, 0xAF, 0x35, 0xA1, 0x93, 0x61, 0x7A, 0xBA] := by decide +kernel

/-- The CRC-32C of "123456789" is 0xE3069283 (the check value of the polynomial). -/
theorem test_crc32c : Crypto.crc32c ((List.range 9).map fun i => BitVec.ofNat 8 (0x31 + i)) = 0xE3069283 := by
  decide +kernel

/-- The first claim of a context answers its first unit (R126). -/
theorem test_claim : (request (context 0 100 false []) 3).1 = some 0 := by decide

/-- A SIGNAL adds its increment to its counter (R107). -/
theorem test_signal :
    afterward (exec (.signal 0 0) (alone 0x0053 0 [3, 5] id)) (fun t => (t.pad 0).obj 0xA002 3 == 5) = true := by
  decide +kernel

end Sys2Proof.Machine
end

section
/-! Message headers (R279): little-endian fields, the 60 bytes that the header CRC covers, and the header as it
is read back from its bytes. -/

namespace Sys2Proof.Machine
open Sys2Proof

/-! ### Little-endian fields (R9) -/

@[simp] theorem leBytes_length (n v : Nat) : (leBytes n v).length = n := by simp [leBytes]

theorem leBytes_succ (n v : Nat) : leBytes (n + 1) v = BitVec.ofNat 8 v :: leBytes n (v / 256) := by
  simp only [leBytes, List.range_succ_eq_map, List.map_cons, List.map_map]
  congr 1
  refine List.map_congr_left fun i _ => ?_
  have h : 8 * Nat.succ i = 8 + 8 * i := by omega
  rw [Function.comp, h, Nat.shiftRight_add, Nat.shiftRight_eq_div_pow v 8]

theorem leNat_cons (b : Byte) (l : List Byte) : leNat (b :: l) = leNat l * 256 + b.toNat := rfl

theorem leNat_leBytes (n v : Nat) : leNat (leBytes n v) = v % 256 ^ n := by
  induction n generalizing v with
  | zero => simp [leBytes, leNat, Nat.mod_one]
  | succ n ih =>
    have hm : v % 256 ^ (n + 1) = v % 256 + 256 * (v / 256 % 256 ^ n) := by rw [Nat.pow_succ', Nat.mod_mul]
    rw [leBytes_succ, leNat_cons, ih, BitVec.toNat_ofNat, hm]
    omega

theorem leNat_lt (l : List Byte) : leNat l < 256 ^ l.length := by
  induction l with
  | nil => simp [leNat]
  | cons b l ih =>
    have hb := b.isLt
    rw [leNat_cons, List.length_cons, Nat.pow_succ]
    omega

theorem leField_lt (l : List Byte) (o n : Nat) : leField l o n < 256 ^ n :=
  Nat.lt_of_lt_of_le (leNat_lt _) (Nat.pow_le_pow_right (by decide) (List.length_take_le _ _))

/-- A field that lies behind the first part of a list is read from the rest. -/
theorem leField_append_right (a b : List Byte) (o n : Nat) (h : a.length ≤ o) :
    leField (a ++ b) o n = leField b (o - a.length) n := by
  simp [leField, List.drop_append, List.drop_eq_nil_of_le h]

/-- A field that lies in the first part of a list is read from it alone. -/
theorem leField_append_left (a b : List Byte) (o n : Nat) (h : o + n ≤ a.length) :
    leField (a ++ b) o n = leField a o n := by
  have hd : o ≤ a.length := by omega
  have ht : n ≤ a.length - o := by omega
  simp [leField, List.drop_append_of_le_length hd, List.take_append_of_le_length (l₁ := a.drop o), ht]

theorem leField_leBytes (n v : Nat) : leField (leBytes n v) 0 n = v % 256 ^ n := by
  simp [leField, leNat_leBytes, List.take_of_length_le]

theorem leField_leBytes_first (n v : Nat) (b : List Byte) : leField (leBytes n v ++ b) 0 n = v % 256 ^ n := by
  rw [leField_append_left _ _ _ _ (by simp), leField_leBytes]

theorem leField_leBytes_later (m v o n : Nat) (b : List Byte) (h : m ≤ o) :
    leField (leBytes m v ++ b) o n = leField b (o - m) n := by
  rw [leField_append_right _ _ _ _ (by simpa using h), leBytes_length]

/-! ### The CRC (R279) -/

theorem crcBit_lt (c : Nat) (h : c < 2 ^ 32) : Crypto.crcBit c < 2 ^ 32 := by
  have hs : c >>> 1 < 2 ^ 32 := Nat.lt_of_le_of_lt (Nat.shiftRight_le c 1) h
  unfold Crypto.crcBit
  split
  · exact Nat.xor_lt_two_pow hs (by decide)
  · exact hs

theorem crcByte_lt (c : Nat) (b : Byte) (h : c < 2 ^ 32) : Crypto.crcByte c b < 2 ^ 32 := by
  have hb : b.toNat < 2 ^ 32 := Nat.lt_trans b.isLt (by decide)
  exact List.foldlRecOn (motive := (· < 2 ^ 32)) _ _ (Nat.xor_lt_two_pow h hb) fun c hc _ _ => crcBit_lt c hc

theorem crc32c_lt (l : List Byte) : Crypto.crc32c l < 2 ^ 32 :=
  Nat.xor_lt_two_pow (List.foldlRecOn (motive := (· < 2 ^ 32)) l _ (by decide) fun c hc b _ => crcByte_lt c b hc)
    (by decide)

/-! ### Headers -/

/-- Every field of a header is within its width in bytes. -/
structure MsgHeader.Fits (h : MsgHeader) : Prop where
  type : h.type < 256 ^ 1
  flags : h.flags < 256 ^ 1
  lane : h.lane < 256 ^ 1
  hops : h.hops < 256 ^ 1
  dest : h.dest < 256 ^ 4
  source : h.source < 256 ^ 4
  slots : h.slots < 256 ^ 2
  seq : h.seq < 256 ^ 2
  ack : h.ack < 256 ^ 2
  epoch : h.epoch < 256 ^ 4
  step : h.step < 256 ^ 8
  flow : h.flow < 256 ^ 4
  number : h.number < 256 ^ 4
  offset : h.offset < 256 ^ 8
  word : h.word < 256 ^ 4
  crc : h.crc < 256 ^ 4

theorem parseMsg_fits (b : List Byte) : (parseMsg b).Fits where
  type := leField_lt b _ 1
  flags := leField_lt b _ 1
  lane := leField_lt b _ 1
  hops := leField_lt b _ 1
  dest := leField_lt b _ 4
  source := leField_lt b _ 4
  slots := leField_lt b _ 2
  seq := leField_lt b _ 2
  ack := leField_lt b _ 2
  epoch := leField_lt b _ 4
  step := leField_lt b _ 8
  flow := leField_lt b _ 4
  number := leField_lt b _ 4
  offset := leField_lt b _ 8
  word := leField_lt b _ 4
  crc := leField_lt b _ 4

/-- The bytes that the header CRC covers. -/
def MsgHeader.body (h : MsgHeader) : List Byte :=
  leBytes 1 h.type ++ leBytes 1 h.flags ++ leBytes 1 h.lane ++ leBytes 1 h.hops
    ++ leBytes 4 h.dest ++ leBytes 4 h.source ++ leBytes 2 h.slots ++ leBytes 2 h.seq
    ++ leBytes 2 h.ack ++ leBytes 2 0 ++ leBytes 4 h.epoch ++ leBytes 8 h.step ++ leBytes 4 h.flow
    ++ leBytes 4 h.number ++ leBytes 8 h.offset ++ leBytes 4 h.word ++ leBytes 4 h.crc ++ leBytes 4 0

@[simp] theorem MsgHeader.body_length (h : MsgHeader) : h.body.length = 60 := by simp [MsgHeader.body]

theorem MsgHeader.bytes_eq (h : MsgHeader) : h.bytes = h.body ++ leBytes 4 (Crypto.crc32c h.body) := by
  have ht : h.body.take 60 = h.body := List.take_of_length_le (Nat.le_of_eq h.body_length)
  show withCrc h.body = _
  rw [withCrc, ht]

theorem MsgHeader.bytes_length (h : MsgHeader) : h.bytes.length = 64 := by simp [MsgHeader.bytes_eq]

/-- The CRC slot of a header holds the CRC of the bytes before it. -/
theorem headerCrcOk_bytes (h : MsgHeader) : headerCrcOk h.bytes = true := by
  have hc : Crypto.crc32c h.body < 256 ^ 4 := crc32c_lt h.body
  rw [headerCrcOk, MsgHeader.bytes_eq, leField_append_right _ _ _ _ (Nat.le_of_eq h.body_length),
    List.take_left' h.body_length, h.body_length, leField_leBytes, Nat.mod_eq_of_lt hc]
  exact beq_self_eq_true _

/-- A header whose fields are within their widths is read back from its bytes. -/
theorem parseMsg_bytes (h : MsgHeader) (hf : h.Fits) : parseMsg h.bytes = h := by
  obtain ⟨h1, h2, h3, h4, h5, h6, h7, h8, h9, h10, h11, h12, h13, h14, h15, h16⟩ := hf
  simp only [parseMsg, MsgHeader.bytes_eq, MsgHeader.body, List.append_assoc, leField_leBytes_first,
    leField_leBytes_later, Nat.le_refl, Nat.reduceLeDiff, Nat.reduceSub, Nat.mod_eq_of_lt, *]

/-! ### Addresses (R6) -/

theorem addrOf_lt (farm field slot : Nat) (hk : farm < 64) (hf : field < 256) (hs : slot < 16) :
    addrOf farm field slot < 2 ^ 18 := by
  unfold addrOf; omega

theorem farmOf_addrOf (farm field slot : Nat) (hk : farm < 64) (hf : field < 256) (hs : slot < 16) :
    farmOf (addrOf farm field slot) = farm := by
  unfold farmOf addrOf; omega

theorem fieldOf_addrOf (farm field slot : Nat) (hf : field < 256) (hs : slot < 16) :
    fieldOf (addrOf farm field slot) = field := by
  unfold fieldOf addrOf; omega

theorem slotOf_addrOf (farm field slot : Nat) (hs : slot < 16) : slotOf (addrOf farm field slot) = slot := by
  unfold slotOf addrOf; omega

/-- Settles O35: the header's fields are read back by position, and an address by division. -/
theorem messageHeaders : Obligations.MessageHeaders := by
  unfold Obligations.MessageHeaders
  refine ⟨fun h h1 h2 h3 h4 h5 h6 h7 h8 h9 h10 h11 h12 h13 h14 h15 h16 => ?_, fun farm field slot hk hf hs => ?_⟩
  · have fits : h.Fits := ⟨h1, h2, h3, h4, h5, h6, h7, h8, h9, h10, h11, h12, h13, h14, h15, h16⟩
    exact ⟨parseMsg_bytes h fits, h.bytes_length, headerCrcOk_bytes h⟩
  · exact ⟨addrOf_lt _ _ _ hk hf hs, farmOf_addrOf _ _ _ hk hf hs, fieldOf_addrOf _ _ _ hf hs, slotOf_addrOf _ _ _ hs⟩

end Sys2Proof.Machine
end

section
/-! The receipt of messages on a chip link (R281 to R285, R292): what sending leaves of the receiving side, what a
header and its payload slots do, and what link control does. -/

namespace Sys2Proof.Machine
open Sys2Proof

/-! ### One link -/

theorem State.setLink_beyond (s : State) (n : Nat) (d : Link) (h : 48 ≤ n) : s.setLink n d = s := by
  simp [State.setLink, Vector.setIfInBounds_eq_of_size_le h]

theorem State.link_modLink_same (s : State) (n : Nat) (f : Link → Link) (h : n < 48) :
    (s.modLink n f).link n = f (s.link n) := s.link_setLink_same n _ h

@[simp] theorem State.addObj_link (s : State) (i j v n : Nat) : (s.addObj i j v).link n = s.link n := rfl
@[simp] theorem State.emit_link (s : State) (e : Emission) (n : Nat) : (s.emit e).link n = s.link n := rfl

@[simp] theorem Link.ended_rxSeq (l : Link) (q : Nat) : (l.ended q).rxSeq = l.rxSeq := by
  unfold Link.ended; split <;> rfl

@[simp] theorem Link.ended_nakSent (l : Link) (q : Nat) : (l.ended q).nakSent = l.nakSent := by
  unfold Link.ended; split <;> rfl

@[simp] theorem Link.ended_arriving (l : Link) (q : Nat) : (l.ended q).arriving = l.arriving := by
  unfold Link.ended; split <;> rfl

/-! ### The receiving side of the links, which sending leaves alone -/

/-- What a link knows of the messages that come over it: the sequence expected, whether a NAK is out, the messages
still coming, and the sequences taken meanwhile. -/
def Link.reception (l : Link) : Nat × Bool × List Arriving × List Nat := (l.rxSeq, l.nakSent, l.arriving, l.taken)

/-- The receiving side of every link, what has been delivered, and what a delivery turns on: the paddocks, and the
power part with its physical address. -/
def State.reception (s : State) :
    (Nat → Nat × Bool × List Arriving × List Nat) × List Delivered × List (Nat × Nat × Nat) × Vector Paddock 8
      × Power :=
  (fun k => (s.link k).reception, s.inbox, s.seen, s.paddocks, s.power)

section
variable {s t : State} (h : t.reception = s.reception)
include h

theorem reception_link (n : Nat) : (t.link n).reception = (s.link n).reception := congrFun (congrArg Prod.fst h) n
theorem reception_rxSeq (n : Nat) : (t.link n).rxSeq = (s.link n).rxSeq := congrArg (·.1) (reception_link h n)
theorem reception_nakSent (n : Nat) : (t.link n).nakSent = (s.link n).nakSent :=
  congrArg (·.2.1) (reception_link h n)
theorem reception_arriving (n : Nat) : (t.link n).arriving = (s.link n).arriving :=
  congrArg (·.2.2.1) (reception_link h n)
theorem reception_inbox : t.inbox = s.inbox := congrArg (·.2.1) h
theorem reception_seen : t.seen = s.seen := congrArg (·.2.2.1) h
theorem reception_paddocks : t.paddocks = s.paddocks := congrArg (·.2.2.2.1) h
theorem reception_address : t.address = s.address := congrArg (fun x => x.2.2.2.2.address % 2 ^ 18) h

end

@[simp] theorem State.addObj_reception (s : State) (i j v : Nat) : (s.addObj i j v).reception = s.reception := rfl
@[simp] theorem State.emit_reception (s : State) (e : Emission) : (s.emit e).reception = s.reception := rfl
@[simp] theorem State.draw_reception (s : State) : s.draw.2.reception = s.reception := rfl

/-- A link may change in all that is not its receiving side. -/
theorem State.setLink_reception (s : State) (n : Nat) (d : Link) (h : d.reception = (s.link n).reception) :
    (s.setLink n d).reception = s.reception := by
  have hk : ∀ k, ((s.setLink n d).link k).reception = (s.link k).reception := by
    intro k
    by_cases hnk : n = k
    · subst hnk
      by_cases hn : n < 48
      · rw [State.link_setLink_same _ _ _ hn, h]
      · rw [State.setLink_beyond _ _ _ (Nat.not_lt.mp hn)]
    · rw [State.link_setLink_other _ _ _ _ hnk]
  unfold State.reception
  rw [funext hk]
  rfl

theorem State.modLink_reception (s : State) (n : Nat) (f : Link → Link)
    (h : (f (s.link n)).reception = (s.link n).reception) : (s.modLink n f).reception = s.reception :=
  s.setLink_reception n _ h

/-! ### Sending -/

@[simp] theorem State.enterLink_reception (s : State) (n : Nat) (m : FabMsg) (sent : Nat) :
    (s.enterLink n m sent).1.reception = s.reception := by
  unfold State.enterLink
  dsimp only
  split <;> exact State.setLink_reception _ _ _ rfl

@[simp] theorem State.putOnLink_reception (s : State) (n : Nat) (m : FabMsg) :
    (s.putOnLink n m).reception = s.reception := s.enterLink_reception n m _

/-- A message leaves the queue of a link. -/
@[simp] theorem State.setLink_waiting_reception (s : State) (n : Nat) (w : List FabMsg) :
    (s.setLink n { s.link n with waiting := w }).reception = s.reception := s.setLink_reception n _ rfl

@[simp] theorem State.drain_reception (n k debt : Nat) (rest : List Byte) (s : State) :
    (State.drain n k debt rest s).reception = s.reception := by
  induction k generalizing debt rest s with
  | zero => unfold State.drain; split <;> rfl
  | succ k ih =>
    unfold State.drain
    dsimp only
    split
    case h_1 => split <;> simp [ih]
    case h_2 =>
      split
      · split <;> simp [ih]
      · split
        · split <;> simp [ih]
        · split
          · simp [ih]
          · split
            · rfl
            · split
              · rfl
              · split <;> simp [ih]
    case h_3 =>
      split
      · simp [ih]
      · split
        · split <;> simp [ih]
        · rfl

@[simp] theorem State.drainLink_reception (s : State) (n : Nat) : (s.drainLink n).reception = s.reception :=
  State.drain_reception _ _ _ _ _

@[simp] theorem State.sendLink_reception (s : State) (n : Nat) (m : FabMsg) :
    (s.sendLink n m).reception = s.reception :=
  (State.drainLink_reception _ n).trans (State.modLink_reception s n _ rfl)

@[simp] theorem State.acked_reception (s : State) (n a : Nat) : (s.acked n a).reception = s.reception := by
  unfold State.acked
  dsimp only
  split
  · rfl
  · exact (State.drainLink_reception _ n).trans (State.setLink_reception s n _ rfl)

@[simp] theorem State.sendControl_reception (s : State) (n f e : Nat) :
    (s.sendControl n f e).reception = s.reception := by
  unfold State.sendControl
  dsimp only
  split
  · exact State.modLink_reception _ n _ rfl
  · rfl

@[simp] theorem State.freeSlots_reception (s : State) (n lane k : Nat) :
    (s.freeSlots n lane k).reception = s.reception :=
  (State.sendControl_reception _ n 0 0).trans (State.modLink_reception s n _ rfl)

@[simp] theorem State.cutShort_reception (s : State) (n : Nat) (hd pl : List Byte) :
    (s.cutShort n hd pl).reception = s.reception := by
  unfold State.cutShort
  dsimp only
  split
  · rfl
  · split
    · split
      · rfl
      · simp
    · rfl

/-- A NAK is noted on its link; nothing else of the receiving side changes. -/
theorem State.nak_reception (s : State) (n : Nat) :
    (s.nak n).reception = (s.modLink n fun l => { l with nakSent := true }).reception :=
  State.sendControl_reception _ n 1 _

/-! ### Delivery (R292) -/

/-- A message as its consumer finds it. -/
def FabMsg.delivered (m : FabMsg) : Delivered :=
  { kind := m.head.type, source := m.head.source, epoch := m.head.epoch, step := m.head.step, flow := m.head.flow,
    number := m.head.number, offset := m.head.offset, word := m.head.word, payload := m.payload }

theorem State.deliver_inbox (s : State) (m : FabMsg) (hb : m.bodyReserved = false) :
    (s.deliver m).inbox = if (m.head.source, m.head.flow, m.head.number) ∈ s.seen then s.inbox
      else s.inbox ++ [m.delivered] := by
  unfold State.deliver
  by_cases hk : (m.head.source, m.head.flow, m.head.number) ∈ s.seen
  · simp [hk]
  · simp [hk, hb, FabMsg.delivered]

@[simp] theorem State.deliver_paddocks (s : State) (m : FabMsg) : (s.deliver m).paddocks = s.paddocks := by
  unfold State.deliver
  dsimp only
  split
  · rfl
  · split <;> rfl

@[simp] theorem State.deliver_link (s : State) (m : FabMsg) (n : Nat) : (s.deliver m).link n = s.link n := by
  unfold State.deliver
  dsimp only
  split
  · rfl
  · split <;> rfl

theorem laneOf_lt (priority : Bool) (phase : Nat) : laneOf priority phase < 256 := by
  unfold laneOf; split <;> omega

/-- A message whose header is written again for another lane. -/
def FabMsg.onLane (m : FabMsg) (lane : Nat) : FabMsg :=
  { m with header := MsgHeader.bytes { m.head with lane := lane } }

theorem FabMsg.onLane_head (m : FabMsg) (lane : Nat) (hl : lane < 256) :
    (m.onLane lane).head = { m.head with lane := lane } :=
  parseMsg_bytes _ { parseMsg_fits m.header with lane := hl }

theorem FabMsg.onLane_payload (m : FabMsg) (lane : Nat) : (m.onLane lane).payload = m.payload := by
  simp only [FabMsg.onLane]

/-- Delivery does not turn on the lane that a message came on. -/
theorem State.deliver_onLane (s : State) (m : FabMsg) (lane : Nat) (hl : lane < 256) :
    s.deliver (m.onLane lane) = s.deliver m := by
  unfold State.deliver FabMsg.bodyReserved
  rw [m.onLane_head lane hl, m.onLane_payload]

theorem State.arrived_cases (s : State) (n : Nat) (m : FabMsg) :
    s.arrived n m = m ∨ ∃ lane, lane < 256 ∧ s.arrived n m = m.onLane lane := by
  unfold State.arrived
  split
  · split
    · exact .inr ⟨_, laneOf_lt _ _, rfl⟩
    · exact .inl rfl
  · exact .inl rfl

/-- A message for this device is delivered as it came. -/
theorem State.accept_arrived (s t : State) (n : Nat) (m : FabMsg) (h : m.head.dest = t.address) :
    t.accept (s.arrived n m) = t.deliver m := by
  obtain ha | ⟨lane, hl, ha⟩ := s.arrived_cases n m
  · rw [ha, State.accept, if_pos h]
  · have hd : (m.onLane lane).head.dest = t.address := by rw [m.onLane_head lane hl]; exact h
    rw [ha, State.accept, if_pos hd, t.deliver_onLane m lane hl]

/-! ### Whole messages (R280, R281) -/

@[simp] theorem State.modLink_address (s : State) (n : Nat) (f : Link → Link) :
    (s.modLink n f).address = s.address := by
  simp [State.address]

/-- A message that has come whole and sound, within the sizes of its class, and whose destination is this device. -/
structure FabMsg.SoundFor (m : FabMsg) (s : State) : Prop where
  whole : m.payload.length = 64 * m.head.slots
  crc : payloadCrc m.payload = m.head.crc
  unreserved : reservedSet m.header = false
  size : m.head.slots ≤ 1024
  prioritySize : m.head.flags.testBit 0 = true → m.head.slots ≤ 4
  here : m.head.dest = s.address
  bodyUnreserved : m.bodyReserved = false

theorem FabMsg.SoundFor.of_address {m : FabMsg} {s t : State} (h : m.SoundFor s) (ha : t.address = s.address) :
    m.SoundFor t := { h with here := h.here.trans ha.symm }

/-- The state in which a sound message is used: its sequence taken, and its slots freed. -/
def State.takeWhole (s : State) (n : Nat) (h : MsgHeader) : State :=
  (s.modLink n fun l => { l.ended h.seq with ackDue := true }).freeSlots n h.lane (1 + h.slots)

theorem State.takeWhole_reception (s : State) (n : Nat) (h : MsgHeader) :
    (s.takeWhole n h).reception = (s.modLink n fun l => { l.ended h.seq with ackDue := true }).reception :=
  State.freeSlots_reception _ _ _ _

theorem State.takeWhole_address (s : State) (n : Nat) (h : MsgHeader) : (s.takeWhole n h).address = s.address :=
  (reception_address (s.takeWhole_reception n h)).trans (s.modLink_address n _)

/-- A whole message as the receipt puts it together from a header and payload slots. -/
abbrev FabMsg.of (hd pl : List Byte) : FabMsg := { header := hd, payload := pl }

theorem State.wholeMessage_sound (s : State) (n : Nat) (hd pl : List Byte) (hm : (FabMsg.of hd pl).SoundFor s) :
    s.wholeMessage n false hd pl = (s.takeWhole n (parseMsg hd)).deliver (.of hd pl) := by
  obtain ⟨whole, crc, unreserved, size, prioritySize, here, -⟩ := hm
  simp only [FabMsg.head] at whole crc size prioritySize here
  have hsound : (false || pl.length != 64 * (parseMsg hd).slots || payloadCrc pl != (parseMsg hd).crc) = false := by
    simp [whole, crc]
  have hsize : (decide (1024 < (parseMsg hd).slots)
      || ((parseMsg hd).flags.testBit 0 && decide (4 < (parseMsg hd).slots))) = false := by
    rw [Bool.or_eq_false_iff, Bool.and_eq_false_imp, decide_eq_false_iff_not]
    exact ⟨by omega, fun hp => decide_eq_false (by have := prioritySize hp; omega)⟩
  have hdest : (FabMsg.of hd pl).head.dest = (s.takeWhole n (parseMsg hd)).address := by
    rw [State.takeWhole_address]; exact here
  rw [← State.accept_arrived (s.takeWhole n (parseMsg hd)) _ n _ hdest]
  unfold State.wholeMessage
  simp only [hsound, unreserved, hsize, Bool.false_eq_true, if_false]
  rfl

/-- What a sound message for this device does: it is delivered once for its source, flow and number, and of its link's
receiving side only the sequences taken meanwhile change. -/
theorem State.wholeMessage_delivers (s : State) (n : Nat) (hd pl : List Byte) (hn : n < 48)
    (hm : (FabMsg.of hd pl).SoundFor s) :
    let m := FabMsg.of hd pl
    let t := s.wholeMessage n false hd pl
    (t.inbox = if (m.head.source, m.head.flow, m.head.number) ∈ s.seen then s.inbox else s.inbox ++ [m.delivered]) ∧
      t.paddocks = s.paddocks ∧ (t.link n).rxSeq = (s.link n).rxSeq ∧ (t.link n).nakSent = (s.link n).nakSent ∧
      (t.link n).arriving = (s.link n).arriving := by
  have hr := s.takeWhole_reception n (parseMsg hd)
  have hl := s.link_modLink_same n (fun l => { l.ended (parseMsg hd).seq with ackDue := true }) hn
  intro m t
  have ht : t = (s.takeWhole n (parseMsg hd)).deliver m := s.wholeMessage_sound n hd pl hm
  rw [ht, State.deliver_inbox _ _ hm.bodyUnreserved, State.deliver_paddocks, State.deliver_link, reception_inbox hr,
    reception_seen hr, reception_paddocks hr, reception_rxSeq hr, reception_nakSent hr, reception_arriving hr, hl]
  exact ⟨rfl, rfl, Link.ended_rxSeq _ _, Link.ended_nakSent _ _, Link.ended_arriving _ _⟩

/-! ### A header and the slots behind it (R281, R282, R284) -/

/-- The counters of the slots and codewords that came over a link. -/
def State.countSlots (s : State) (n : Nat) (words : Codewords) (slots : Nat) : State :=
  let s := (s.addObj 0x5008 n slots).addObj 0x5003 n words.corrected
  if words.uncorrectable then s.addObj 0x5004 n 1 else s

@[simp] theorem State.countSlots_reception (s : State) (n : Nat) (words : Codewords) (slots : Nat) :
    (s.countSlots n words slots).reception = s.reception := by
  unfold State.countSlots
  split <;> rfl

@[simp] theorem State.countSlots_link (s : State) (n k : Nat) (words : Codewords) (slots : Nat) :
    (s.countSlots n words slots).link k = s.link k := by
  unfold State.countSlots
  split <;> rfl

@[simp] theorem State.countSlots_inbox (s : State) (n : Nat) (words : Codewords) (slots : Nat) :
    (s.countSlots n words slots).inbox = s.inbox := reception_inbox (s.countSlots_reception n words slots)

@[simp] theorem State.countSlots_seen (s : State) (n : Nat) (words : Codewords) (slots : Nat) :
    (s.countSlots n words slots).seen = s.seen := reception_seen (s.countSlots_reception n words slots)

@[simp] theorem State.countSlots_paddocks (s : State) (n : Nat) (words : Codewords) (slots : Nat) :
    (s.countSlots n words slots).paddocks = s.paddocks := reception_paddocks (s.countSlots_reception n words slots)

@[simp] theorem State.countSlots_address (s : State) (n : Nat) (words : Codewords) (slots : Nat) :
    (s.countSlots n words slots).address = s.address := reception_address (s.countSlots_reception n words slots)

/-- The header's slots are counted; then the message is looked at. -/
theorem exec_linkMessage_header (s : State) (n : Nat) (words : Codewords) (bad : Bool) (hd pl : List Byte)
    (hn : n < 48) (hup : (s.link n).isUp = true) (hlen : hd.length = 64) :
    exec (.linkMessage n words bad hd pl) s =
      .next ((s.countSlots n words (hd.length / 64 + pl.length / 64)).newMessage n
        (words.uncorrectable || bad) hd pl) := by
  have hne : hd.isEmpty = false := List.isEmpty_eq_false_iff.mpr (List.ne_nil_of_length_eq_add_one hlen)
  have hguard : (decide (48 ≤ n) || !(s.link n).isUp || (hd.length != 64 && hd.length != 0)) = false := by
    simp [hn, hup, hlen]
  show execLinkMessage n words bad hd pl s = _
  simp only [execLinkMessage, hguard, hne, Bool.false_eq_true, if_false]
  rfl

/-- Slots without a header go to the message in progress. -/
theorem exec_linkMessage_slots (s : State) (n : Nat) (words : Codewords) (bad : Bool) (pl : List Byte)
    (hn : n < 48) (hup : (s.link n).isUp = true) :
    exec (.linkMessage n words bad [] pl) s =
      .next ((s.countSlots n words (pl.length / 64)).moreSlots n (words.uncorrectable || bad) pl) := by
  have hguard : (decide (48 ≤ n) || !(s.link n).isUp || (([] : List Byte).length != 64 && ([] : List Byte).length != 0))
      = false := by simp [hn, hup]
  show execLinkMessage n words bad [] pl s = _
  simp only [execLinkMessage, hguard, Bool.false_eq_true, if_false]
  simp [State.countSlots]

/-- The sequence expected goes on, and no NAK is out. -/
def Link.expectNext (l : Link) : Link := { l with rxSeq := (l.rxSeq + 1) % 65536, nakSent := false }

/-- A sound header that is due takes its sequence and hands on its acknowledgement. Where slots are missing the message
waits for them; otherwise it has come whole. -/
theorem State.newMessage_due (s : State) (n : Nat) (hd pl : List Byte) (hcrc : headerCrcOk hd = true)
    (hbegin : (s.link n).mayBegin (parseMsg hd).lane = true) (hlow : 1 ≤ (parseMsg hd).type)
    (hhigh : (parseMsg hd).type ≤ 6) (hseq : (parseMsg hd).seq = (s.link n).rxSeq) (htaken : (s.link n).taken = []) :
    ∃ u : State, u.reception = (s.modLink n Link.expectNext).reception ∧
      s.newMessage n false hd pl = if pl.length < 64 * (parseMsg hd).slots then
          u.modLink n fun l => { l with arriving := l.arriving ++ [{ header := hd, payload := pl }] }
        else u.wholeMessage n false hd pl := by
  refine ⟨if (parseMsg hd).flags.testBit 1 then (s.modLink n Link.expectNext).acked n (parseMsg hd).ack
    else s.modLink n Link.expectNext, ?_, ?_⟩
  · split
    · exact State.acked_reception _ _ _
    · rfl
  · have hctl : ¬ 0x10 ≤ (parseMsg hd).type := by omega
    unfold State.newMessage
    simp only [hcrc, hbegin, hlow, hhigh, hctl, hseq, htaken, beq_self_eq_true, List.contains_nil, decide_true,
      decide_false, Bool.not_true, Bool.or_self, Bool.and_self, Bool.false_and, Bool.false_eq_true, if_false]
    rfl

/-- An errored message brings a NAK; at most something of it has gone on to another link. -/
theorem State.newMessage_errored (s : State) (n : Nat) (bad : Bool) (hd pl : List Byte)
    (h : bad = true ∨ headerCrcOk hd = false) :
    ∃ u : State, u.reception = s.reception ∧ s.newMessage n bad hd pl = u.nak n := by
  refine ⟨if headerCrcOk hd && (parseMsg hd).seq == (s.link n).rxSeq && (s.link n).mayBegin (parseMsg hd).lane then
    s.cutShort n hd pl else s, ?_, ?_⟩
  · split
    · exact State.cutShort_reception _ _ _ _
    · rfl
  · have hbad : (bad || !headerCrcOk hd || !(s.link n).mayBegin (parseMsg hd).lane) = true := by
      obtain rfl | hc := h
      · rfl
      · simp [hc]
    unfold State.newMessage
    simp only [hbad, if_true]

/-- The last slots of a message in progress make it whole. -/
theorem State.moreSlots_last (s : State) (n : Nat) (rest : List Arriving) (x : Arriving) (pl : List Byte)
    (harr : (s.link n).arriving = rest ++ [x])
    (hlen : (x.payload ++ pl).length = 64 * (parseMsg x.header).slots) :
    s.moreSlots n false pl = (s.modLink n fun l => { l with arriving := l.arriving.dropLast }).wholeMessage n false
      x.header (x.payload ++ pl) := by
  unfold State.moreSlots
  simp [harr, ← hlen]

/-! ### What a message of a link does -/

section
variable (s : State) (n : Nat) (hd pl : List Byte) (hn : n < 48)
include hn

section
variable (hcrc : headerCrcOk hd = true) (hlow : 1 ≤ (parseMsg hd).type) (hhigh : (parseMsg hd).type ≤ 6)
  (hseq : (parseMsg hd).seq = (s.link n).rxSeq) (hbegin : (s.link n).mayBegin (parseMsg hd).lane = true)
  (htaken : (s.link n).taken = [])
include hcrc hlow hhigh hseq hbegin htaken

/-- A whole message in sequence for this device is delivered, and the next sequence is expected (R282, R292). -/
theorem State.newMessage_whole (hm : (FabMsg.of hd pl).SoundFor s) :
    let m := FabMsg.of hd pl
    let t := s.newMessage n false hd pl
    (t.link n).rxSeq = ((s.link n).rxSeq + 1) % 65536 ∧ (t.link n).nakSent = false ∧
      (t.inbox = if (m.head.source, m.head.flow, m.head.number) ∈ s.seen then s.inbox else s.inbox ++ [m.delivered]) ∧
      t.paddocks = s.paddocks := by
  intro m t
  obtain ⟨u, hu, heq⟩ := s.newMessage_due n hd pl hcrc hbegin hlow hhigh hseq htaken
  have hlong : ¬ pl.length < 64 * (parseMsg hd).slots := Nat.not_lt.mpr (Nat.le_of_eq hm.whole.symm)
  have ht : t = u.wholeMessage n false hd pl := heq.trans (if_neg hlong)
  have haddr : u.address = s.address := (reception_address hu).trans (s.modLink_address n _)
  obtain ⟨hinbox, hpads, hrx, hnak, -⟩ := u.wholeMessage_delivers n hd pl hn (hm.of_address haddr)
  rw [ht, hinbox, hpads, hrx, hnak, reception_inbox hu, reception_seen hu, reception_paddocks hu, reception_rxSeq hu,
    reception_nakSent hu, State.link_modLink_same _ _ _ hn]
  exact ⟨rfl, rfl, rfl, rfl⟩

/-- A message in sequence that breaks off waits for the rest of its payload slots (R284). -/
theorem State.newMessage_partial (hshort : pl.length < 64 * (parseMsg hd).slots) :
    let t := s.newMessage n false hd pl
    (t.link n).arriving = (s.link n).arriving ++ [{ header := hd, payload := pl }] ∧
      (t.link n).rxSeq = ((s.link n).rxSeq + 1) % 65536 ∧ t.inbox = s.inbox ∧ t.paddocks = s.paddocks := by
  intro t
  obtain ⟨u, hu, heq⟩ := s.newMessage_due n hd pl hcrc hbegin hlow hhigh hseq htaken
  have ht : t = u.modLink n fun l => { l with arriving := l.arriving ++ [{ header := hd, payload := pl }] } :=
    heq.trans (if_pos hshort)
  rw [ht, State.link_modLink_same _ _ _ hn, State.modLink_inbox, State.modLink_paddocks, reception_arriving hu,
    reception_rxSeq hu, reception_inbox hu, reception_paddocks hu, State.link_modLink_same _ _ _ hn]
  exact ⟨rfl, rfl, rfl, rfl⟩

end

/-- The last payload slots of a message that broke off deliver it (R284, R292). -/
theorem State.moreSlots_whole (rest : List Arriving) (x : Arriving) (harr : (s.link n).arriving = rest ++ [x])
    (hm : (FabMsg.of x.header (x.payload ++ pl)).SoundFor s) :
    let m := FabMsg.of x.header (x.payload ++ pl)
    let t := s.moreSlots n false pl
    (t.link n).arriving = rest ∧
      (t.inbox = if (m.head.source, m.head.flow, m.head.number) ∈ s.seen then s.inbox else s.inbox ++ [m.delivered]) ∧
      t.paddocks = s.paddocks := by
  intro m t
  have ht := s.moreSlots_last n rest x pl harr hm.whole
  obtain ⟨hinbox, hpads, -, -, harr'⟩ := State.wholeMessage_delivers
    (s.modLink n fun l => { l with arriving := l.arriving.dropLast }) n x.header (x.payload ++ pl) hn
    (hm.of_address (s.modLink_address n _))
  rw [show t = _ from ht, hinbox, hpads, harr', State.link_modLink_same _ _ _ hn]
  exact ⟨by simp [harr], rfl, rfl⟩

/-- An errored message is not delivered: the sequence expected stays, and a NAK has been sent (R281, R282). -/
theorem State.newMessage_naks (bad : Bool) (h : bad = true ∨ headerCrcOk hd = false) :
    let t := s.newMessage n bad hd pl
    (t.link n).rxSeq = (s.link n).rxSeq ∧ (t.link n).nakSent = true ∧ t.inbox = s.inbox ∧ t.paddocks = s.paddocks := by
  obtain ⟨u, hu, heq⟩ := s.newMessage_errored n bad hd pl h
  have hk := u.nak_reception n
  intro t
  rw [show t = _ from heq, reception_rxSeq hk, reception_nakSent hk, reception_inbox hk, reception_paddocks hk,
    State.modLink_inbox, State.modLink_paddocks, State.link_modLink_same _ _ _ hn]
  exact ⟨reception_rxSeq hu n, rfl, reception_inbox hu, reception_paddocks hu⟩

end

/-! ### Aborts (R281) -/

/-- The partial messages of a lane are discarded. -/
def Link.dropLane (l : Link) (lane : Nat) : Link :=
  { l with arriving := l.arriving.filter fun x => !((parseMsg x.header).lane == lane) }

/-- The slots that the partial messages of a lane hold, and the abort's own. -/
def Link.slotsOfLane (l : Link) (lane : Nat) : Nat :=
  ((l.arriving.filter fun x => (parseMsg x.header).lane == lane).map fun x => 1 + x.payload.length / 64).foldl (· + ·) 1

theorem Link.mem_dropLane_arriving (l : Link) (lane : Nat) (x : Arriving) (h : x ∈ (l.dropLane lane).arriving) :
    (parseMsg x.header).lane ≠ lane := by
  simpa using (List.mem_filter.mp h).2

/-- An abort in sequence: what it acknowledges is handed on, its lane's partial messages go, and their slots are
freed. -/
theorem exec_abort_due (s : State) (n : Nat) (hd : List Byte) (hn : n < 48) (hup : (s.link n).isUp = true)
    (hlen : hd.length = 64) (htype : (parseMsg hd).type = 0x13) (hcrc : headerCrcOk hd = true)
    (hseq : (parseMsg hd).seq = (s.link n).rxSeq) (hres : reservedSet hd = false) :
    ∃ u : State, u.reception = (s.modLink n fun l => { l.expectNext with ackDue := true }).reception ∧
      exec (.abort n hd) s = .next
        ((u.modLink n fun l => (l.dropLane (parseMsg hd).lane).ended (parseMsg hd).seq).freeSlots n
          (parseMsg hd).lane ((s.link n).slotsOfLane (parseMsg hd).lane)) := by
  have hguard : (decide (48 ≤ n) || !(s.link n).isUp || hd.length != 64 || (parseMsg hd).type != 0x13) = false := by
    simp [hn, hup, hlen, htype]
  let v := (s.addObj 0x5008 n 1).modLink n fun l => { l.expectNext with ackDue := true }
  refine ⟨if (parseMsg hd).flags.testBit 1 then v.acked n (parseMsg hd).ack else v, ?_, ?_⟩
  · split
    · exact State.acked_reception _ _ _
    · rfl
  · show execAbort n hd s = _
    simp only [execAbort, hguard, hcrc, hseq, hres, bne_self_eq_false, Bool.not_true, Bool.false_eq_true, if_false]
    rfl

/-! ### Link control (R285) -/

/-- Nothing waits on a link: nothing is sent. -/
theorem State.drainLink_idle (s : State) (n : Nat) (h : (s.link n).waiting = []) : s.drainLink n = s := by
  unfold State.drainLink
  rw [h]
  rfl

/-- The credit totals that a link-control message carries, lane 0 first. -/
def creditTotals (b : List Byte) : List Nat :=
  leField b 0x20 2 :: (List.range 6).map fun i => leField b (0x14 + 2 * i) 2

/-- The control slot is counted, and its credit totals are set. -/
def State.takeCredits (s : State) (n : Nat) (b : List Byte) : State :=
  (s.addObj 0x5008 n 1).modLink n fun l => { l with returned := creditTotals b }

theorem State.takeCredits_link (s : State) (n : Nat) (b : List Byte) (hn : n < 48) :
    (s.takeCredits n b).link n = { s.link n with returned := creditTotals b } := State.link_modLink_same _ _ _ hn

section
variable (s : State) (n : Nat) (hn : n < 48) (hidle : (s.link n).waiting = [])
include hn hidle

theorem State.credited_idle (b : List Byte) :
    s.credited n b = s.modLink n fun l => { l with returned := creditTotals b } := by
  refine State.drainLink_idle _ n ?_
  rw [State.link_modLink_same _ _ _ hn]
  exact hidle

theorem State.acked_idle (a : Nat) :
    ((s.acked n a).link n).unacked = (s.link n).unacked.drop (ackedCount (s.link n) a) ∧ (s.acked n a).out = s.out
      ∧ (s.acked n a).inbox = s.inbox := by
  unfold State.acked
  dsimp only
  split
  case isTrue h0 => simp [h0]
  case isFalse =>
    rw [State.drainLink_idle, State.link_setLink_same _ _ _ hn]
    · exact ⟨rfl, rfl, rfl⟩
    · rw [State.link_setLink_same _ _ _ hn]
      exact hidle

/-- A link-control message without reserved bits on a link that does not go down: its credits, then what it
acknowledges. -/
theorem State.control_idle (b : List Byte) (hres : controlReserved b = false)
    (hdown : (leField b 1 1).testBit 4 = false) :
    s.control n b = if (leField b 1 1).testBit 1 then (s.takeCredits n b).acked n (leField b 0x10 2)
      else s.takeCredits n b := by
  have hc : (s.addObj 0x5008 n 1).credited n b = s.takeCredits n b := (s.addObj 0x5008 n 1).credited_idle n hn hidle b
  unfold State.control
  simp only [hres, hdown, hc, Bool.false_eq_true, if_false]

end

/-- A link-control message that asks for no replay and no release is used on a link that carries control. -/
theorem exec_linkControl_plain (s : State) (n : Nat) (hd : List Byte) (hn : n < 48) (hup : (s.link n).isUp = true)
    (hok : controlOk hd = true) (h0 : (leField hd 1 1).testBit 0 = false) (h2 : (leField hd 1 1).testBit 2 = false)
    (h3 : (leField hd 1 1).testBit 3 = false) : exec (.linkControl n hd) s = .next (s.control n hd) := by
  have hcarries : carriesControl (s.link n) = true := by simp [carriesControl, hup]
  have hguard : (decide (48 ≤ n) || !carriesControl (s.link n) || !controlOk hd || (leField hd 1 1).testBit 0
      || (leField hd 1 1).testBit 2 || (leField hd 1 1).testBit 3) = false := by
    simp only [hcarries, hok, h0, h2, h3, Nat.not_le.mpr hn, decide_false, Bool.not_true, Bool.or_false]
  show execLinkControl n hd s = _
  simp only [execLinkControl, hguard, Bool.false_eq_true, if_false]

/-! ### NAKs and replay (R282) -/

/-- One message of the replay buffer goes out again. -/
def State.sendAgain (n : Nat) (s : State) (x : Nat × FabMsg) : State :=
  (s.emit (.linkMessage n x.2)).addObj 0x5007 n x.2.slots

theorem foldl_sendAgain (n : Nat) (l : List (Nat × FabMsg)) (s : State) :
    (l.foldl (State.sendAgain n) s).out = s.out ++ l.map (fun x => .linkMessage n x.2) ∧
      (l.foldl (State.sendAgain n) s).links = s.links ∧ (l.foldl (State.sendAgain n) s).paddocks = s.paddocks := by
  induction l generalizing s with
  | nil => simp
  | cons x l ih =>
    obtain ⟨hout, hlinks, hpads⟩ := ih (s.sendAgain n x)
    rw [List.foldl_cons, hout, hlinks, hpads]
    simp [State.sendAgain, State.emit_out]

/-- A replay of a sequence that has not been sent again too often. -/
theorem State.replayFrom_found (s : State) (n e i : Nat) (hn : n < 48)
    (hi : (s.link n).unacked.findIdx? (fun x => x.1 == e) = some i) (hfew : (s.link n).replays < 7) :
    let t := s.replayFrom n e
    (t.link n).unacked = (s.link n).unacked.drop i
      ∧ t.out = s.out ++ ((s.link n).unacked.drop i).map (fun x => .linkMessage n x.2) ++ [.prbs n]
      ∧ t.paddocks = s.paddocks := by
  let rest := (s.link n).unacked.drop i
  let tries := (if i = 0 then (s.link n).replays else 0) + 1
  have htries : ¬ 8 ≤ tries := by
    show ¬ 8 ≤ (if i = 0 then (s.link n).replays else 0) + 1
    split <;> omega
  let v := (s.setLink n { s.link n with unacked := rest, replays := tries }).addObj 0x5005 n 1
  have ht : s.replayFrom n e = (rest.foldl (State.sendAgain n) v).emit (.prbs n) := by
    unfold State.replayFrom
    dsimp only
    rw [hi]
    exact if_neg htries
  obtain ⟨hout, hlinks, hpads⟩ := foldl_sendAgain n rest v
  have hv : v.link n = { s.link n with unacked := rest, replays := tries } := State.link_setLink_same _ _ _ hn
  have hlink : (rest.foldl (State.sendAgain n) v).link n = v.link n := by rw [State.link, hlinks]; rfl
  intro t
  rw [show t = _ from ht, State.emit_link, State.emit_out, State.emit_paddocks, hlink, hout, hpads, hv]
  exact ⟨rfl, rfl, rfl⟩

/-- A NAK on a link where nothing waits: its credits, then the replay it asks for. -/
theorem exec_nak_idle (s : State) (n : Nat) (hd : List Byte) (hn : n < 48) (hup : (s.link n).isUp = true)
    (hok : controlOk hd = true) (hres : controlReserved hd = false) (hflag : leField hd 1 1 = 1)
    (hidle : (s.link n).waiting = []) :
    exec (.nak n hd) s = .next ((s.takeCredits n hd).replayFrom n (leField hd 0x12 2)) := by
  have hguard : (decide (48 ≤ n) || !(s.link n).isUp || !controlOk hd || !(leField hd 1 1).testBit 0) = false := by
    rw [hflag]
    simp [hn, hup, hok]
  have hcontrol := s.control_idle n hn hidle hd hres (by rw [hflag]; rfl)
  rw [hflag, if_neg (by decide)] at hcontrol
  have hup' : (({ s.link n with returned := creditTotals hd } : Link)).isUp = true := hup
  show execNak n hd s = _
  simp only [execNak, hguard, hcontrol, hres, s.takeCredits_link n hd hn, hup', Bool.not_true, Bool.or_self,
    Bool.false_eq_true, if_false]

/-! ### Acknowledgements that are due (R282) -/

theorem exec_linkAckDue_due (s : State) (n : Nat) (hn : n < 48) (hup : (s.link n).isUp = true)
    (hdue : (s.link n).ackDue = true) : exec (.linkAckDue n) s = .next (s.sendControl n 2 0) := by
  have hguard : (decide (48 ≤ n) || !(s.link n).isUp || !(s.link n).ackDue) = false := by simp [hn, hup, hdue]
  show execLinkAckDue n s = _
  simp only [execLinkAckDue, hguard, Bool.false_eq_true, if_false]

/-- A link-control message with an acknowledgement goes out, and none is due any more. -/
theorem State.sendControl_ack (s : State) (n : Nat) : s.sendControl n 2 0 =
    ((s.emit (.linkControl n (controlHeader s n 2 0))).addObj 0x5007 n 1).modLink n fun l =>
      { l with ackDue := false } := by
  have hack : Nat.testBit 2 1 = true := by decide
  unfold State.sendControl
  simp only [hack, if_true]

/-! ### The commands of a link -/

/-- A whole message in sequence for this device, with none before it still coming. -/
theorem exec_linkMessage_whole (s : State) (n : Nat) (hd pl : List Byte) (hn : n < 48)
    (hup : (s.link n).isUp = true) (hlen : hd.length = 64) (hcrc : headerCrcOk hd = true)
    (hlow : 1 ≤ (parseMsg hd).type) (hhigh : (parseMsg hd).type ≤ 6) (hseq : (parseMsg hd).seq = (s.link n).rxSeq)
    (harr : (s.link n).arriving = []) (htaken : (s.link n).taken = []) (hm : (FabMsg.of hd pl).SoundFor s) :
    let m := FabMsg.of hd pl
    ∃ t, exec (.linkMessage n {} false hd pl) s = .next t ∧ (t.link n).rxSeq = (m.head.seq + 1) % 65536
      ∧ (t.link n).nakSent = false
      ∧ t.inbox = (if (m.head.source, m.head.flow, m.head.number) ∈ s.seen then s.inbox else s.inbox ++ [m.delivered])
      ∧ t.paddocks = s.paddocks := by
  have hbegin : (s.link n).mayBegin (parseMsg hd).lane = true := by rw [Link.mayBegin, harr]
  have hv := s.countSlots_link n n {} (hd.length / 64 + pl.length / 64)
  obtain ⟨hrx, hnak, hinbox, hpads⟩ := State.newMessage_whole _ n hd pl hn hcrc hlow hhigh (by rwa [hv])
    (by rwa [hv]) (by rwa [hv]) (hm.of_address (s.countSlots_address n {} (hd.length / 64 + pl.length / 64)))
  rw [hv, ← hseq] at hrx
  rw [State.countSlots_inbox, State.countSlots_seen] at hinbox
  exact ⟨_, exec_linkMessage_header s n {} false hd pl hn hup hlen, hrx, hnak, hinbox,
    hpads.trans (s.countSlots_paddocks n _ _)⟩

/-- A message in sequence that breaks off. -/
theorem exec_linkMessage_partial (s : State) (n : Nat) (hd pl : List Byte) (hn : n < 48)
    (hup : (s.link n).isUp = true) (hlen : hd.length = 64) (hcrc : headerCrcOk hd = true)
    (hlow : 1 ≤ (parseMsg hd).type) (hhigh : (parseMsg hd).type ≤ 6) (hseq : (parseMsg hd).seq = (s.link n).rxSeq)
    (hshort : pl.length < 64 * (parseMsg hd).slots) (hbegin : (s.link n).mayBegin (parseMsg hd).lane = true)
    (htaken : (s.link n).taken = []) :
    ∃ t, exec (.linkMessage n {} false hd pl) s = .next t
      ∧ (t.link n).arriving = (s.link n).arriving ++ [{ header := hd, payload := pl }]
      ∧ (t.link n).rxSeq = ((parseMsg hd).seq + 1) % 65536 ∧ t.inbox = s.inbox ∧ t.paddocks = s.paddocks := by
  have hv := s.countSlots_link n n {} (hd.length / 64 + pl.length / 64)
  obtain ⟨harr, hrx, hinbox, hpads⟩ := State.newMessage_partial _ n hd pl hn hcrc hlow hhigh (by rwa [hv])
    (by rwa [hv]) (by rwa [hv]) hshort
  rw [hv] at harr hrx
  rw [← hseq] at hrx
  exact ⟨_, exec_linkMessage_header s n {} false hd pl hn hup hlen, harr, hrx,
    hinbox.trans (s.countSlots_inbox n _ _), hpads.trans (s.countSlots_paddocks n _ _)⟩

/-- The last payload slots of the message in progress. -/
theorem exec_linkMessage_rest (s : State) (n : Nat) (x : Arriving) (rest : List Arriving) (pl : List Byte)
    (hn : n < 48) (hup : (s.link n).isUp = true) (harr : (s.link n).arriving = rest ++ [x])
    (hm : (FabMsg.of x.header (x.payload ++ pl)).SoundFor s) :
    let m := FabMsg.of x.header (x.payload ++ pl)
    ∃ t, exec (.linkMessage n {} false [] pl) s = .next t ∧ (t.link n).arriving = rest
      ∧ t.inbox = (if (m.head.source, m.head.flow, m.head.number) ∈ s.seen then s.inbox else s.inbox ++ [m.delivered])
      ∧ t.paddocks = s.paddocks := by
  have hv := s.countSlots_link n n {} (pl.length / 64)
  obtain ⟨hrest, hinbox, hpads⟩ := State.moreSlots_whole _ n pl hn rest x (by rwa [hv])
    (hm.of_address (s.countSlots_address n {} (pl.length / 64)))
  rw [State.countSlots_inbox, State.countSlots_seen] at hinbox
  exact ⟨_, exec_linkMessage_slots s n {} false pl hn hup, hrest, hinbox, hpads.trans (s.countSlots_paddocks n _ _)⟩

/-- A message with an uncorrectable codeword, a bad block, or a header whose CRC fails. -/
theorem exec_linkMessage_errored (s : State) (n : Nat) (words : Codewords) (bad : Bool) (hd pl : List Byte)
    (hn : n < 48) (hup : (s.link n).isUp = true) (hlen : hd.length = 64)
    (herr : words.uncorrectable = true ∨ bad = true ∨ headerCrcOk hd = false) :
    ∃ t, exec (.linkMessage n words bad hd pl) s = .next t ∧ (t.link n).rxSeq = (s.link n).rxSeq
      ∧ (t.link n).nakSent = true ∧ t.inbox = s.inbox ∧ t.paddocks = s.paddocks := by
  have hbad : (words.uncorrectable || bad) = true ∨ headerCrcOk hd = false := by rwa [Bool.or_eq_true, or_assoc]
  obtain ⟨hrx, hnak, hinbox, hpads⟩ :=
    (s.countSlots n words (hd.length / 64 + pl.length / 64)).newMessage_naks n hd pl hn _ hbad
  rw [State.countSlots_link] at hrx
  exact ⟨_, exec_linkMessage_header s n words bad hd pl hn hup hlen, hrx, hnak,
    hinbox.trans (s.countSlots_inbox n _ _), hpads.trans (s.countSlots_paddocks n _ _)⟩

/-- An abort in sequence: no partial message of its lane is left, and nothing is delivered. -/
theorem exec_abort_clears (s : State) (n : Nat) (hd : List Byte) (hn : n < 48) (hup : (s.link n).isUp = true)
    (hlen : hd.length = 64) (htype : (parseMsg hd).type = 0x13) (hcrc : headerCrcOk hd = true)
    (hseq : (parseMsg hd).seq = (s.link n).rxSeq) (hres : reservedSet hd = false) :
    ∃ t, exec (.abort n hd) s = .next t ∧ (t.link n).rxSeq = ((s.link n).rxSeq + 1) % 65536
      ∧ (∀ x ∈ (t.link n).arriving, (parseMsg x.header).lane ≠ (parseMsg hd).lane) ∧ t.inbox = s.inbox
      ∧ t.paddocks = s.paddocks := by
  obtain ⟨u, hu, hexec⟩ := exec_abort_due s n hd hn hup hlen htype hcrc hseq hres
  have hf := (u.modLink n fun l => (l.dropLane (parseMsg hd).lane).ended (parseMsg hd).seq).freeSlots_reception n
    (parseMsg hd).lane ((s.link n).slotsOfLane (parseMsg hd).lane)
  have hrx : (u.link n).rxSeq = ((s.link n).rxSeq + 1) % 65536 := by
    rw [reception_rxSeq hu, State.link_modLink_same _ _ _ hn]
    rfl
  refine ⟨_, hexec, ?_, fun x hx => ?_, ?_, ?_⟩
  · rw [reception_rxSeq hf, State.link_modLink_same _ _ _ hn, Link.ended_rxSeq]
    exact hrx
  · rw [reception_arriving hf, State.link_modLink_same _ _ _ hn, Link.ended_arriving] at hx
    exact Link.mem_dropLane_arriving _ _ x hx
  · rw [reception_inbox hf, State.modLink_inbox, reception_inbox hu, State.modLink_inbox]
  · rw [reception_paddocks hf, State.modLink_paddocks, reception_paddocks hu, State.modLink_paddocks]

section
variable (s : State) (n : Nat) (hd : List Byte) (hn : n < 48) (hup : (s.link n).isUp = true)
  (hok : controlOk hd = true) (hres : controlReserved hd = false) (hidle : (s.link n).waiting = [])
include hn hup hok hres hidle

/-- A link-control message without flags sets the credit totals. -/
theorem exec_linkControl_credits (hflag : leField hd 1 1 = 0) :
    exec (.linkControl n hd) s = .next (s.takeCredits n hd) := by
  have hc := s.control_idle n hn hidle hd hres (by rw [hflag]; decide)
  rw [hflag, if_neg (by decide)] at hc
  rw [exec_linkControl_plain s n hd hn hup hok (by rw [hflag]; decide) (by rw [hflag]; decide)
    (by rw [hflag]; decide), hc]

/-- With flag [1] it also acknowledges. -/
theorem exec_linkControl_acks (hflag : leField hd 1 1 = 2) :
    exec (.linkControl n hd) s = .next ((s.takeCredits n hd).acked n (leField hd 0x10 2)) := by
  have hc := s.control_idle n hn hidle hd hres (by rw [hflag]; decide)
  rw [hflag, if_pos (by decide)] at hc
  rw [exec_linkControl_plain s n hd hn hup hok (by rw [hflag]; decide) (by rw [hflag]; decide)
    (by rw [hflag]; decide), hc]

end

/-- Settles O36, clause by clause: receipt in sequence, the rest of a message, errors, aborts, link control, replay and
acknowledgement. -/
theorem linkReceipt : Obligations.LinkReceipt := by
  unfold Obligations.LinkReceipt
  refine ⟨?whole, ?brokenOff, ?rest, exec_linkMessage_errored, exec_abort_clears, ?control, ?nak, ?ackDue⟩
  case whole =>
    intro s n hd pl h hn hup hlen hcrc hlow hhigh hseq hwhole hpay hres hsize hprio hdest harr htaken hbody
    exact exec_linkMessage_whole s n hd pl hn hup hlen hcrc hlow hhigh hseq harr htaken
      ⟨hwhole, hpay, hres, hsize, hprio, hdest, hbody⟩
  case brokenOff => exact exec_linkMessage_partial
  case rest =>
    intro s n x rest pl h hn hup harr _ _ hwhole hpay hres hsize hprio hdest hbody
    exact exec_linkMessage_rest s n x rest pl hn hup harr ⟨hwhole, hpay, hres, hsize, hprio, hdest, hbody⟩
  case control =>
    intro s n hd hn hup hok hres hidle
    have hl := s.takeCredits_link n hd hn
    refine ⟨fun hflag => ⟨_, exec_linkControl_credits s n hd hn hup hok hres hidle hflag, hl, rfl⟩, fun hflag => ?_⟩
    obtain ⟨hack, hout, hinbox⟩ := (s.takeCredits n hd).acked_idle n hn (by rw [hl]; exact hidle) (leField hd 0x10 2)
    rw [hl] at hack
    exact ⟨_, exec_linkControl_acks s n hd hn hup hok hres hidle hflag, hack, hout, hinbox⟩
  case nak =>
    intro s n i hd hn hup hok hres hflag hidle hi hfew
    have hl := s.takeCredits_link n hd hn
    obtain ⟨hun, hout, hpads⟩ := (s.takeCredits n hd).replayFrom_found n (leField hd 0x12 2) i hn
      (by rw [hl]; exact hi) (by rw [hl]; exact hfew)
    rw [hl] at hun hout
    exact ⟨_, exec_nak_idle s n hd hn hup hok hres hflag hidle, hun, hout, hpads⟩
  case ackDue =>
    intro s n hn hup hdue
    refine ⟨_, exec_linkAckDue_due s n hn hup hdue, ?_⟩
    rw [s.sendControl_ack n, State.link_modLink_same _ _ _ hn]
    exact ⟨rfl, rfl, rfl⟩

end Sys2Proof.Machine
end
